-- ==== Sys2Proof/Word.lean ====
section
/-! DEFINITION. The word types and the names of the part's repeated things: ports, loops, channels, and one value for each of them. -/

namespace Sys2Proof

/-- A byte of a message, a character of a digit or of caller data, an epoch number. -/
abbrev Byte := BitVec 8

/-- A 16-bit value: a sequence number or a 16-bit field (00_scope.md, "Sequence numbers"). -/
abbrev Half := BitVec 16

/-- A 32-bit value: a Timebase value, a stamp, a transit, a counter (00_scope.md). -/
abbrev Word := BitVec 32

/-- A sample: 16-bit two's complement (00_scope.md, "Samples and time"). -/
abbrev Sample := BitVec 16

/-- The agent ports (11.1). -/
inductive Port where
  | p0 | p1 | p2
deriving DecidableEq, Repr, Inhabited

/-- The subscriber loops. -/
inductive Loop where
  | a | b
deriving DecidableEq, Repr, Inhabited

/-- The channels 0 to 3. -/
inductive Chan where
  | c0 | c1 | c2 | c3
deriving DecidableEq, Repr, Inhabited

/-- The ports in order. -/
abbrev Port.all : List Port := [.p0, .p1, .p2]

/-- The loops in order. -/
abbrev Loop.all : List Loop := [.a, .b]

/-- The channels in ascending order. -/
abbrev Chan.all : List Chan := [.c0, .c1, .c2, .c3]

/-- One value for each port. -/
structure PerPort (α : Type) where
  p0 : α
  p1 : α
  p2 : α
deriving DecidableEq, Repr, Inhabited

/-- One value for each loop. -/
structure PerLoop (α : Type) where
  a : α
  b : α
deriving DecidableEq, Repr, Inhabited

/-- One value for each channel. -/
structure PerChan (α : Type) where
  c0 : α
  c1 : α
  c2 : α
  c3 : α
deriving DecidableEq, Repr, Inhabited

/-- The value of one port. -/
def PerPort.get {α : Type} (x : PerPort α) : Port → α
  | .p0 => x.p0
  | .p1 => x.p1
  | .p2 => x.p2

/-- The value of one port replaced. -/
def PerPort.put {α : Type} (x : PerPort α) (p : Port) (v : α) : PerPort α :=
  match p with
  | .p0 => { x with p0 := v }
  | .p1 => { x with p1 := v }
  | .p2 => { x with p2 := v }

/-- A value of each port through a function. -/
def PerPort.map {α β : Type} (f : α → β) (x : PerPort α) : PerPort β := ⟨f x.p0, f x.p1, f x.p2⟩

/-- The value of one loop. -/
def PerLoop.get {α : Type} (x : PerLoop α) : Loop → α
  | .a => x.a
  | .b => x.b

/-- The value of one loop replaced. -/
def PerLoop.put {α : Type} (x : PerLoop α) (l : Loop) (v : α) : PerLoop α :=
  match l with
  | .a => { x with a := v }
  | .b => { x with b := v }

/-- The value of one channel. -/
def PerChan.get {α : Type} (x : PerChan α) : Chan → α
  | .c0 => x.c0
  | .c1 => x.c1
  | .c2 => x.c2
  | .c3 => x.c3

/-- The value of one channel replaced. -/
def PerChan.put {α : Type} (x : PerChan α) (c : Chan) (v : α) : PerChan α :=
  match c with
  | .c0 => { x with c0 := v }
  | .c1 => { x with c1 := v }
  | .c2 => { x with c2 := v }
  | .c3 => { x with c3 := v }

/-- The sum of the four channels' numbers. -/
def PerChan.total (x : PerChan Nat) : Nat := x.c0 + x.c1 + x.c2 + x.c3

/-- What SC measures over one interval of a data-tone path (R96): the sinusoidal component that stands out, its
level below the reference and the other content below it in thousandths of a dB, and the samples it fills.
The filters behind the figures are outside the spec (log 9). -/
structure IntervalMeasure where
  milliHz : Nat
  levelBelow : Int
  restBelow : Int
  occupancy : Nat
deriving DecidableEq, Repr, Inhabited

/-- What SC measures over the most recent 40 line samples of a loop (R120): a low and a high component, and how far
each of them and all other content lie below the reference, in thousandths of a dB (log 9). -/
structure KeyMeasure where
  rowMilliHz : Nat
  colMilliHz : Nat
  rowBelow : Int
  colBelow : Int
  restBelow : Int
deriving DecidableEq, Repr, Inhabited

end Sys2Proof
end

