-- ==== Sys2Proof/Config.lean ====
section
/-! DEFINITION. What an implementation fixes and the free values: the constants of the part, the types of its settings, and the opaque sources of every value the spec leaves undefined or unstated. -/

namespace Sys2Proof

/-- The source of free values: the k-th free value of a run is `Config.freeValue k`, of which nothing is known.
Used for the channel settings between a reset and the next OPEN (R1, log 7), for the start phase of a caller
transmission (R144, log 12) and for a digit's duration that does not fit its field (R199, log 13). -/
opaque Config.freeValue : Nat → Nat

/-- Whether the caller transmitter rounds its sine up or down at a phase (R144 names no rounding, log 12). -/
opaque Config.fskRoundsUp : Nat → Bool

/-- A segment of a tone program (R153): 0 means an absent component, a duration of 0 means hold. -/
structure Segment where
  f1 : Nat
  f2 : Nat
  level : Nat
  duration : Nat
deriving DecidableEq, Repr, Inhabited

/-- A tone program: no segments is the empty program (R153). -/
structure Program where
  segments : List Segment
  repeats : Nat
deriving DecidableEq, Repr, Inhabited

/-- The fifteen keys of the channel template, and of an open channel (R20, R185). -/
structure ChannelSettings where
  depthMin : Nat
  depthMax : Nat
  depthStart : Nat
  guard : Nat
  window : Nat
  smoothing : Nat
  dataDepth : Nat
  dataSlack : Nat
  history : Nat
  redundancy : Nat
  packet : Nat
  autoData : Bool
  suppressDigits : Bool
  parkTime : Nat
  drainLimit : Nat
deriving DecidableEq, Repr, Inhabited

/-- The global settings (R185). -/
structure GlobalSettings where
  cadenceStep : Nat
  ringBudget : Nat
  assumedLoad : Nat
  callerDelay : Nat
  testGate : Nat
  silenceLevel : Nat
  toneDataMin : Nat
  reserve : PerChan Nat
deriving DecidableEq, Repr, Inhabited

/-- The settings of one loop (R185). -/
structure LoopSettings where
  hookThreshold : Nat
  hookQualify : Nat
  pulseBreakMax : Nat
  flashMin : Nat
  hangupMin : Nat
  interdigitMin : Nat
  toneOnMin : Nat
  toneOffMin : Nat
  autoDialTone : Bool
  dialProgram : Fin 8
  offerSet : PerPort Bool
  rxGain : Nat
  txGain : Nat
  denyOnLoss : Bool
  denyTime : Nat
  parkLostProgram : Option (Fin 8)
deriving DecidableEq, Repr

/-- The settings of one port (R185); bit k of the mask is set when notice kind code k is queued (R200). -/
structure PortSettings where
  silenceTime : Nat
  noticeMask : Word
deriving DecidableEq, Repr

/-- A complete profile (12.2): every live setting of the four groups, the reserves and the eight tone programs. -/
structure Profile where
  global : GlobalSettings
  loop : PerLoop LoopSettings
  port : PerPort PortSettings
  template : ChannelSettings
  programs : Vector Program 8
deriving DecidableEq, Repr

end Sys2Proof
end

