-- ==== Sys2Proof/Syntax.lean ====
section
/-! DEFINITION. The commands of the block: one constructor per row of spec/opcode_table.json. -/

namespace Sys2Proof

/-- The commands. A request carries its port, its tag byte and its parameter bytes, most significant byte first, in
the order of R200. A message carries the body bytes of a frame whose check has matched (R171). An event carries the
port, loop or channel it concerns and what the part measures at it. -/
inductive Instr where
  /-- OPEN (R4, R5), code 0x01. -/
  | openReq (p : Port) (tag : Byte) (params : List Byte)
  /-- CLAIM (R12, R13), code 0x02. -/
  | claimReq (p : Port) (tag : Byte) (params : List Byte)
  /-- HANDOFF (R9), code 0x03. -/
  | handoffReq (p : Port) (tag : Byte) (params : List Byte)
  /-- CLOSE (R16, R17), code 0x04. -/
  | closeReq (p : Port) (tag : Byte) (params : List Byte)
  /-- CONNECT (R19), code 0x05. -/
  | connectReq (p : Port) (tag : Byte) (params : List Byte)
  /-- SET_FALLBACK (R7), code 0x06. -/
  | setFallbackReq (p : Port) (tag : Byte) (params : List Byte)
  /-- CHANNEL_SET (R20, R21), code 0x07. -/
  | channelSetReq (p : Port) (tag : Byte) (params : List Byte)
  /-- STATS (R23), code 0x08. -/
  | statsReq (p : Port) (tag : Byte) (params : List Byte)
  /-- MODE (R102), code 0x09. -/
  | modeReq (p : Port) (tag : Byte) (params : List Byte)
  /-- POLARITY (R109), code 0x10. -/
  | polarityReq (p : Port) (tag : Byte) (params : List Byte)
  /-- DENY (R110), code 0x11. -/
  | denyReq (p : Port) (tag : Byte) (params : List Byte)
  /-- TONE (R157), code 0x12. -/
  | toneReq (p : Port) (tag : Byte) (params : List Byte)
  /-- TONE_STOP (R159), code 0x13. -/
  | toneStopReq (p : Port) (tag : Byte) (params : List Byte)
  /-- TONE_DEFINE (R154), code 0x14. -/
  | toneDefineReq (p : Port) (tag : Byte) (params : List Byte)
  /-- GAIN (R152), code 0x15. -/
  | gainReq (p : Port) (tag : Byte) (params : List Byte)
  /-- RING (R131), code 0x20. -/
  | ringReq (p : Port) (tag : Byte) (params : List Byte)
  /-- RING_STOP (R134), code 0x21. -/
  | ringStopReq (p : Port) (tag : Byte) (params : List Byte)
  /-- TEST (R163), code 0x22. -/
  | testReq (p : Port) (tag : Byte) (params : List Byte)
  /-- SET (R186), code 0x30. -/
  | setReq (p : Port) (tag : Byte) (params : List Byte)
  /-- GET (R188), code 0x31. -/
  | getReq (p : Port) (tag : Byte) (params : List Byte)
  /-- INQUIRE (R189), code 0x32. -/
  | inquireReq (p : Port) (tag : Byte) (params : List Byte)
  /-- PROFILE_SAVE (R190), code 0x33. -/
  | profileSaveReq (p : Port) (tag : Byte) (params : List Byte)
  /-- PROFILE_LOAD (R192), code 0x34. -/
  | profileLoadReq (p : Port) (tag : Byte) (params : List Byte)
  /-- PROFILE_START (R193), code 0x35. -/
  | profileStartReq (p : Port) (tag : Byte) (params : List Byte)
  /-- RESTART (R194), code 0x36. -/
  | restartReq (p : Port) (tag : Byte) (params : List Byte)
  /-- A valid REQUEST with a code the part does not know (R175). -/
  | unknownRequestCode (p : Port) (tag : Byte) (code : Byte) (params : List Byte)
  /-- MEDIA_IN (R40, R41), with the body of R198. -/
  | mediaIn (p : Port) (body : List Byte)
  /-- KEEP (R172), with its body, empty when well formed. -/
  | keep (p : Port) (body : List Byte)
  /-- Bytes received on a port's link that make no valid message (R171). -/
  | badFrame (p : Port) (bytes : List Byte)
  /-- Power-on (R193). -/
  | powerOn
  /-- Assertion of the reset line (R193). -/
  | resetLine
  /-- The pending restart is taken (R194). -/
  | restartTaken
  /-- A port's silence end is reached (R174). -/
  | silenceTimerExpiry (p : Port)
  /-- A channel's park deadline is reached (R14). -/
  | parkExpiry (c : Chan)
  /-- A channel's drain deadline is reached (R18). -/
  | drainDeadline (c : Chan)
  /-- A loop's deny end is reached (R111). -/
  | denyEnd (l : Loop)
  /-- The DC loop current becomes the given number of microamperes (R112). -/
  | loopCurrentChange (l : Loop) (microamps : Int)
  /-- A raw state has persisted for hook_qualify (R113). -/
  | hookQualified (l : Loop)
  /-- A break reaches hangup_min (R117). -/
  | hangup (l : Loop)
  /-- The make reaches interdigit_min (R118). -/
  | rotaryDigitEnd (l : Loop)
  /-- What is measured on the line for the tone-digit detector changes (R120, R121). -/
  | dtmfKeyChange (l : Loop) (m : Option KeyMeasure)
  /-- A key has been present for tone_on_min (R121). -/
  | dtmfOnsetQualified (l : Loop)
  /-- A key has been absent for tone_off_min (R121). -/
  | dtmfDigitEnd (l : Loop)
  /-- The Timebase reaches the next cadence step boundary (R129, R137). -/
  | stepBoundary
  /-- A ring record's caller wait ends (R142). -/
  | callerWaitEnd (l : Loop)
  /-- The last caller sample has been sent (R145). -/
  | callerTransmissionEnd (l : Loop)
  /-- The REF phase of a test ends with this count of cycles (R164). -/
  | refPhaseEnd (l : Loop) (count : Nat)
  /-- The LOOP phase of a test ends with this count of cycles (R165). -/
  | loopPhaseEnd (l : Loop) (count : Nat)
  /-- The profile write in progress completes (R190). -/
  | saveComplete
  /-- A channel ticks, with what is measured on the block it has played (R53, R97). -/
  | channelTick (c : Chan) (m : Option IntervalMeasure)
  /-- A loop block closes, with what is measured on its gained line samples (R80, R97). -/
  | loopBlockClose (l : Loop) (m : Option IntervalMeasure)
  /-- The program a loop's player plays completes (R158). -/
  | toneComplete (l : Loop)
  /-- The agent clocks the first bit of a new byte: with no transfer in progress a message can begin (R170, R180, log
  40). -/
  | messageBegin (p : Port)
  /-- The agent has clocked the last bit of the message in transfer (R170, R176). -/
  | transferComplete (p : Port)
  /-- The next sample time, with the line samples the two codecs deliver (R150, R151). -/
  | sampleTime (lineA : Sample) (lineB : Sample)
deriving DecidableEq, Repr

end Sys2Proof
end

