-- ==== Sys2Proof/Machine/Types.lean ====
section
/-! DEFINITION. The component types of the state, block by block, with the spec's names for their items. -/

namespace Sys2Proof.Machine

/-! ### Names of modes, states and causes -/

/-- The channel states (R2). -/
inductive ChanState where
  | idle | run | parked | draining
deriving DecidableEq, Repr, Inhabited

/-- VOICE or DATA (06). -/
inductive Mode where
  | voice | data
deriving DecidableEq, Repr, Inhabited

/-- The voice flag (R19). -/
inductive VoiceFlag where
  | voiced | muted
deriving DecidableEq, Repr, Inhabited

/-- Why a channel parked (R8, R9). -/
inductive ParkCause where
  | portDown | handoff
deriving DecidableEq, Repr, Inhabited

/-- Why a drain ended (R17, R18). -/
inductive DrainReason where
  | empty | limit | hangup
deriving DecidableEq, Repr, Inhabited

/-- The play state (R50 to R57). -/
inductive PlayState where
  | priming | playing
deriving DecidableEq, Repr, Inhabited

/-- The data-tone bands (R96). -/
inductive Band where
  | answer | calling
deriving DecidableEq, Repr, Inhabited

/-- The path a data-tone detection or hint came from (R95, R100). -/
inductive TonePath where
  | loop | played | far
deriving DecidableEq, Repr, Inhabited

/-- The feed states of a loop (R107). -/
inductive FeedState where
  | idle | active | ringing | callerData | testing | denied
deriving DecidableEq, Repr, Inhabited

/-- The direction of battery (R109). -/
inductive Polarity where
  | normal | reversed
deriving DecidableEq, Repr, Inhabited

/-- The loop current judged against the threshold: ON for on-hook, OFF for off-hook (R112). -/
inductive RawState where
  | on | off
deriving DecidableEq, Repr, Inhabited

/-- The qualified supervision state (R113). -/
inductive HookState where
  | onhook | offhook | brk
deriving DecidableEq, Repr, Inhabited

/-- The tone-digit detector: the key it concerns and the times it needs (R121). -/
inductive Dtmf where
  | quiet
  | onset (key : Byte) (onset : Word)
  | held (key : Byte) (onset : Word)
  | release (key : Byte) (onset : Word) (gap : Word)
deriving DecidableEq, Repr, Inhabited

/-- How a digit was dialled (R125). -/
inductive DigitMethod where
  | pulse | tone
deriving DecidableEq, Repr, Inhabited

/-- The caller state of a ring record (08, 8.2). -/
inductive CallerState where
  | none | awaitRunEnd | waiting | sending | complete | notSent | aborted
deriving DecidableEq, Repr, Inhabited

/-- Why a ring ended in RING_DONE (R141). -/
inductive RingReason where
  | completed | stopped
deriving DecidableEq, Repr, Inhabited

/-- The phase of a ringer load test (10.1). -/
inductive TestPhase where
  | none | ref | loop
deriving DecidableEq, Repr, Inhabited

/-- The outcome of a test (R167). -/
inductive TestOutcome where
  | completed | refFault | abortedOffhook | abortedRing
deriving DecidableEq, Repr, Inhabited

/-- What started a tone (R156). -/
inductive ToneKind where
  | requested | auto | parkLost
deriving DecidableEq, Repr, Inhabited

/-- What ended a tone (R158). -/
inductive ToneCause where
  | completed | stopped | replaced | hangup | digit | taken
deriving DecidableEq, Repr, Inhabited

/-- What a start-up or restart was caused by (R195). -/
inductive StartCause where
  | power | line | restart
deriving DecidableEq, Repr, Inhabited

/-- The outcomes a reply can carry (11.4). -/
inductive ReplyCode where
  | ok | clamped | badParam | busy | wrongState | notHolder | held | loopBusy | noChannel | noPool | unknown
deriving DecidableEq, Repr, Inhabited

/-! ### Notices, replies, messages -/

/-- The counts and caller status a ring ends with (R141). -/
structure RingSummary where
  status : CallerState
  rung : Nat
  deferred : Nat
  suppressed : Nat
  bursts : Nat
deriving DecidableEq, Repr, Inhabited

/-- What a notice of each kind carries (R202). -/
inductive NoticeData where
  | seize
  | digit (digit : Byte) (method : DigitMethod) (count : Half)
  | badDigit (count : Nat)
  | flash (ms : Half)
  | hangup
  | answered (r : RingSummary)
  | ringDone (reason : RingReason) (r : RingSummary)
  | modeChange (mode : Mode) (switched : Bool) (path : TonePath) (band : Option Band)
  | drainDone (reason : DrainReason)
  | parkExpired (oldHolder : Port)
  | toneDone (program : Fin 8) (cause : ToneCause)
  | testDone (outcome : TestOutcome) (nRef : Nat) (nLoop : Nat) (load : Option Nat) (isOver : Bool)
  | saveDone (slot : Nat)
  | takeoverOffer (lead : Bool) (mode : Mode) (cause : ParkCause) (oldHolder : Port) (msLeft : Nat)
  | start (cause : StartCause) (slot : Option Nat) (fallback : Bool)
  | linkUp (port : Port)
  | overflow (port : Port) (dropped : Nat)
deriving DecidableEq, Repr, Inhabited

/-- A notice record: its kind and data, the loop and channel when the kind has them, the notice time (R177). -/
structure Notice where
  data : NoticeData
  loop : Option Loop
  chan : Option Chan
  time : Word
deriving DecidableEq, Repr, Inhabited

/-- A reply: the request's tag, the outcome and the result bytes of R200; `restart` marks the reply to an accepted
RESTART, whose transfer makes the restart due (R194). -/
structure Reply where
  tag : Byte
  code : ReplyCode
  results : List Byte
  restart : Bool := false
deriving DecidableEq, Repr, Inhabited

/-- An entry of a control queue (R177). -/
inductive Entry where
  | reply (r : Reply)
  | notice (n : Notice)
deriving DecidableEq, Repr, Inhabited

/-- A MEDIA_OUT message as formed (R85). -/
structure MediaOut where
  chan : Chan
  first : Half
  stamp : Word
  dataFlag : Bool
  continued : Bool
  primaries : List (List Sample)
  redundant : List (List Sample)
deriving DecidableEq, Repr, Inhabited

/-- A MEDIA_IN message as read from its body (R40, R198). -/
structure MediaMsg where
  chan : Byte
  first : Half
  stamp : Word
  dataHint : Bool
  resync : Bool
  primaries : List (List Sample)
  redundant : List (List Sample)
deriving DecidableEq, Repr, Inhabited

/-! ### Playout, timing, framing, detection -/

/-- A queue entry of PE (03, 3.1). -/
structure QEntry where
  epoch : Byte
  seq : Half
  samples : List Sample
  peak : Nat
deriving DecidableEq, Repr, Inhabited

/-- The block being handed to LAM and how far it has gone (R50). -/
structure CurrentBlock where
  samples : List Sample
  pos : Nat
deriving DecidableEq, Repr, Inhabited

/-- PE's state of a channel (03, 3.1). -/
structure Playout where
  queue : List QEntry
  anchored : Bool
  epochIn : Byte
  baseIn : Half
  playEpoch : Byte
  nextPlay : Half
  playState : PlayState
  /-- The channel is in the PRIMING that follows its OPEN (R52). -/
  afterOpen : Bool
  missing : Nat
  lastPlayed : List Sample
  lastPeak : Nat
  current : Option CurrentBlock
  /-- LAM has taken the last sample of the current block, or the first sample after OPEN: a tick is to be taken (R50).
  -/
  tickDue : Bool
  outputPeak : Nat
  /-- The drain was begun in PRIMING and its first tick has no block of the run to judge (R59, R74). -/
  freshRun : Bool
deriving DecidableEq, Repr, Inhabited

/-- An open measurement window (04, 4.1); while the window is closed nothing of it is held (log 44). -/
structure Window where
  w0 : Word
  t0 : Word
  span : Nat
  minRel : Int
  maxRel : Int
deriving DecidableEq, Repr, Inhabited

/-- TRU's state of a channel (04, 4.1). -/
structure Timing where
  window : Option Window
  fPrev : Option Word
  est : Int
  acc : Int
  target : Nat
  corr : Int
  closedSinceOpen : Bool
deriving DecidableEq, Repr, Inhabited

/-- An uplink block in the history ring (05, 5.1). -/
structure HEntry where
  seq : Half
  stamp : Word
  samples : List Sample
deriving DecidableEq, Repr, Inhabited

/-- The MEDIA_OUT of a channel being transferred (05, 5.1). -/
structure TransferRecord where
  port : Port
  first : Half
  count : Nat
deriving DecidableEq, Repr, Inhabited

/-- UF's state of a channel (05, 5.1). -/
structure Framer where
  ringSize : Nat
  ring : List HEntry
  nextSeq : Half
  stampOffset : Word
  /-- The first block time, until that block is built. -/
  firstBlock : Option Word
  sendPtr : Half
  transfer : Option TransferRecord
  continued : Bool
deriving DecidableEq, Repr, Inhabited

/-- The record of one data-tone path (06, 6.1). -/
structure PathRecord where
  band : Option Band
  length : Nat
  reported : Bool
deriving DecidableEq, Repr, Inhabited

/-- SC's data-tone detector of a channel (06, 6.1). -/
structure Detector where
  active : Bool
  loopPath : PathRecord
  playedPath : PathRecord
deriving DecidableEq, Repr, Inhabited

/-- The statistics of a channel, in the order of the table of R22. -/
structure Stats where
  late : Word
  duplicate : Word
  overrun : Word
  poolFull : Word
  resync : Word
  epochDrop : Word
  recovered : Word
  concealed : Word
  silentFill : Word
  dataGap : Word
  windowReject : Word
  slipDrop : Word
  slipRepeat : Word
  corrInsert : Word
  corrSkip : Word
  dataRepeat : Word
  dataSkip : Word
  historyLost : Word
  parks : Word
  takeovers : Word
  pendingDropped : Word
deriving DecidableEq, Repr, Inhabited

/-- A channel context: the record of CT (1.1) and the channel's state in PE, TRU, UF and SC. -/
structure Channel where
  state : ChanState
  holder : Option Port
  fallback : Option Port
  parkFallback : Option Port
  loop : Loop
  lead : Bool
  voice : VoiceFlag
  mode : Mode
  parkDeadline : Word
  parkCause : ParkCause
  oldHolder : Port
  drainDeadline : Word
  notices : List Notice
  settings : ChannelSettings
  stats : Stats
  pe : Playout
  tru : Timing
  uf : Framer
  det : Detector
deriving DecidableEq, Repr, Inhabited

/-- BP's counts (02, 2.1); the reserves are live settings. -/
structure Pool where
  held : PerChan Nat
  free : PerChan Nat
  shared : Nat
deriving DecidableEq, Repr, Inhabited

/-! ### Loops -/

/-- A caller record: five fields, each of which may be absent (R133). -/
structure CallerRecord where
  time : Option (List Byte)
  number : Option (List Byte)
  numberWithheld : Option (List Byte)
  name : Option (List Byte)
  nameWithheld : Option (List Byte)
deriving DecidableEq, Repr, Inhabited

/-- A ring record (08, 8.2). -/
structure RingRecord where
  owner : Port
  ownerLost : Bool
  period : Nat
  mask : Half
  phaseOrigin : Nat
  started : Bool
  burstsLeft : Nat
  final : Bool
  rang : Bool
  lastAge : Option Nat
  ringAge : Nat
  caller : CallerRecord
  callerState : CallerState
  waitEnd : Word
  rung : Nat
  deferred : Nat
  suppressed : Nat
  bursts : Nat
deriving DecidableEq, Repr, Inhabited

/-- A caller-data transmitter at work (R144): the line message, the samples already sent, and the phase of the sine
in units of 1/(8000 * 65536) of a turn. -/
structure Transmitter where
  message : List Byte
  sent : Nat
  phase : Nat
deriving DecidableEq, Repr, Inhabited

/-- A tone being played (09, 9.1); `complete` is the sample time after the program's last sample once that sample
has been played (R153). -/
structure Tone where
  kind : ToneKind
  /-- The port whose TONE started a REQUESTED tone (9.1); what it holds for the other kinds is the model's choice (log
  38). -/
  requester : Port
  number : Fin 8
  program : Program
  segIndex : Nat
  segSample : Nat
  passes : Nat
  complete : Option Word
deriving DecidableEq, Repr, Inhabited

/-- A channel's output at a sample time; `left` is the voice flag the channel had when it left the loop, once it has
(log 19). -/
structure ChanOut where
  sample : Sample
  left : Option VoiceFlag
deriving DecidableEq, Repr, Inhabited

/-- What LAM keeps of one sample time for the uplink: the gained line sample u and the outputs of the attached
channels (R150, R151). -/
structure MixSample where
  u : Sample
  outs : PerChan (Option ChanOut)
deriving DecidableEq, Repr, Inhabited

/-- A loop block that has closed and waits for UF (R80). -/
structure ClosedBlock where
  start : Word
  /-- The sample time following the block's last sample. -/
  next : Word
  mix : List MixSample
deriving DecidableEq, Repr, Inhabited

/-- LTU's state of a loop (10.1). -/
structure LineTest where
  phase : TestPhase
  requester : Port
  gate : Nat
  gateLength : Nat
  phaseEnd : Word
  nRef : Nat
  nLoop : Nat
  load : Option Nat
deriving DecidableEq, Repr, Inhabited

/-- A loop: LI (7.1), the DTMF detector, the ring record and transmitter of RG, the player and blocks of LAM, LTU's
record, and the pending park-lost denial of CT. -/
structure LoopState where
  feed : FeedState
  polarity : Polarity
  denyEnd : Word
  current : Int
  raw : RawState
  rawEdge : Word
  hook : HookState
  breakStart : Word
  makeStart : Word
  pulses : Nat
  dtmf : Dtmf
  /-- The key on the line as last measured, whatever the feed; the detector judges it in ACTIVE (R120, log 36). -/
  keyPresent : Option Byte
  dial : List Byte
  dialOverflow : Bool
  autoTone : Bool
  ringSignal : Bool
  ring : Option RingRecord
  tx : Option Transmitter
  player : Option Tone
  /-- A pending park-lost denial, with the deny_time read at the expiry (R15). -/
  lostDenial : Option Nat
  blockStart : Word
  block : List MixSample
  closed : Option ClosedBlock
  codec : Sample
  test : LineTest
deriving DecidableEq, Repr, Inhabited

/-! ### Ports -/

/-- The receiver of a port (R171): the bytes gathered after the sync byte. -/
inductive Receiver where
  | hunt
  | frame (bytes : List Byte)
deriving DecidableEq, Repr, Inhabited

/-- What is being sent: the oldest control entry, or a media message; `current` is set while the channel has not
returned to IDLE since the message was formed (R86). -/
inductive Sending where
  | control
  | media (m : MediaOut) (current : Bool)
deriving DecidableEq, Repr, Inhabited

/-- An outgoing message in progress: what it is, its bytes, and how many of them have been sent, the one the agent
clocks now among them (R170). -/
structure Transfer where
  what : Sending
  frame : List Byte
  position : Nat
deriving DecidableEq, Repr, Inhabited

/-- ALI's state of a port (11.1). -/
structure PortState where
  up : Bool
  silenceEnd : Word
  receiver : Receiver
  queue : List Entry
  outstanding : Nat
  overflowMark : Bool
  dropped : Nat
  transfer : Option Transfer
  /-- The bytes the part has sent on the link at the port's last MESSAGE_BEGIN or TRANSFER_COMPLETE, in order (R170, log
  40). -/
  sent : List Byte
  lastServed : Option Chan
  badFrames : Word
  requestOverrun : Word
  notHolderMedia : Word
  noticesDropped : Word
deriving DecidableEq, Repr, Inhabited

/-! ### Settings Store -/

/-- A profile slot (12.2). -/
inductive Slot where
  | invalid
  | writing
  | valid (p : Profile)
deriving DecidableEq, Repr

/-- A save in progress (R190). -/
structure Save where
  slot : Nat
  snapshot : Profile
  requester : Port
  accepted : Word
deriving DecidableEq, Repr

/-- What SS keeps besides the live settings; slot 0 is the factory profile and is not stored. -/
structure Store where
  slot1 : Slot
  slot2 : Slot
  slot3 : Slot
  start : Fin 4
  save : Option Save
deriving DecidableEq, Repr

/-- A restart asked for by an accepted RESTART: pending until the reply's transfer completes, then due (R194). -/
inductive Restart where
  | none
  | pending (p : Port)
  | due
deriving DecidableEq, Repr, Inhabited

end Sys2Proof.Machine
end

