-- ==== Sys2Proof/Machine/Factory.lean ====
section
/-! DEFINITION. The factory profile (R155, R185) and the values each block has after a reset, whatever its kind. -/

namespace Sys2Proof.Machine

/-- The empty program (R153). -/
def emptyProgram : Program := ⟨[], 0⟩

/-- The factory programs (R155). The level 0 of their silent segments and the repeat count 0 of the empty programs 6 and
7 are the model's choice (log 34). -/
def factoryPrograms : Vector Program 8 :=
  #v[⟨[⟨350, 440, 13, 0⟩], 0⟩,
     ⟨[⟨480, 620, 17, 500⟩, ⟨0, 0, 0, 500⟩], 0⟩,
     ⟨[⟨480, 620, 17, 250⟩, ⟨0, 0, 0, 250⟩], 0⟩,
     ⟨[⟨440, 480, 19, 2000⟩, ⟨0, 0, 0, 4000⟩], 0⟩,
     ⟨[⟨440, 0, 13, 300⟩, ⟨0, 0, 0, 9700⟩], 2⟩,
     ⟨[⟨900, 0, 13, 330⟩, ⟨1350, 0, 13, 330⟩, ⟨1750, 0, 13, 330⟩, ⟨0, 0, 0, 1000⟩], 2⟩,
     emptyProgram,
     emptyProgram]

/-- The factory template (R185). -/
def factoryTemplate : ChannelSettings where
  depthMin := 2
  depthMax := 20
  depthStart := 4
  guard := 160
  window := 32000
  smoothing := 2
  dataDepth := 12
  dataSlack := 2
  history := 16
  redundancy := 2
  packet := 2
  autoData := true
  suppressDigits := false
  parkTime := 2000
  drainLimit := 1000

/-- The factory settings of a loop (R185). -/
def factoryLoop : LoopSettings where
  hookThreshold := 10
  hookQualify := 20
  pulseBreakMax := 90
  flashMin := 250
  hangupMin := 1200
  interdigitMin := 300
  toneOnMin := 40
  toneOffMin := 40
  autoDialTone := true
  dialProgram := 0
  offerSet := ⟨true, true, true⟩
  rxGain := 256
  txGain := 256
  denyOnLoss := true
  denyTime := 600
  parkLostProgram := some 5

/-- The factory profile, which slot 0 always holds (12.1, 12.2). -/
def factoryProfile : Profile where
  global :=
    { cadenceStep := 500, ringBudget := 50, assumedLoad := 20, callerDelay := 500, testGate := 16384,
      silenceLevel := 256, toneDataMin := 400, reserve := ⟨48, 48, 48, 48⟩ }
  loop := ⟨factoryLoop, factoryLoop⟩
  port := ⟨⟨200, 0x3FFE#32⟩, ⟨200, 0x3FFE#32⟩, ⟨200, 0x3FFE#32⟩⟩
  template := factoryTemplate
  programs := factoryPrograms

/-- A block of silence: 80 samples of 0. -/
def silence : List Sample := List.replicate 80 0#16

/-- PE's state of a channel after a reset, and at OPEN but for `afterOpen` (R38), with the values of log 6 for the flags
the spec gives none. A return to IDLE leaves the same by the model's choice (log 42). -/
def Playout.cleared : Playout where
  queue := []
  anchored := false
  epochIn := 0
  baseIn := 0
  playEpoch := 0
  nextPlay := 0
  playState := .priming
  afterOpen := false
  missing := 0
  lastPlayed := silence
  lastPeak := 0
  current := none
  tickDue := false
  outputPeak := 0
  freshRun := false

/-- TRU's state of a channel after a reset or a return to IDLE (R61). The spec gives w0, t0, W_open, min_rel and max_rel
no value while the window is closed: none are held then, the model's choice (log 44). -/
def Timing.cleared : Timing where
  window := none
  fPrev := none
  est := 0
  acc := 0
  target := 0
  corr := 0
  closedSinceOpen := false

/-- UF's state of a channel after a reset or a return to IDLE (R79); that no first block time is held then is the
model's choice (log 6). -/
def Framer.cleared : Framer where
  ringSize := 0
  ring := []
  nextSeq := 0
  stampOffset := 0
  firstBlock := none
  sendPtr := 0
  transfer := none
  continued := false

/-- A path record after a reset (R94). -/
def PathRecord.cleared : PathRecord := ⟨none, 0, false⟩

/-- The detector, active or not, with cleared records (R94). -/
def Detector.fresh (active : Bool) : Detector := ⟨active, .cleared, .cleared⟩

/-- Statistics all 0 (R22). -/
def Stats.zero : Stats := ⟨0, 0, 0, 0, 0, 0, 0, 0, 0, 0, 0, 0, 0, 0, 0, 0, 0, 0, 0, 0, 0⟩

/-- A channel after a reset of any kind (R1, R38, R61, R79, R94), with the given settings, which the spec leaves
undefined (log 7). The fields the spec gives no reset value for are those of log 6. -/
def Channel.afterReset (settings : ChannelSettings) : Channel where
  state := .idle
  holder := none
  fallback := none
  parkFallback := none
  loop := .a
  lead := false
  voice := .voiced
  mode := .voice
  parkDeadline := 0
  parkCause := .portDown
  oldHolder := .p0
  drainDeadline := 0
  notices := []
  settings := settings
  stats := .zero
  pe := .cleared
  tru := .cleared
  uf := .cleared
  det := .fresh false

/-- The pool with every block free under the given reserves (R34, R36). -/
def Pool.allFree (reserve : PerChan Nat) : Pool :=
  ⟨⟨0, 0, 0, 0⟩, reserve, 256 - reserve.total⟩

/-- LTU's record of a loop after a reset, with the measured load that stands (R162). -/
def LineTest.cleared (load : Option Nat) : LineTest := ⟨.none, .p0, 0, 0, 0, 0, 0, load⟩

/-- The raw state a loop current gives under a threshold in mA (R112). -/
def judgeRaw (threshold : Nat) (microamps : Int) : RawState :=
  if threshold * 1000 ≤ microamps.natAbs then .off else .on

/-- The START notice of a reset (R195). -/
def startNotice (now : Word) (cause : StartCause) (slot : Option Nat) (fallback : Bool) : Notice :=
  ⟨.start cause slot fallback, none, none, now⟩

/-- A port after a reset (R183); that no byte stands as sent is the model's choice (log 40). -/
def PortState.afterReset (start : Notice) : PortState where
  up := false
  silenceEnd := 0
  receiver := .hunt
  queue := [.notice start]
  outstanding := 0
  overflowMark := false
  dropped := 0
  transfer := none
  sent := []
  lastServed := none
  badFrames := 0
  requestOverrun := 0
  notHolderMedia := 0
  noticesDropped := 0

/-- A loop after a reset at the sample time `now` (R127, R147, R149, R162), with the loop current, the key on the line
(logs 10, 36), the loop block in progress, the codec sample (log 25) and the measured load that stand. The fields the
spec gives no reset value for are those of log 6. -/
def LoopState.afterReset (now : Word) (threshold : Nat) (current : Int) (key : Option Byte) (blockStart : Word)
    (block : List MixSample) (codec : Sample) (load : Option Nat) : LoopState where
  feed := .idle
  polarity := .normal
  denyEnd := 0
  current := current
  raw := judgeRaw threshold current
  rawEdge := now
  hook := .onhook
  breakStart := 0
  makeStart := 0
  pulses := 0
  dtmf := .quiet
  keyPresent := key
  dial := []
  dialOverflow := false
  autoTone := false
  ringSignal := false
  ring := none
  tx := none
  player := none
  lostDenial := none
  blockStart := blockStart
  block := block
  closed := none
  codec := codec
  test := .cleared load

/-- The Timebase value `n` milliseconds span: 8 sample times each (00_scope.md). -/
def msSpan (n : Nat) : Word := BitVec.ofNat 32 (n * 8)

end Sys2Proof.Machine
end

