-- ==== Sys2Proof/Machine/State.lean ====
section
/-! DEFINITION. The state of the block, the reasons a step can stop, and the state right after reset. -/

namespace Sys2Proof.Machine

/-- Everything the spec gives the part, and the queue of waiting commands. -/
structure State where
  /-- TB: the sample time whose sample was last assembled (log 1). -/
  timebase : Word
  /-- The sample of the present Timebase value is still to come: set at a start-up (log 1). -/
  sampleDue : Bool
  chans : PerChan Channel
  pool : Pool
  loops : PerLoop LoopState
  ports : PerPort PortState
  /-- RG: the step index, modulo 720720 (R129). -/
  stepIndex : Nat
  /-- RG: the sample time at which the running step ends (R129). -/
  nextBoundary : Word
  /-- SS: the live settings. -/
  live : Profile
  store : Store
  restart : Restart
  /-- Which free value is used next (logs 7, 12, 13). -/
  freeCount : Nat
  /-- The commands that are waiting, first in, first out. -/
  pending : List Instr
deriving DecidableEq, Repr

/-- Reasons for a machine stop. The spec gives the part none, and no meaning raises one (safe: a fault that is never
raised hides nothing). -/
inductive Fault where
  /-- Raised by no meaning; the spec names no event that stops the part. -/
  | stopped
deriving DecidableEq, Repr

/-- Reasons a command is refused by the model. -/
inductive Refusal where
  /-- Raised by Dispatch.lean alone, for a command that has no meaning yet; safe. No arm raises it now. -/
  | notModelled (mnemonic : String)
deriving DecidableEq, Repr

/-- The machine right after a power-on of a part as it leaves the factory (R193, log 8): Timebase 0, the factory
profile live, slots 1 to 3 INVALID, start slot 0, every block reset, START on every port. The channel settings,
undefined until an OPEN, are the factory template here (log 7). -/
def State.reset : State where
  timebase := 0
  sampleDue := true
  chans :=
    ⟨.afterReset factoryTemplate, .afterReset factoryTemplate, .afterReset factoryTemplate, .afterReset factoryTemplate⟩
  pool := .allFree factoryProfile.global.reserve
  loops := ⟨.afterReset 0 10 0 none 0 [] 0 none, .afterReset 0 10 0 none 0 [] 0 none⟩
  ports :=
    ⟨.afterReset (startNotice 0 .power (some 0) false), .afterReset (startNotice 0 .power (some 0) false),
     .afterReset (startNotice 0 .power (some 0) false)⟩
  stepIndex := 0
  nextBoundary := msSpan 500
  live := factoryProfile
  store := ⟨.invalid, .invalid, .invalid, 0, none⟩
  restart := .none
  freeCount := 0
  pending := []

end Sys2Proof.Machine
end

