-- ==== Sys2Proof/Machine/Ops.lean ====
section
/-! DEFINITION. The named operations every family uses: access to channels, loops and ports, time, sequence numbers, counters, rounding, saturation, free values. -/

namespace Sys2Proof.Machine

/-! ### Access -/

/-- A channel of the state. -/
def State.chan (s : State) (c : Chan) : Channel := s.chans.get c

/-- A channel changed. -/
def State.modChan (s : State) (c : Chan) (f : Channel → Channel) : State :=
  { s with chans := s.chans.put c (f (s.chans.get c)) }

/-- A loop of the state. -/
def State.loop (s : State) (l : Loop) : LoopState := s.loops.get l

/-- A loop changed. -/
def State.modLoop (s : State) (l : Loop) (f : LoopState → LoopState) : State :=
  { s with loops := s.loops.put l (f (s.loops.get l)) }

/-- A port of the state. -/
def State.port (s : State) (p : Port) : PortState := s.ports.get p

/-- A port changed. -/
def State.modPort (s : State) (p : Port) (f : PortState → PortState) : State :=
  { s with ports := s.ports.put p (f (s.ports.get p)) }

/-- The live settings of a loop. -/
def State.loopSet (s : State) (l : Loop) : LoopSettings := s.live.loop.get l

/-! ### Time, sequence numbers, stamps -/

/-- Sample times from `since` to `now`, modulo 2^32 (log 27). -/
def elapsed (now since : Word) : Nat := (now - since).toNat

/-- The Timebase has reached the deadline: the signed difference is 0 or more (log 4). -/
def reached (now deadline : Word) : Bool := decide (0 ≤ (now - deadline).toInt)

/-- A span since `since` of `n` milliseconds has passed. -/
def persisted (now since : Word) (n : Nat) : Bool := decide (n * 8 ≤ elapsed now since)

/-- Milliseconds left to a deadline, rounded toward zero; 0 when it is past (R10, R189). -/
def msLeft (now deadline : Word) : Nat := (deadline - now).toInt.toNat / 8

/-- The signed distance from `a` to `b` between sequence numbers (00_scope.md, "Sequence numbers"). -/
def seqDist (a b : Half) : Int := (b - a).toInt

/-- The signed difference from `a` to `b` between stamps or transits (00_scope.md). -/
def stampDist (a b : Word) : Int := (b - a).toInt

/-- The next sample time (log 1). -/
def State.nextSample (s : State) : Word := if s.sampleDue then s.timebase else s.timebase + 1

/-! ### Arithmetic -/

/-- A statistics or port counter raised by `n`; it stops at 4,294,967,295 (00_scope.md, R22, R182). -/
def bumpBy (c : Word) (n : Nat) : Word := BitVec.ofNat 32 (min (c.toNat + n) 4294967295)

/-- A counter raised by one. -/
def bump (c : Word) : Word := bumpBy c 1

/-- A count that stops at a limit. -/
def stopAt (limit n : Nat) : Nat := min n limit

/-- A value limited to a range. -/
def clampNat (lo hi v : Nat) : Nat := max lo (min hi v)

/-- A value limited to a range. -/
def clampInt (lo hi v : Int) : Int := max lo (min hi v)

/-- The quotient rounded to the nearest whole number, halves away from zero (00_scope.md, "Rounding"). -/
def roundDiv (a : Int) (b : Nat) : Int :=
  let q : Int := ((2 * a.natAbs + b) / (2 * b) : Nat)
  if a < 0 then -q else q

/-- The quotient rounded upward. -/
def ceilDiv (a b : Nat) : Nat := (a + b - 1) / b

/-- Saturation to a sample (00_scope.md). -/
def saturate (v : Int) : Sample := BitVec.ofInt 16 (clampInt (-32768) 32767 v)

/-- A sample times a gain in 1/256, rounded to nearest with halves away from zero and saturated (R150, R151). -/
def applyGain (x : Sample) (gain : Nat) : Sample := saturate (roundDiv (x.toInt * gain) 256)

/-- The largest magnitude among the samples; a sample of -32768 has magnitude 32768 (R47). -/
def peakOf (samples : List Sample) : Nat := samples.foldl (fun m x => max m x.toInt.natAbs) 0

/-! ### Free values -/

/-- The next free value and the state that has used it. -/
def State.takeFree (s : State) : Nat × State := (Config.freeValue s.freeCount, { s with freeCount := s.freeCount + 1 })

/-- The channel settings between a reset and the next OPEN, undefined by R1 (log 7): fifteen free values from `k` on. -/
def freeSettings (k : Nat) : ChannelSettings where
  depthMin := Config.freeValue k
  depthMax := Config.freeValue (k + 1)
  depthStart := Config.freeValue (k + 2)
  guard := Config.freeValue (k + 3)
  window := Config.freeValue (k + 4)
  smoothing := Config.freeValue (k + 5)
  dataDepth := Config.freeValue (k + 6)
  dataSlack := Config.freeValue (k + 7)
  history := Config.freeValue (k + 8)
  redundancy := Config.freeValue (k + 9)
  packet := Config.freeValue (k + 10)
  autoData := Config.freeValue (k + 11) % 2 == 1
  suppressDigits := Config.freeValue (k + 12) % 2 == 1
  parkTime := Config.freeValue (k + 13)
  drainLimit := Config.freeValue (k + 14)

/-- A duration in ms as the 16-bit field of a notice; one that does not fit is a free value (log 13). -/
def msField (n : Nat) (s : State) : Half × State :=
  if n < 65536 then (BitVec.ofNat 16 n, s)
  else (BitVec.ofNat 16 s.takeFree.1, s.takeFree.2)

/-! ### The loop's channels -/

/-- A channel is attached to a loop while it is not IDLE (R6). -/
def Channel.attachedTo (ch : Channel) (l : Loop) : Bool := ch.state != .idle && ch.loop == l

/-- The channels attached to a loop, in ascending order. -/
def State.attached (s : State) (l : Loop) : List Chan := Chan.all.filter fun c => (s.chan c).attachedTo l

/-- The lead of a loop, when it has one (R6). -/
def State.leadOf (s : State) (l : Loop) : Option Chan :=
  (s.attached l).find? fun c => (s.chan c).lead

/-- The holder of a channel in RUN, or the recorded holder of one that is DRAINING (R2, R3). -/
def Channel.holderOf (ch : Channel) : Option Port :=
  match ch.state with
  | .run => ch.holder
  | .draining => ch.holder
  | _ => none

/-- The port is the channel's holder for a holder-only request (R3). -/
def Channel.heldBy (ch : Channel) (p : Port) : Bool := ch.holderOf == some p

/-- The port that speaks for a loop with a lead: the holder of a lead in RUN, the recorded holder of one that is
DRAINING, none while it is PARKED (07, "Loop requests and the loop's authority"). -/
def State.speaksFor (s : State) (l : Loop) (p : Port) : Bool :=
  match s.leadOf l with
  | some c => (s.chan c).heldBy p
  | none => false

/-- The authority of DENY, GAIN, TONE and TONE_STOP: as `speaksFor`, and any port when the loop has no lead
(R110, R152). -/
def State.authority (s : State) (l : Loop) (p : Port) : Bool :=
  (s.leadOf l).isNone || s.speaksFor l p

end Sys2Proof.Machine
end

