-- ==== Sys2Proof/Machine/Flags.lean ====
section
/-! DEFINITION. The judgements and conditions the part derives from its state and its measurements: the data-tone and key tests, the digit PRESENT report, a channel being due, the attention line, a notice being maskable. -/

namespace Sys2Proof.Machine

/-! ### Data tones (R96) -/

/-- The band a component lies in, both ends included (R96). -/
def bandOf (milliHz : Nat) : Option Band :=
  if 2050000 ≤ milliHz ∧ milliHz ≤ 2150000 then some .answer
  else if 1050000 ≤ milliHz ∧ milliHz ≤ 1150000 then some .calling
  else none

/-- Three quarters of an interval, rounded upward (R96). -/
def occupancyNeeded (length : Nat) : Nat := ceilDiv (3 * length) 4

/-- The band an interval is judged present for, or none for absent (R96). An interval of zeros holds no component,
whatever is measured. -/
def judgeInterval (m : Option IntervalMeasure) (samples : List Sample) : Option Band :=
  match m with
  | none => none
  | some x =>
    if samples.all (· == 0#16) then none
    else if x.levelBelow ≤ 45000 ∧ 12000 ≤ x.restBelow ∧ occupancyNeeded samples.length ≤ x.occupancy
      then bandOf x.milliHz
      else none

/-! ### Keys (R120) -/

/-- A component lies within 2.0 % of a nominal frequency in Hz (R120). -/
def nearHz (milliHz hz : Nat) : Bool := decide (980 * hz ≤ milliHz) && decide (milliHz ≤ 1020 * hz)

/-- The row of a component, counted from 0. -/
def rowOf (milliHz : Nat) : Option Nat :=
  [697, 770, 852, 941].findIdx? (nearHz milliHz)

/-- The column of a component, counted from 0. -/
def colOf (milliHz : Nat) : Option Nat :=
  [1209, 1336, 1477, 1633].findIdx? (nearHz milliHz)

/-- The keys at the crossings of rows and columns, by their character codes (R120, R199). -/
def keyTable : List (List Byte) :=
  [[0x31, 0x32, 0x33, 0x41], [0x34, 0x35, 0x36, 0x42], [0x37, 0x38, 0x39, 0x43], [0x2A, 0x30, 0x23, 0x44]]

/-- The key judged present on the line, or none (R120). -/
def judgeKey (m : Option KeyMeasure) : Option Byte :=
  match m with
  | none => none
  | some x =>
    match rowOf x.rowMilliHz, colOf x.colMilliHz with
    | some r, some c =>
      if x.rowBelow ≤ 30000 ∧ x.colBelow ≤ 30000
          ∧ x.colBelow - x.rowBelow ≤ 8000 ∧ x.rowBelow - x.colBelow ≤ 4000
          ∧ max x.rowBelow x.colBelow + 15000 ≤ x.restBelow
        then (keyTable[r]?).bind (·[c]?)
        else none
    | _, _ => none

/-- The detector reports a digit PRESENT (R121). -/
def Dtmf.present : Dtmf → Bool
  | .held _ _ => true
  | .release _ _ _ => true
  | _ => false

/-! ### Notices (R178) -/

/-- The kind code of a notice (R202). -/
def NoticeData.code : NoticeData → Byte
  | .seize => 0x01
  | .digit _ _ _ => 0x02
  | .badDigit _ => 0x03
  | .flash _ => 0x04
  | .hangup => 0x05
  | .answered _ => 0x06
  | .ringDone _ _ => 0x07
  | .modeChange _ _ _ _ => 0x08
  | .drainDone _ => 0x09
  | .parkExpired _ => 0x0A
  | .toneDone _ _ => 0x0B
  | .testDone _ _ _ _ _ => 0x0C
  | .saveDone _ => 0x0D
  | .takeoverOffer _ _ _ _ _ => 0x10
  | .start _ _ _ => 0x11
  | .linkUp _ => 0x12
  | .overflow _ _ => 0x13

/-- The kinds a notice_mask can hold back: codes 0x01 to 0x0D (R178, R200). -/
def NoticeData.maskable (d : NoticeData) : Bool := decide (d.code.toNat ≤ 0x0D)

/-- The mask holds a notice back: its kind is maskable and its flag is clear (R178). -/
def masked (mask : Word) (d : NoticeData) : Bool := d.maskable && !mask.getLsbD d.code.toNat

/-- An entry is a notice. -/
def Entry.isNotice : Entry → Bool
  | .notice _ => true
  | .reply _ => false

/-- How many notices the control queue holds, the one being sent among them (R177). -/
def PortState.noticeCount (p : PortState) : Nat := p.queue.countP Entry.isNotice

/-! ### Sending (R84, R181) -/

/-- A ring entry is unsent: at or after the send pointer (05, 5.1). -/
def Framer.unsent (uf : Framer) (e : HEntry) : Bool := decide (0 ≤ seqDist uf.sendPtr e.seq)

/-- The unsent count (05, 5.1). -/
def Framer.unsentCount (uf : Framer) : Nat := uf.ring.countP uf.unsent

/-- A channel is due for sending on a port (R84). -/
def State.due (s : State) (p : Port) (c : Chan) : Bool :=
  let ch := s.chan c
  ch.state == .run && ch.holder == some p && (s.port p).up
    && decide (ch.settings.packet ≤ ch.uf.unsentCount) && ch.uf.transfer.isNone

/-- The attention line of a port (R181). -/
def State.attention (s : State) (p : Port) : Bool :=
  !(s.port p).queue.isEmpty || Chan.all.any (s.due p) || (s.port p).transfer.isSome

end Sys2Proof.Machine
end

