-- ==== Sys2Proof/Machine/Wire.lean ====
section
/-! DEFINITION. The byte layouts of 13_message_and_record_layouts.md: the check, the frame, the receiver, the bodies of media, replies and notices, the encodings of fields. -/

namespace Sys2Proof.Machine

/-! ### Fields -/

/-- The two bytes of a 16-bit field, most significant first. -/
def bytes16 (v : Half) : List Byte := [v.extractLsb' 8 8, v.extractLsb' 0 8]

/-- The four bytes of a 32-bit field, most significant first. -/
def bytes32 (v : Word) : List Byte :=
  [v.extractLsb' 24 8, v.extractLsb' 16 8, v.extractLsb' 8 8, v.extractLsb' 0 8]

/-- A 16-bit field from its bytes. -/
def half (hi lo : Byte) : Half := hi ++ lo

/-- A 32-bit field from its bytes. -/
def word (b3 b2 b1 b0 : Byte) : Word := b3 ++ b2 ++ b1 ++ b0

/-- A byte of a number. -/
def byteOf (n : Nat) : Byte := BitVec.ofNat 8 n

/-- A 16-bit field of a number. -/
def nat16 (n : Nat) : List Byte := bytes16 (BitVec.ofNat 16 n)

/-- A yes/no, on/off or set/clear byte (R199). -/
def flagByte (b : Bool) : Byte := if b then 1 else 0

/-- The encoding of a loop (R199). -/
def Loop.byte : Loop → Byte
  | .a => 0
  | .b => 1

/-- The encoding of a port (R199). -/
def Port.byte : Port → Byte
  | .p0 => 0
  | .p1 => 1
  | .p2 => 2

/-- The encoding of a port or none (R199). -/
def portOrNoneByte : Option Port → Byte
  | some p => Port.byte p
  | none => 0xFF

/-- The number of a channel. -/
def Chan.byte : Chan → Byte
  | .c0 => 0
  | .c1 => 1
  | .c2 => 2
  | .c3 => 3

/-- The encoding of a mode (R199). -/
def Mode.byte : Mode → Byte
  | .voice => 0
  | .data => 1

/-- The encoding of a voice flag (R199). -/
def VoiceFlag.byte : VoiceFlag → Byte
  | .voiced => 0
  | .muted => 1

/-- The encoding of a feed state (R199). -/
def FeedState.byte : FeedState → Byte
  | .idle => 0
  | .active => 1
  | .ringing => 2
  | .callerData => 3
  | .testing => 4
  | .denied => 5

/-- The encoding of a hook state (R199). -/
def HookState.byte : HookState → Byte
  | .onhook => 0
  | .offhook => 1
  | .brk => 2

/-- The encoding of a channel state (R199). -/
def ChanState.byte : ChanState → Byte
  | .idle => 0
  | .run => 1
  | .parked => 2
  | .draining => 3

/-- The encoding of a park cause (R199). -/
def ParkCause.byte : ParkCause → Byte
  | .portDown => 0
  | .handoff => 1

/-- The encoding of a slot state (R199). -/
def Slot.byte : Slot → Byte
  | .valid _ => 0
  | .invalid => 1
  | .writing => 2

/-- The outcome codes (R199). -/
def ReplyCode.byte : ReplyCode → Byte
  | .ok => 0x00
  | .clamped => 0x01
  | .badParam => 0x10
  | .busy => 0x11
  | .wrongState => 0x12
  | .notHolder => 0x13
  | .held => 0x14
  | .loopBusy => 0x15
  | .noChannel => 0x16
  | .noPool => 0x17
  | .unknown => 0x1F

/-- The caller status of a ring notice (R202). A state that is none of the four at a ring's end does not occur
(R141); it would be sent as NOT_SENT. -/
def CallerState.statusByte : CallerState → Byte
  | .none => 0
  | .complete => 2
  | .aborted => 3
  | .notSent => 1
  | .awaitRunEnd => 1
  | .waiting => 1
  | .sending => 1

/-! ### The check and the frame (R197) -/

/-- One shift of the check register (R197). -/
def crcShift (r : Half) : Half := if r.msb then (r <<< 1) ^^^ 0x1021#16 else r <<< 1

/-- One byte through the check register: exclusive-or into the top eight bits, then eight shifts (R197). -/
def crcByte (r : Half) (b : Byte) : Half :=
  let x := r ^^^ (b.setWidth 16 <<< 8)
  crcShift (crcShift (crcShift (crcShift (crcShift (crcShift (crcShift (crcShift x)))))))

/-- The check of a string of bytes, from 0xFFFF (R197). -/
def crc (bytes : List Byte) : Half := bytes.foldl crcByte 0xFFFF#16

/-- A frame: sync, length of kind and body, kind, body, check (13.1). -/
def frame (kind : Byte) (body : List Byte) : List Byte :=
  let covered := nat16 (body.length + 1) ++ kind :: body
  0xA7 :: covered ++ bytes16 (crc covered)

/-! ### The receiver (R171) -/

/-- What the receiver makes of a byte: nothing yet, a bad frame, or a valid message with its kind and body. -/
inductive Received where
  | nothing
  | bad
  | valid (kind : Byte) (body : List Byte)
deriving DecidableEq, Repr

/-- The samples of a block's bytes; an odd byte at the end is dropped. -/
def samplesOf : List Byte → List Sample
  | hi :: lo :: rest => half hi lo :: samplesOf rest
  | _ => []

/-- `n` blocks of 160 bytes each. -/
def blocksOf : Nat → List Byte → List (List Sample)
  | 0, _ => []
  | n + 1, bytes => samplesOf (bytes.take 160) :: blocksOf n (bytes.drop 160)

/-- The body of a MEDIA_IN: its counts lie in their ranges and match its length, or it has no meaning (R40, R198). -/
def parseMedia (body : List Byte) : Option MediaMsg :=
  match body with
  | ch :: s1 :: s0 :: t3 :: t2 :: t1 :: t0 :: flags :: counts :: blocks =>
    let p := (counts.extractLsb' 4 4).toNat
    let r := (counts.extractLsb' 0 4).toNat
    if 1 ≤ p ∧ p ≤ 4 ∧ r ≤ 3 ∧ blocks.length = 160 * (p + r) then
      some
        { chan := ch, first := half s1 s0, stamp := word t3 t2 t1 t0,
          dataHint := flags.getLsbD 0, resync := flags.getLsbD 1,
          primaries := blocksOf p blocks, redundant := blocksOf r (blocks.drop (160 * p)) }
    else none
  | _ => none

/-- The kind is one an agent sends and the body has the form R172 requires. -/
def bodyValid (kind : Byte) (body : List Byte) : Bool :=
  if kind = 0x01 then (parseMedia body).isSome
  else if kind = 0x02 then decide (2 ≤ body.length)
  else if kind = 0x03 then body.isEmpty
  else false

/-- The receiver in HUNT examines a byte: a sync byte starts a frame, any other is skipped (R171). -/
def huntByte (b : Byte) : Receiver := if b = 0xA7 then .frame [] else .hunt

/-- The receiver in FRAME with these bytes gathered after the sync byte (R171): a bad length sends it back to HUNT
with the first length byte as the next it examines; otherwise it waits for the content and the check. -/
def frameBytes (bytes : List Byte) : Receiver × Received :=
  match bytes with
  | hi :: lo :: rest =>
    let length := (half hi lo).toNat
    if length = 0 ∨ 1395 < length then
      (match huntByte hi with
        | .hunt => huntByte lo
        | .frame _ => .frame [lo], .bad)
    else if rest.length < length + 2 then (.frame bytes, .nothing)
    else
      let content := rest.take length
      if crc (hi :: lo :: content) = half (rest.getD length 0) (rest.getD (length + 1) 0) then
        match content with
        | kind :: body => if bodyValid kind body then (.hunt, .valid kind body) else (.hunt, .bad)
        | [] => (.hunt, .bad)
      else (.hunt, .bad)
  | _ => (.frame bytes, .nothing)

/-- The receiver takes one byte of the link (R171). -/
def Receiver.take (r : Receiver) (b : Byte) : Receiver × Received :=
  match r with
  | .hunt => (huntByte b, .nothing)
  | .frame bytes => frameBytes (bytes ++ [b])

/-- The receiver takes a run of bytes: where it stands, how many bad frames it has counted, and whether it has met a
valid message. -/
def Receiver.takeAll (r : Receiver) : List Byte → Receiver × Nat × Bool
  | [] => (r, 0, false)
  | b :: rest =>
    let one := r.take b
    let more := Receiver.takeAll one.1 rest
    match one.2 with
    | .nothing => more
    | .bad => (more.1, more.2.1 + 1, more.2.2)
    | .valid _ _ => (more.1, more.2.1, true)

/-! ### The outgoing line (R170) -/

/-- The byte the part sends when it has no message byte to send (R170). -/
def fillByte : Byte := 0x00

/-- The bits of a byte in the order of the link, most significant first (R170). -/
def linkBits (b : Byte) : List Bool :=
  [b.getLsbD 7, b.getLsbD 6, b.getLsbD 5, b.getLsbD 4, b.getLsbD 3, b.getLsbD 2, b.getLsbD 1, b.getLsbD 0]

/-- The bits on a port's outgoing line for the bytes it has sent (R170). -/
def PortState.sentBits (x : PortState) : List Bool := x.sent.flatMap linkBits

/-! ### Outgoing bodies -/

/-- The bytes of a block of samples (13). -/
def blockBytes (samples : List Sample) : List Byte := samples.flatMap bytes16

/-- The body of a MEDIA_OUT (R198): bit 0 for DATA, bit 2 for CONTINUED. -/
def MediaOut.body (m : MediaOut) : List Byte :=
  [Chan.byte m.chan] ++ bytes16 m.first ++ bytes32 m.stamp
    ++ [byteOf ((if m.dataFlag then 1 else 0) + (if m.continued then 4 else 0)),
        byteOf (16 * m.primaries.length + m.redundant.length)]
    ++ m.primaries.flatMap blockBytes ++ m.redundant.flatMap blockBytes

/-- The body of a REPLY (13.3). -/
def Reply.body (r : Reply) : List Byte := [r.tag, r.code.byte] ++ r.results

/-- The data of ANSWERED (R202). -/
def RingSummary.bytes (r : RingSummary) : List Byte :=
  [r.status.statusByte] ++ nat16 r.rung ++ nat16 r.deferred ++ nat16 r.suppressed ++ nat16 r.bursts

/-- The data of a notice of each kind (R202). -/
def NoticeData.bytes : NoticeData → List Byte
  | .seize => []
  | .digit d m n => [d, match m with | .pulse => 0 | .tone => 1] ++ bytes16 n
  | .badDigit n => nat16 n
  | .flash n => bytes16 n
  | .hangup => []
  | .answered r => r.bytes
  | .ringDone reason r => [match reason with | .completed => 0 | .stopped => 1] ++ r.bytes
  | .modeChange mode switched path band =>
    [mode.byte, flagByte switched, match path with | .loop => 0 | .played => 1 | .far => 2,
      match band with | none => 0 | some .answer => 1 | some .calling => 2]
  | .drainDone reason => [match reason with | .empty => 0 | .limit => 1 | .hangup => 2]
  | .parkExpired old => [Port.byte old]
  | .toneDone program cause =>
    [byteOf program.val,
      match cause with | .completed => 0 | .stopped => 1 | .replaced => 2 | .hangup => 3 | .digit => 1 | .taken => 1]
  | .testDone outcome nRef nLoop load isOver =>
    [match outcome with | .completed => 0 | .refFault => 1 | .abortedOffhook => 2 | .abortedRing => 3]
      ++ nat16 nRef ++ nat16 nLoop ++ [match load with | none => 0xFF | some n => byteOf n, flagByte isOver]
  | .saveDone slot => [byteOf slot]
  | .takeoverOffer lead mode cause old ms =>
    [flagByte lead, mode.byte, cause.byte, Port.byte old] ++ nat16 ms
  | .start cause slot fallback =>
    [match cause with | .power => 0 | .line => 1 | .restart => 2,
      match slot with | none => 0xFF | some n => byteOf n, flagByte fallback]
  | .linkUp p => [Port.byte p]
  | .overflow p n => [Port.byte p] ++ nat16 n

/-- The body of a NOTICE (R202). -/
def Notice.body (n : Notice) : List Byte :=
  [n.data.code, match n.loop with | none => 0xFF | some l => Loop.byte l,
    match n.chan with | none => 0xFF | some c => Chan.byte c]
    ++ bytes32 n.time ++ n.data.bytes

/-- The frame of a control entry (13.1). -/
def Entry.frame : Entry → List Byte
  | .reply r => Machine.frame 0x82 r.body
  | .notice n => Machine.frame 0x83 n.body

/-- The frame of a MEDIA_OUT (13.1). -/
def MediaOut.frame (m : MediaOut) : List Byte := Machine.frame 0x81 m.body

end Sys2Proof.Machine
end

