-- ==== Sys2Proof/Machine/Operands.lean ====
section
/-! DEFINITION. Every operand form: what a parameter byte names, the setting keys, the segments of a tone program and the caller record of a RING. -/

namespace Sys2Proof.Machine

/-! ### Parameter bytes (R199) -/

/-- A channel number 0..3. -/
def Chan.ofByte (b : Byte) : Option Chan :=
  match b.toNat with
  | 0 => some .c0
  | 1 => some .c1
  | 2 => some .c2
  | 3 => some .c3
  | _ => none

/-- A loop byte. -/
def Loop.ofByte (b : Byte) : Option Loop :=
  match b.toNat with
  | 0 => some .a
  | 1 => some .b
  | _ => none

/-- A port byte that names a port. -/
def Port.ofByte (b : Byte) : Option Port :=
  match b.toNat with
  | 0 => some .p0
  | 1 => some .p1
  | 2 => some .p2
  | _ => none

/-- A port byte that may also name none (0xFF). -/
def portOrNone (b : Byte) : Option (Option Port) :=
  if b = 0xFF then some none else (Port.ofByte b).map some

/-- A flag byte: 0 or 1. -/
def flagOf (b : Byte) : Option Bool :=
  match b.toNat with
  | 0 => some false
  | 1 => some true
  | _ => none

/-- A mode byte. -/
def Mode.ofByte (b : Byte) : Option Mode :=
  match b.toNat with
  | 0 => some .voice
  | 1 => some .data
  | _ => none

/-- A voice-flag byte. -/
def VoiceFlag.ofByte (b : Byte) : Option VoiceFlag :=
  match b.toNat with
  | 0 => some .voiced
  | 1 => some .muted
  | _ => none

/-- A polarity byte. -/
def Polarity.ofByte (b : Byte) : Option Polarity :=
  match b.toNat with
  | 0 => some .normal
  | 1 => some .reversed
  | _ => none

/-- A tone program number 0..7. -/
def programOf (n : Nat) : Option (Fin 8) := if h : n < 8 then some ⟨n, h⟩ else none

/-- A profile slot number 0..3. -/
def slotOf (b : Byte) : Option (Fin 4) := if h : b.toNat < 4 then some ⟨b.toNat, h⟩ else none

/-! ### Setting keys (R185, R200) -/

/-- The global keys but for the reserves. -/
inductive GlobalKey where
  | cadenceStep | ringBudget | assumedLoad | callerDelay | testGate | silenceLevel | toneDataMin
deriving DecidableEq, Repr

/-- The per-loop keys. -/
inductive LoopKey where
  | hookThreshold | hookQualify | pulseBreakMax | flashMin | hangupMin | interdigitMin | toneOnMin | toneOffMin
  | autoDialTone | dialProgram | offerSet | rxGain | txGain | denyOnLoss | denyTime | parkLostProgram
deriving DecidableEq, Repr

/-- The per-port keys. -/
inductive PortKey where
  | silenceTime | noticeMask
deriving DecidableEq, Repr

/-- The channel template keys. -/
inductive TemplateKey where
  | depthMin | depthMax | depthStart | guard | window | smoothing | dataDepth | dataSlack | history | redundancy
  | packet | autoData | suppressDigits | parkTime | drainLimit
deriving DecidableEq, Repr

/-- A key with the index its group needs. -/
inductive SettingKey where
  | global (k : GlobalKey)
  | reserve (c : Chan)
  | loop (k : LoopKey) (l : Loop)
  | port (k : PortKey) (p : Port)
  | template (k : TemplateKey)
deriving DecidableEq, Repr

/-- The global keys 0x01..0x07 in the table's order. -/
def globalKeys : List GlobalKey :=
  [.cadenceStep, .ringBudget, .assumedLoad, .callerDelay, .testGate, .silenceLevel, .toneDataMin]

/-- The per-loop keys 0x20..0x2F in the table's order. -/
def loopKeys : List LoopKey :=
  [.hookThreshold, .hookQualify, .pulseBreakMax, .flashMin, .hangupMin, .interdigitMin, .toneOnMin, .toneOffMin,
   .autoDialTone, .dialProgram, .offerSet, .rxGain, .txGain, .denyOnLoss, .denyTime, .parkLostProgram]

/-- The template keys 0x60..0x6E in the table's order. -/
def templateKeys : List TemplateKey :=
  [.depthMin, .depthMax, .depthStart, .guard, .window, .smoothing, .dataDepth, .dataSlack, .history, .redundancy,
   .packet, .autoData, .suppressDigits, .parkTime, .drainLimit]

/-- A template key byte, as CHANNEL_SET and SET name it (R200). -/
def TemplateKey.ofByte (key : Byte) : Option TemplateKey :=
  if 0x60 ≤ key.toNat then templateKeys[key.toNat - 0x60]? else none

/-- The key a key byte and an index byte name: the index is the loop for per-loop keys, the port for per-port keys,
and 0 for the others; anything else names none (R186, R200). -/
def SettingKey.ofBytes (key index : Byte) : Option SettingKey :=
  let n := key.toNat
  if n < 0x20 then
    if index ≠ 0 then none
    else if 0x01 ≤ n ∧ n ≤ 0x07 then (globalKeys[n - 1]?).map .global
    else if 0x08 ≤ n then (Chan.ofByte (byteOf (n - 0x08))).map .reserve
    else none
  else if n < 0x40 then
    match loopKeys[n - 0x20]?, Loop.ofByte index with
    | some k, some l => some (.loop k l)
    | _, _ => none
  else if n = 0x40 then (Port.ofByte index).map (.port .silenceTime)
  else if n = 0x41 then (Port.ofByte index).map (.port .noticeMask)
  else if index ≠ 0 then none
  else (TemplateKey.ofByte key).map .template

/-! ### Tone programs (R154, R200) -/

/-- The segments of a TONE_DEFINE: exactly `n` of seven bytes each; the level byte is read as unsigned (log 39). -/
def parseSegments : Nat → List Byte → Option (List Segment)
  | 0, [] => some []
  | n + 1, a1 :: a0 :: b1 :: b0 :: level :: d1 :: d0 :: rest =>
    (parseSegments n rest).map
      (⟨(half a1 a0).toNat, (half b1 b0).toNat, level.toNat, (half d1 d0).toNat⟩ :: ·)
  | _, _ => none

/-- The bytes of a segment in the parameter layout (R200). -/
def Segment.bytes (g : Segment) : List Byte := nat16 g.f1 ++ nat16 g.f2 ++ [byteOf g.level] ++ nat16 g.duration

/-- A program in the parameter layout of TONE_DEFINE (R200). -/
def programBytes (number : Fin 8) (g : Program) : List Byte :=
  [byteOf number.val, byteOf g.segments.length, byteOf g.repeats] ++ g.segments.flatMap Segment.bytes

/-! ### The caller record of RING (R133, R201) -/

/-- The fields of a caller record as carried: exactly `n` of them, each a type byte, a length byte and its content. -/
def parseFields : Nat → List Byte → Option (List (Byte × List Byte))
  | 0, [] => some []
  | n + 1, type :: length :: rest =>
    if length.toNat ≤ rest.length then
      (parseFields n (rest.drop length.toNat)).map ((type, rest.take length.toNat) :: ·)
    else none
  | _, _ => none

/-- The content of the field of a type, when it is carried. -/
def fieldOf (fields : List (Byte × List Byte)) (type : Byte) : Option (List Byte) :=
  (fields.find? (·.1 == type)).map (·.2)

/-- The fields as a caller record. -/
def callerOf (fields : List (Byte × List Byte)) : CallerRecord :=
  ⟨fieldOf fields 0x11, fieldOf fields 0x12, fieldOf fields 0x13, fieldOf fields 0x14, fieldOf fields 0x15⟩

/-- A character '0'..'9'. -/
def isDigitChar (b : Byte) : Bool := decide (0x30 ≤ b.toNat) && decide (b.toNat ≤ 0x39)

/-- A character of a number: '0'..'9', '*', '#' or '+' (R133). -/
def isNumberChar (b : Byte) : Bool := isDigitChar b || b == 0x2A || b == 0x23 || b == 0x2B

/-- A withheld field: one character, 'P' or 'O' (R133, R201). -/
def withheldOk (c : List Byte) : Bool := c == [0x50] || c == [0x4F]

/-- An absent field passes; a present one is tested. -/
def optionOk (x : Option (List Byte)) (test : List Byte → Bool) : Bool :=
  match x with
  | none => true
  | some c => test c

/-- The fields carried have the known types, none twice (R201). -/
def fieldTypesOk (fields : List (Byte × List Byte)) : Bool :=
  fields.all (fun f => decide (0x11 ≤ f.1.toNat) && decide (f.1.toNat ≤ 0x15))
    && decide ((fields.map (·.1)).Nodup)

/-- The checks of the caller record's fields (R133). -/
def CallerRecord.ok (r : CallerRecord) : Bool :=
  optionOk r.time (fun c => c.length == 8 && c.all isDigitChar)
    && optionOk r.number (fun c => decide (1 ≤ c.length) && decide (c.length ≤ 20) && c.all isNumberChar
        && r.numberWithheld.isNone)
    && optionOk r.numberWithheld withheldOk
    && optionOk r.name (fun c => decide (1 ≤ c.length) && decide (c.length ≤ 64) && r.nameWithheld.isNone)
    && optionOk r.nameWithheld withheldOk

/-- A character outside 0x20..0x7E becomes a space (R133). -/
def printable (b : Byte) : Byte := if 0x20 ≤ b.toNat ∧ b.toNat ≤ 0x7E then b else 0x20

/-- The name as stored: its first 15 characters, each printable (R133). -/
def storedName (c : List Byte) : List Byte := (c.take 15).map printable

/-- The caller record as stored, with the name altered (R133). -/
def CallerRecord.stored (r : CallerRecord) : CallerRecord := { r with name := r.name.map storedName }

/-- The record has at least one field (R132). -/
def CallerRecord.present (r : CallerRecord) : Bool :=
  r.time.isSome || r.number.isSome || r.numberWithheld.isSome || r.name.isSome || r.nameWithheld.isSome

/-- A field of the line message: its type, its length, its content; nothing when it is absent (R143). -/
def lineField (type : Byte) (x : Option (List Byte)) : List Byte :=
  match x with
  | none => []
  | some c => type :: byteOf c.length :: c

/-- The fields of the line message in type order (R143). -/
def CallerRecord.lineFields (r : CallerRecord) : List Byte :=
  lineField 0x11 r.time ++ lineField 0x12 r.number ++ lineField 0x13 r.numberWithheld
    ++ lineField 0x14 r.name ++ lineField 0x15 r.nameWithheld

/-- The line message: type 0x5A, length, fields, and the two's complement of the sum of all of these (R143). -/
def CallerRecord.lineMessage (r : CallerRecord) : List Byte :=
  let body := 0x5A :: byteOf r.lineFields.length :: r.lineFields
  body ++ [-(body.foldl (· + ·) 0)]

end Sys2Proof.Machine
end

