-- ==== Sys2Proof/Machine/Notices.lean ====
section
/-! DEFINITION. Shared operations of ALI and CT: the control queue, notices and their routing, replies, the taking of a valid message and of a request. -/

namespace Sys2Proof.Machine

/-! ### The control queue (R177 to R179) -/

/-- An entry queued on a port. -/
def PortState.enqueue (x : PortState) (e : Entry) : PortState := { x with queue := x.queue ++ [e] }

/-- With the overflow mark set and fewer than 28 notices queued, an OVERFLOW is queued and the mark cleared (R179). -/
def PortState.settleOverflow (now : Word) (p : Port) (x : PortState) : PortState :=
  if x.overflowMark && decide (x.noticeCount < 28) then
    { x.enqueue (.notice ⟨.overflow p x.dropped, none, none, now⟩) with overflowMark := false, dropped := 0 }
  else x

/-- A notice dropped at the cap or behind the overflow mark (R178, step 3). -/
def PortState.dropNotice (x : PortState) : PortState :=
  { x with noticesDropped := bump x.noticesDropped, overflowMark := true, dropped := stopAt 65535 (x.dropped + 1) }

/-- A notice offered to a port's control queue: discarded on a DOWN port, masked, dropped, or queued (R178). START
is not offered but placed by a reset (R183). -/
def PortState.offer (now : Word) (p : Port) (mask : Word) (n : Notice) (x : PortState) : PortState :=
  if !x.up then x
  else if masked mask n.data then x
  else if x.overflowMark || decide (28 ≤ x.noticeCount) then x.dropNotice.settleOverflow now p
  else x.enqueue (.notice n)

/-- A notice offered to a port of the part. -/
def State.offer (s : State) (p : Port) (n : Notice) : State :=
  s.modPort p (PortState.offer s.timebase p (s.live.port.get p).noticeMask n)

/-- A notice offered to several ports, in order. -/
def State.offerEach (s : State) (ps : List Port) (n : Notice) : State := ps.foldl (fun s p => s.offer p n) s

/-- Several notices offered to one port, in order. -/
def State.offerList (s : State) (p : Port) (ns : List Notice) : State := ns.foldl (fun s n => s.offer p n) s

/-- A notice offered to a port, when there is one. -/
def State.offerTo (s : State) (p : Option Port) (n : Notice) : State :=
  match p with
  | some p => s.offer p n
  | none => s

/-- The UP ports of a loop's offer set (R10, R14, R25). -/
def State.offerPorts (s : State) (l : Loop) : List Port :=
  Port.all.filter fun p => (s.loopSet l).offerSet.get p && (s.port p).up

/-! ### Pending notices and routing (R24 to R26) -/

/-- A record appended to a pending-notice list; a full list drops its oldest (R24). -/
def Channel.keepNotice (ch : Channel) (n : Notice) : Channel :=
  if 8 ≤ ch.notices.length then
    { ch with
      notices := ch.notices.drop 1 ++ [n]
      stats := { ch.stats with pendingDropped := bump ch.stats.pendingDropped } }
  else { ch with notices := ch.notices ++ [n] }

/-- A notice that concerns a channel: to its holder in RUN and DRAINING, to its pending-notice list while PARKED
(R26). -/
def State.routeChannel (s : State) (c : Chan) (n : Notice) : State :=
  match (s.chan c).state with
  | .parked => s.modChan c (·.keepNotice n)
  | .idle => s
  | _ => s.offerTo (s.chan c).holder n

/-- A loop notice routed by the loop's lead (R25): as a channel notice of the lead, or to the UP ports of the offer
set when there is no lead. -/
def State.routeLoop (s : State) (l : Loop) (n : Notice) : State :=
  match s.leadOf l with
  | some c => s.routeChannel c n
  | none => s.offerEach (s.offerPorts l) n

/-- A loop notice raised now (R125). -/
def State.raiseLoop (s : State) (l : Loop) (d : NoticeData) : State := s.routeLoop l ⟨d, some l, none, s.timebase⟩

/-- A ring notice routed by the record's owner lost flag (R26, R141). -/
def State.routeRing (s : State) (l : Loop) (owner : Port) (lost : Bool) (n : Notice) : State :=
  if lost then s.offerEach (s.offerPorts l) n else s.offer owner n

/-! ### Messages taken and requests (R172 to R176) -/

/-- A valid message taken on a port: a DOWN port comes UP with LINK_UP (R173), the silence timer restarts (R174), the
receiver is in HUNT (R171). -/
def State.messageTaken (s : State) (p : Port) : State :=
  let woken :=
    if (s.port p).up then s
    else (s.modPort p fun x => { x with up := true }).offer p ⟨.linkUp p, none, none, s.timebase⟩
  woken.modPort p fun x =>
    { x with silenceEnd := s.timebase + msSpan (s.live.port.get p).silenceTime, receiver := .hunt }

/-- A frame discarded by the receiver (R171). -/
def State.countBadFrame (s : State) (p : Port) : State :=
  s.modPort p fun x => { x with badFrames := bump x.badFrames, receiver := .hunt }

/-- A reply queued on the port that carried the request (R175). -/
def State.answer (s : State) (p : Port) (r : Reply) : State := s.modPort p (·.enqueue (.reply r))

/-- A refusal: the tag and the outcome, no results (R176). -/
def State.refuse (s : State) (p : Port) (tag : Byte) (code : ReplyCode) : State := s.answer p ⟨tag, code, [], false⟩

/-- An acceptance with its results. -/
def State.accept (s : State) (p : Port) (tag : Byte) (results : List Byte) : State :=
  s.answer p ⟨tag, .ok, results, false⟩

/-- An acceptance answered CLAMPED when a value was changed and OK otherwise. -/
def State.acceptClamped (s : State) (p : Port) (tag : Byte) (clamped : Bool) (results : List Byte) : State :=
  s.answer p ⟨tag, if clamped then .clamped else .ok, results, false⟩

/-- A valid REQUEST taken on a port (R175): discarded and counted when 4 are outstanding, otherwise counted and
handed to its owner. -/
def State.request (s : State) (p : Port) (act : State → State) : State :=
  let t := s.messageTaken p
  if 4 ≤ (t.port p).outstanding then
    t.modPort p fun x => { x with requestOverrun := bump x.requestOverrun }
  else act (t.modPort p fun x => { x with outstanding := x.outstanding + 1 })

/-- The channel check and the holder check that open every holder-only request (R3, steps 1 and 2). -/
def State.holderOnly (s : State) (p : Port) (tag chanByte : Byte) (act : Chan → State) : State :=
  match Chan.ofByte chanByte with
  | none => s.refuse p tag .badParam
  | some c => if (s.chan c).heldBy p then act c else s.refuse p tag .notHolder

end Sys2Proof.Machine
end

