-- ==== Sys2Proof/Machine/Pool.lean ====
section
/-! DEFINITION. BP: the grant and the return of blocks (R29, R31, R32) and the change of the reserves (R34, R35). The reserves are live settings and are passed to each operation. -/

namespace Sys2Proof.Machine

/-- A channel's held count changed. -/
def Pool.setHeld (b : Pool) (c : Chan) (n : Nat) : Pool := { b with held := b.held.put c n }

/-- A grant of one block to a channel (R29). -/
def Pool.grant (res : PerChan Nat) (c : Chan) (b : Pool) : Option Pool :=
  if b.held.get c < res.get c then
    some { b with free := b.free.put c (b.free.get c - 1), held := b.held.put c (b.held.get c + 1) }
  else if 0 < b.shared then
    some { b with shared := b.shared - 1, held := b.held.put c (b.held.get c + 1) }
  else none

/-- The return of one block by a channel (R31): the held count falls first, then the block is placed. -/
def Pool.giveBack (res : PerChan Nat) (c : Chan) (b : Pool) : Pool :=
  let h := b.held.get c - 1
  if h < res.get c then
    { b with held := b.held.put c h, free := b.free.put c (b.free.get c + 1) }
  else { b with held := b.held.put c h, shared := b.shared + 1 }

/-- The return of `n` blocks, one after another. -/
def Pool.giveBackN (res : PerChan Nat) (c : Chan) : Nat → Pool → Pool
  | 0, b => b
  | n + 1, b => Pool.giveBackN res c n (b.giveBack res c)

/-- A run of grants: how many were granted and the pool after them; it stops at the first that fails (R29, R30). -/
def Pool.grantRun (res : PerChan Nat) (c : Chan) : Nat → Pool → Nat × Pool
  | 0, b => (0, b)
  | n + 1, b =>
    match b.grant res c with
    | none => (0, b)
    | some b' =>
      let r := Pool.grantRun res c n b'
      (r.1 + 1, r.2)

/-- The blocks of a new history ring, or none with every block already granted returned (R4, R30). -/
def Pool.grantRing (res : PerChan Nat) (c : Chan) (n : Nat) (b : Pool) : Option Pool × Pool :=
  let r := b.grantRun res c n
  if r.1 = n then (some r.2, r.2) else (none, r.2.giveBackN res c r.1)

/-- The live reserves. -/
def State.reserves (s : State) : PerChan Nat := s.live.global.reserve

/-- The pool of the part changed. -/
def State.modPool (s : State) (f : Pool → Pool) : State := { s with pool := f s.pool }

/-- Every channel is IDLE (R34, R192). -/
def State.allIdle (s : State) : Bool := Chan.all.all fun c => (s.chan c).state == .idle

/-- The pool split under new reserves with every channel IDLE: each free count becomes its reserve, the shared part
what is left of 256 (R34, R35). -/
def Pool.split (reserve : PerChan Nat) (b : Pool) : Pool :=
  { b with free := reserve, shared := 256 - reserve.total }

end Sys2Proof.Machine
end

