-- ==== Sys2Proof/Machine/Feed.lean ====
section
/-! DEFINITION. Shared operations of LI: the entries into the feed states (R108, R110, R122), the judgement of the raw state (R112) and of the key on the line (R120, R121). -/

namespace Sys2Proof.Machine

/-- Entry into feed IDLE from whatever state: polarity NORMAL, pulse counter cleared, detector QUIET, no ring signal
(R108, R122). -/
def LoopState.enterIdle (x : LoopState) : LoopState :=
  { x with feed := .idle, polarity := .normal, pulses := 0, dtmf := .quiet, ringSignal := false }

/-- Entry into feed ACTIVE: the detector starts in QUIET (R122), no ring signal is applied. -/
def LoopState.enterActive (x : LoopState) : LoopState :=
  { x with feed := .active, dtmf := .quiet, ringSignal := false }

/-- Entry into feed DENIED at a sample time for a duration in ms (R110): a BREAK is abandoned with OFFHOOK held, the
pulse counter is cleared, the detector returns to QUIET. -/
def LoopState.enterDenied (start : Word) (ms : Nat) (x : LoopState) : LoopState :=
  { x with
    feed := .denied
    denyEnd := start + msSpan ms
    hook := if x.hook == .brk then .offhook else x.hook
    pulses := 0
    dtmf := .quiet }

/-- The raw state judged at a sample time; a change is a raw edge dated there (R112, R113). In DENIED nothing is
judged (R111). -/
def LoopState.judge (now : Word) (threshold : Nat) (x : LoopState) : LoopState :=
  if x.feed == .denied then x
  else
    let r := judgeRaw threshold x.current
    if r = x.raw then x else { x with raw := r, rawEdge := now }

/-- The detector after the key judged present on the line (R121). -/
def Dtmf.hear (now : Word) (key : Option Byte) (d : Dtmf) : Dtmf :=
  match d with
  | .quiet =>
    match key with
    | none => .quiet
    | some k => .onset k now
  | .onset k t =>
    match key with
    | none => .quiet
    | some j => if j = k then .onset k t else .onset j now
  | .held k t => if key = some k then .held k t else .release k t now
  | .release k t g => if key = some k then .held k t else .release k t g

/-- The detector's judgement of the key on the line at a sample time, in ACTIVE alone (R120, R122). -/
def LoopState.hearKey (now : Word) (x : LoopState) : LoopState :=
  if x.feed == .active then { x with dtmf := x.dtmf.hear now x.keyPresent } else x

end Sys2Proof.Machine
end

