-- ==== Sys2Proof/Machine/Tones.lean ====
section
/-! DEFINITION. LAM's tone player: the samples of a program (R153), the start and the end of a tone (R156, R158), and the caller transmitter's samples (R144). -/

namespace Sys2Proof.Machine

/-! ### The sine, in fixed point (log 11) -/

/-- One unit of the fixed-point scale: 2^96. -/
def fixOne : Nat := 79228162514264337593543950336

/-- Pi in units of 2^-96, rounded down. -/
def fixPi : Nat := 248902613312231085230521944622

/-- The Taylor series of sin x / x from its term `j` on, nested; `x2` is the square of x. -/
def sinSeries : Nat → Nat → Nat → Nat
  | 0, _, _ => fixOne
  | fuel + 1, j, x2 =>
    fixOne - x2 * sinSeries fuel (j + 1) x2 / (fixOne * ((2 * j + 2) * (2 * j + 3)))

/-- sin (pi * m / den) for m at most half of den. -/
def sinQuarter (m den : Nat) : Nat :=
  let x := fixPi * m / den
  x * sinSeries 16 0 (x * x / fixOne) / fixOne

/-- sin (2 pi k / den) in units of 2^-96. -/
def sinFix (k den : Nat) : Int :=
  let r := 2 * (k % den)
  if r < den then (sinQuarter (min r (den - r)) den : Int)
  else -(sinQuarter (min (r - den) (2 * den - r)) den : Int)

/-- A fixed-point value rounded toward zero. A value within 2^-40 below a whole number in magnitude counts as that
number; for the values of R153 this is exact (log 11). -/
def truncFix (v : Int) : Int :=
  let n : Int := ((v.natAbs + 72057594037927936) / fixOne : Nat)
  if v < 0 then -n else n

/-! ### Tone samples (R153) -/

/-- trunc (16384 * 10^(-level/20)) for the levels 0..45 (R153). -/
def amplitudeTable : List Nat :=
  [16384, 14602, 13014, 11598, 10337, 9213, 8211, 7318, 6522, 5813, 5181, 4617, 4115, 3667, 3269, 2913] ++
  [2596, 2314, 2062, 1838, 1638, 1460, 1301, 1159, 1033, 921, 821, 731, 652, 581, 518, 461] ++
  [411, 366, 326, 291, 259, 231, 206, 183, 163, 146, 130, 115, 103, 92]

/-- The amplitude of a level. -/
def amplitude (level : Nat) : Nat := amplitudeTable.getD level 0

/-- A component of frequency `f` at segment sample `n`, in fixed point; an absent one gives 0. -/
def component (f n : Nat) : Int := if f = 0 then 0 else sinFix (f * n) 8000

/-- The sample of a segment: the sum of its components times the amplitude, toward zero, saturated (R153). -/
def Segment.sample (g : Segment) (n : Nat) : Sample :=
  saturate (truncFix ((amplitude g.level : Int) * (component g.f1 n + component g.f2 n)))

/-- The segment being played. -/
def Tone.segment (t : Tone) : Segment := t.program.segments.getD t.segIndex ⟨0, 0, 0, 0⟩

/-- The tone's sample for this sample time, while the program has not completed (R153). -/
def Tone.sample? (t : Tone) : Option Sample :=
  if t.complete.isSome then none else some (Segment.sample t.segment t.segSample)

/-- The player moves past the sample it has played at `now` (R153): within the segment, to the next one, to the next
pass, or to completion at the following sample time. Under a repeat count of 0 the passes done stop at 255, the
model's choice (log 33). -/
def Tone.advance (now : Word) (t : Tone) : Tone :=
  if t.complete.isSome then t
  else if t.segment.duration = 0 ∨ t.segSample + 1 < t.segment.duration * 8 then
    { t with segSample := t.segSample + 1 }
  else if t.segIndex + 1 < t.program.segments.length then
    { t with segIndex := t.segIndex + 1, segSample := 0 }
  else if t.program.repeats ≠ 0 ∧ t.program.repeats ≤ t.passes + 1 then
    { t with passes := stopAt 255 (t.passes + 1), complete := some (now + 1) }
  else { t with passes := stopAt 255 (t.passes + 1), segIndex := 0, segSample := 0 }

/-! ### The end and the start of a tone (R156, R158) -/

/-- What the end of a tone does by its kind (R158): TONE_DONE for the requester, the auto tone flag cleared, or the
pending park-lost denial taking effect or being cancelled. -/
def State.toneEnded (s : State) (l : Loop) (t : Tone) (cause : ToneCause) (moment : Word) : State :=
  match t.kind with
  | .requested => s.offer t.requester ⟨.toneDone t.number cause, some l, none, moment⟩
  | .auto => s.modLoop l fun x => { x with autoTone := false }
  | .parkLost =>
    s.modLoop l fun x =>
      match x.lostDenial with
      | none => x
      | some ms =>
        let y := { x with lostDenial := none }
        if cause == .completed && x.feed == .active then y.enterDenied moment ms else y

/-- The tone playing on a loop ends with a cause at a moment (R158); with none playing nothing happens. -/
def State.endTone (s : State) (l : Loop) (cause : ToneCause) (moment : Word) : State :=
  match (s.loop l).player with
  | none => s
  | some t => (s.modLoop l fun x => { x with player := none }).toneEnded l t cause moment

/-- A tone starts on a loop; one that is playing ends REPLACED first (R156). -/
def State.startTone (s : State) (l : Loop) (kind : ToneKind) (requester : Port) (number : Fin 8) : State :=
  (s.endTone l .replaced s.timebase).modLoop l fun x =>
    { x with
      player := some
        { kind := kind, requester := requester, number := number, program := s.live.programs.get number,
          segIndex := 0, segSample := 0, passes := 0, complete := none } }

/-- The program is empty (R153). -/
def Program.isEmpty (g : Program) : Bool := g.segments.isEmpty

/-! ### The caller transmitter (R144) -/

/-- Bit `k` of a transmission, true for mark: 240 alternating bits from a space, 120 marks, then each byte with a
start bit, its bits from the least significant, and a stop bit (R144). -/
def txBit (message : List Byte) (k : Nat) : Bool :=
  if k < 240 then k % 2 == 1
  else if k < 360 then true
  else
    let i := (k - 360) % 10
    if i = 0 then false
    else if i = 9 then true
    else (message.getD ((k - 360) / 10) 0).getLsbD (i - 1)

/-- The sample times a transmission of a message lasts (R144). -/
def txLength (message : List Byte) : Nat := ceilDiv ((360 + 10 * message.length) * 20) 3

/-- The bit that the sample `n` of a transmission belongs to: bit k starts at ceil (k * 8000 / 1200) (R144). -/
def txBitIndex (n : Nat) : Nat := 3 * n / 20

/-- The phase steps of a whole turn: 8000 * 65536. -/
def txTurn : Nat := 524288000

/-- The frequency of a bit in Hz: mark 1200, space 2200 (R144). -/
def txHz (mark : Bool) : Nat := if mark then 1200 else 2200

/-- The sine of amplitude 3667 at a phase, rounded up or down by a free choice (R144, log 12). -/
def txSample (phase : Nat) : Sample :=
  let v := 3667 * sinFix phase txTurn
  let slack : Int := 72057594037927936
  saturate (if Config.fskRoundsUp phase then -((slack - v).fdiv fixOne) else (v + slack).fdiv fixOne)

/-- The transmitter past the sample it sends now: continuous in phase (R144). -/
def Transmitter.advance (t : Transmitter) : Transmitter :=
  { t with
    sent := t.sent + 1
    phase := (t.phase + txHz (txBit t.message (txBitIndex t.sent)) * 65536) % txTurn }

/-- The transmitter has sent its last sample. -/
def Transmitter.finished (t : Transmitter) : Bool := decide (txLength t.message ≤ t.sent)

end Sys2Proof.Machine
end

