-- ==== Sys2Proof/Machine/Channels.lean ====
section
/-! DEFINITION. Shared operations of CT on channels: the return to IDLE (R6, R16, R32), parking and its offer (R8 to R10), the end of a drain (R18), the restart of the windows (R70), the switches of mode (R101, R103). -/

namespace Sys2Proof.Machine

/-- The restart of a channel's windows (R70): the open window is discarded and the baseline cleared. -/
def Timing.restart (t : Timing) : Timing := { t with window := none, fPrev := none }

/-- The switch from VOICE to DATA (R101). -/
def Channel.toData (ch : Channel) : Channel :=
  { ch with mode := .data, det := .fresh false, tru := ch.tru.restart }

/-- The switch from DATA to VOICE (R103). -/
def Channel.toVoice (ch : Channel) : Channel :=
  { ch with mode := .voice, det := .fresh true, tru := ch.tru.restart }

/-- A channel's own fields when it returns to IDLE (R16, R38, R43, R58, R61, R79, R94, R104): the statistics, the
settings and the voice flag stay. The spec gives PE's epochs, sequence numbers, play state and missing count no value
there: they take their reset values, the model's choice (log 42). -/
def Channel.closed (ch : Channel) : Channel :=
  { ch with
    state := .idle
    holder := none
    fallback := none
    parkFallback := none
    lead := false
    mode := .voice
    notices := []
    pe := .cleared
    tru := .cleared
    uf := .cleared
    det := .fresh false }

/-- A media transfer of the channel is marked as formed before the channel returned to IDLE (R86). -/
def PortState.staleMedia (c : Chan) (x : PortState) : PortState :=
  match x.transfer with
  | some ⟨.media m _, frame, position⟩ =>
    if m.chan = c then { x with transfer := some ⟨.media m false, frame, position⟩ } else x
  | _ => x

/-- When the lead of a loop has left, the other attached channel sets its lead flag (R6). -/
def State.passLead (s : State) (l : Loop) : State :=
  match s.attached l with
  | [] => s
  | c :: _ => s.modChan c fun ch => { ch with lead := true }

/-- A sample time's record once a channel has left the loop: its output there stands under the voice flag it had
(R151, log 19). -/
def MixSample.settle (c : Chan) (voice : VoiceFlag) (x : MixSample) : MixSample :=
  { x with outs := x.outs.put c ((x.outs.get c).map fun o => { o with left := o.left.or (some voice) }) }

/-- The loop a channel leaves: what it gave to the block in progress, and to a closed block that has not been taken,
stands under the voice flag it had (R151, log 19). -/
def LoopState.channelLeaves (c : Chan) (voice : VoiceFlag) (x : LoopState) : LoopState :=
  { x with
    block := x.block.map (MixSample.settle c voice)
    closed := x.closed.map fun b => { b with mix := b.mix.map (MixSample.settle c voice) } }

/-- The blocks a channel holds: its queue entries and its ring slots (R27). -/
def Channel.blocksHeld (ch : Channel) : Nat := ch.pe.queue.length + ch.uf.ringSize

/-- The return of a channel to IDLE for any cause but a reset (R6, R16, R32): its blocks go back to the pool, its
state is cleared, it leaves its loop, and the lead passes. -/
def State.toIdle (s : State) (c : Chan) : State :=
  let ch := s.chan c
  let t := ((s.modPool (Pool.giveBackN s.reserves c ch.blocksHeld)).modChan c Channel.closed).modLoop ch.loop
    (LoopState.channelLeaves c ch.voice)
  let u := { t with ports := t.ports.map (PortState.staleMedia c) }
  if ch.lead then u.passLead ch.loop else u

/-- The ports a TAKEOVER_OFFER goes to (R10): the park fallback, or else the standing fallback, alone when it is UP
and not the old holder; otherwise every such port of the loop's offer set. -/
def State.offerRecipients (s : State) (c : Chan) : List Port :=
  let ch := s.chan c
  let fits (p : Port) : Bool := (s.port p).up && p != ch.oldHolder
  let others := (s.offerPorts ch.loop).filter (· != ch.oldHolder)
  match ch.parkFallback.or ch.fallback with
  | some p => if fits p then [p] else others
  | none => others

/-- The TAKEOVER_OFFER of a parked channel (R10). -/
def State.takeoverOffer (s : State) (c : Chan) : Notice :=
  let ch := s.chan c
  ⟨.takeoverOffer ch.lead ch.mode ch.parkCause ch.oldHolder (msLeft s.timebase ch.parkDeadline),
    some ch.loop, some c, s.timebase⟩

/-- The parking of a channel (R8, R9): PARKED with no holder, the deadline set, the offer sent, the park counted. -/
def State.park (s : State) (c : Chan) (cause : ParkCause) (old : Port) : State :=
  let t := s.modChan c fun ch =>
    { ch with
      state := .parked
      holder := none
      oldHolder := old
      parkCause := cause
      parkDeadline := s.timebase + msSpan ch.settings.parkTime }
  (t.offerEach (t.offerRecipients c) (t.takeoverOffer c)).modChan c fun ch =>
    { ch with stats := { ch.stats with parks := bump ch.stats.parks } }

/-- The end of a channel's drain (R18): the channel returns to IDLE and DRAIN_DONE goes to the recorded holder. -/
def State.endDrain (s : State) (c : Chan) (reason : DrainReason) : State :=
  let ch := s.chan c
  (s.toIdle c).offerTo ch.holder ⟨.drainDone reason, some ch.loop, some c, s.timebase⟩

/-- A denial of a loop by CT or by a request, from now on (R110). -/
def State.deny (s : State) (l : Loop) (ms : Nat) : State := s.modLoop l (·.enterDenied s.timebase ms)

end Sys2Proof.Machine
end

