-- ==== Sys2Proof/Machine/Timing.lean ====
section
/-! DEFINITION. TRU: the transit of a block handed to it, the measurement window and its close, the drift estimate (R62 to R69), and the slip (R72). -/

namespace Sys2Proof.Machine

/-- The window a block opens (R63). -/
def Window.opened (set : ChannelSettings) (stamp transit : Word) : Window := ⟨stamp, transit, set.window, 0, 0⟩

/-- A block joins the open window (R64). -/
def Window.join (w : Window) (transit : Word) : Window :=
  let rel := stampDist w.t0 transit
  { w with minRel := min w.minRel rel, maxRel := max w.maxRel rel }

/-- The target of a close: jitter plus guard in blocks, rounded upward, within the depths (R66). -/
def closeTarget (set : ChannelSettings) (w : Window) : Nat :=
  clampNat set.depthMin set.depthMax (ceilDiv ((w.maxRel - w.minRel).toNat + set.guard) 80)

/-- The drift figure of a close (R68): D times 1,000,000 over the span S, to the nearest, halves away from zero. -/
def driftFigure (fPrev floor : Word) (span : Int) : Int := roundDiv (stampDist floor fPrev * 1000000) span.toNat

/-- The estimate moved toward the drift figure by the smoothing fraction (R69). -/
def smoothed (est d : Int) (smoothing : Nat) : Int :=
  clampInt (-1000) 1000 (est + roundDiv (d - est) (2 ^ smoothing))

/-- The decision on drift at a close (R68): the new estimate and whether the window is rejected. -/
def driftDecision (set : ChannelSettings) (w : Window) (span : Int) (floor : Word) (t : Timing) : Int × Bool :=
  match t.fPrev with
  | none => (t.est, false)
  | some f =>
    if 4 * (w.span : Int) ≤ span then (t.est, true)
    else
      let d := driftFigure f floor span
      if 1000 < d.natAbs then (t.est, true) else (smoothed t.est d set.smoothing, false)

/-- The close of a window by a block at span `span`, with `q` entries queued (R65 to R69): floor, jitter, target,
pending correction, drift; the flag says that the window was rejected for drift. -/
def Timing.close (set : ChannelSettings) (q : Nat) (w : Window) (span : Int) (t : Timing) : Timing × Bool :=
  let floor := w.t0 + BitVec.ofInt 32 w.minRel
  let target := closeTarget set w
  let drift := driftDecision set w span floor t
  ({ t with
      target := target
      closedSinceOpen := true
      corr := clampInt (-4) 4 ((target : Int) - q)
      est := drift.1
      fPrev := some floor }, drift.2)

/-- A block handed to TRU (R62 to R65): it opens a window, joins the open one, or closes it and opens the next. That the
closing block itself opens the next window is R65; the last sentence of R62 has the next primary of the message open it,
and the model's choice between the two is R65 (log 43). -/
def Timing.take (set : ChannelSettings) (q : Nat) (stamp arrival : Word) (t : Timing) : Timing × Bool :=
  let transit := arrival - stamp
  match t.window with
  | none => ({ t with window := some (.opened set stamp transit) }, false)
  | some w =>
    let span := stampDist w.w0 stamp
    if (w.span : Int) ≤ span then
      let r := t.close set q w span
      ({ r.1 with window := some (.opened set stamp transit) }, r.2)
    else ({ t with window := some (w.join transit) }, false)

/-- A primary block handed to TRU by PE, after its classification (R49); a rejected window is counted (R68). -/
def Channel.handToTru (stamp arrival : Word) (ch : Channel) : Channel :=
  let r := ch.tru.take ch.settings ch.pe.queue.length stamp arrival
  { ch with
    tru := r.1
    stats := if r.2 then { ch.stats with windowReject := bump ch.stats.windowReject } else ch.stats }

/-- The slip step of a VOICE tick (R72): the accumulator advanced, and the block shortened or lengthened by its last
sample when the accumulator crosses its limit. -/
def Channel.slip (block : List Sample) (ch : Channel) : List Sample × Channel :=
  let acc := ch.tru.acc + 80 * ch.tru.est
  if 1000000 ≤ acc then
    (block.dropLast,
      { ch with
        tru := { ch.tru with acc := acc - 1000000 }
        stats := { ch.stats with slipDrop := bump ch.stats.slipDrop } })
  else if acc ≤ -1000000 then
    (block ++ [block.getLastD 0],
      { ch with
        tru := { ch.tru with acc := acc + 1000000 }
        stats := { ch.stats with slipRepeat := bump ch.stats.slipRepeat } })
  else (block, { ch with tru := { ch.tru with acc := acc } })

end Sys2Proof.Machine
end

