-- ==== Sys2Proof/Machine/Modes.lean ====
section
/-! DEFINITION. Voice and data modes: the timing of data tones (R97), detections (R99), the DATA hint (R100), and MODE (R102). -/

namespace Sys2Proof.Machine

/-- A path's record after an interval judged present for a band, or absent (R97). -/
def PathRecord.judged (r : PathRecord) (band : Option Band) (length : Nat) : PathRecord :=
  match band with
  | none => .cleared
  | some x => if r.band = some x then { r with length := r.length + length } else ⟨some x, length, false⟩

/-- The record calls for a detection (R97). -/
def PathRecord.detects (r : PathRecord) (toneDataMin : Nat) : Bool :=
  r.band.isSome && !r.reported && decide (toneDataMin * 8 ≤ r.length)

/-- The MODE_CHANGE of a channel (R105). -/
def modeChange (ch : Channel) (c : Chan) (switched : Bool) (path : TonePath) (band : Option Band) (time : Word) :
    Notice :=
  ⟨.modeChange (if switched then .data else ch.mode) switched path band, some ch.loop, some c, time⟩

/-- A detection handled by CT (R99): with auto_data on the channel switches to DATA, with it off it stays; MODE_CHANGE
is raised either way. -/
def State.toneDetected (s : State) (c : Chan) (path : TonePath) (band : Option Band) (time : Word) : State :=
  let ch := s.chan c
  if ch.settings.autoData then
    (s.modChan c Channel.toData).routeChannel c (modeChange ch c true path band time)
  else s.routeChannel c (modeChange ch c false path band time)

/-- The end of an interval of the LOOP path (R97): the record changes, and a detection is handled. -/
def State.loopInterval (s : State) (c : Chan) (band : Option Band) (length : Nat) (time : Word) : State :=
  let ch := s.chan c
  if !ch.det.active then s
  else
    let r := ch.det.loopPath.judged band length
    if r.detects s.live.global.toneDataMin then
      (s.modChan c fun ch => { ch with det := { ch.det with loopPath := { r with reported := true } } }).toneDetected
        c .loop r.band time
    else s.modChan c fun ch => { ch with det := { ch.det with loopPath := r } }

/-- The end of an interval of the PLAYED path (R97). -/
def State.playedInterval (s : State) (c : Chan) (band : Option Band) (length : Nat) (time : Word) : State :=
  let ch := s.chan c
  if !ch.det.active then s
  else
    let r := ch.det.playedPath.judged band length
    if r.detects s.live.global.toneDataMin then
      (s.modChan c fun ch => { ch with det := { ch.det with playedPath := { r with reported := true } } }).toneDetected
        c .played r.band time
    else s.modChan c fun ch => { ch with det := { ch.det with playedPath := r } }

/-- The DATA hint of an accepted MEDIA_IN (R100): a VOICE channel with auto_data on switches, otherwise the hint is
ignored. -/
def State.dataHint (s : State) (c : Chan) : State :=
  let ch := s.chan c
  if ch.mode == .voice && ch.settings.autoData then
    (s.modChan c Channel.toData).routeChannel c (modeChange ch c true .far none s.timebase)
  else s

/-- The channel in the mode asked for by MODE: unchanged when it is there already (R102). -/
def Channel.setMode (m : Mode) (ch : Channel) : Channel :=
  if ch.mode = m then ch
  else
    match m with
    | .data => ch.toData
    | .voice => ch.toVoice

/-- MODE at its owner (R102). -/
def modeBody (p : Port) (tag : Byte) (params : List Byte) (s : State) : State :=
  match params with
  | [chanByte, modeByte] =>
    s.holderOnly p tag chanByte fun c =>
      match Mode.ofByte modeByte with
      | none => s.refuse p tag .badParam
      | some m => (s.modChan c (Channel.setMode m)).accept p tag [m.byte]
  | _ => s.refuse p tag .badParam

/-- MODE (R102). -/
def execModeReq (p : Port) (tag : Byte) (params : List Byte) (s : State) : Host.Outcome State Fault Refusal :=
  .next (s.request p (modeBody p tag params))

end Sys2Proof.Machine
end

