-- ==== Sys2Proof/Machine/Playout.lean ====
section
/-! DEFINITION. PE: the classification and storage of arriving media (R41 to R49), and the channel tick (R50 to R59, R74 to R77). A channel and the pool are changed together. -/

namespace Sys2Proof.Machine

/-- A channel and the pool it draws on. -/
abbrev ChanPool := Channel × Pool

/-- A channel and the pool of the part changed together. -/
def State.modChanPool (s : State) (c : Chan) (f : ChanPool → ChanPool) : State :=
  let r := f (s.chan c, s.pool)
  { s.modChan c (fun _ => r.1) with pool := r.2 }

/-! ### Storage (R39, R45 to R47) -/

/-- The anchor of the epoch that arrivals are stored in (R43). -/
def Playout.anchor (pe : Playout) : Half := if pe.playEpoch = pe.epochIn then pe.nextPlay else pe.baseIn

/-- An entry placed in queue order (R39): after the older epoch's entries, and within its epoch by the distance from
the anchor. -/
def insertEntry (anchor : Half) (e : QEntry) : List QEntry → List QEntry
  | [] => [e]
  | x :: rest =>
    if x.epoch = e.epoch ∧ seqDist anchor e.seq < seqDist anchor x.seq then e :: x :: rest
    else x :: insertEntry anchor e rest

/-- The entries that meet a test leave the queue and their blocks go back to the pool (R31). -/
def freeEntries (res : PerChan Nat) (c : Chan) (gone : QEntry → Bool) (x : ChanPool) : ChanPool :=
  let n := x.1.pe.queue.countP gone
  ({ x.1 with pe := { x.1.pe with queue := x.1.pe.queue.filter fun e => !gone e } }, x.2.giveBackN res c n)

/-- A block stored in the queue, or counted in pool_full when the pool refuses it (R47); the flag says it was stored. -/
def storeBlock (res : PerChan Nat) (c : Chan) (seq : Half) (samples : List Sample) (x : ChanPool) : ChanPool × Bool :=
  match x.2.grant res c with
  | none => (({ x.1 with stats := { x.1.stats with poolFull := bump x.1.stats.poolFull } }, x.2), false)
  | some b =>
    let pe := x.1.pe
    let e : QEntry := ⟨pe.epochIn, seq, samples, peakOf samples⟩
    (({ x.1 with pe := { pe with queue := insertEntry pe.anchor e pe.queue } }, b), true)

/-- The epoch of the first entry in queue order: the oldest epoch present. -/
def Playout.oldestEpoch (pe : Playout) : Byte := (pe.queue.head?.map (·.epoch)).getD pe.playEpoch

/-- Two epochs are present (R39). -/
def Playout.twoEpochs (pe : Playout) : Bool := pe.queue.any fun e => e.epoch != pe.oldestEpoch

/-- The first step of a resync (R45): with two epochs present every entry of the older one is freed and counted. -/
def dropOldEpoch (res : PerChan Nat) (c : Chan) (x : ChanPool) : ChanPool :=
  if x.1.pe.twoEpochs then
    let gone (e : QEntry) : Bool := e.epoch == x.1.pe.oldestEpoch
    let n := x.1.pe.queue.countP gone
    let y := freeEntries res c gone x
    ({ y.1 with stats := { y.1.stats with epochDrop := bumpBy y.1.stats.epochDrop n } }, y.2)
  else x

/-- The second step of a resync (R45): an arrival epoch with entries becomes the playing one when the playing epoch has
none. -/
def Playout.adoptArrivalEpoch (pe : Playout) : Playout :=
  if pe.epochIn ≠ pe.playEpoch ∧ pe.queue.all (fun e => e.epoch != pe.playEpoch) then
    match pe.queue.find? fun e => e.epoch == pe.epochIn with
    | some e => { pe with playEpoch := pe.epochIn, nextPlay := e.seq }
    | none => pe
  else pe

/-- A resync (R45): the older epoch dropped, the next epoch begun at the block, the block stored, the resync counted,
the windows restarted. An epoch number that comes round to the playing epoch's is that epoch's (log 37). -/
def resync (res : PerChan Nat) (c : Chan) (seq : Half) (samples : List Sample) (x : ChanPool) : ChanPool :=
  let y := dropOldEpoch res c x
  let pe := y.1.pe.adoptArrivalEpoch
  let begun : ChanPool := ({ y.1 with pe := { pe with epochIn := pe.epochIn + 1, baseIn := seq } }, y.2)
  let z := (storeBlock res c seq samples begun).1
  ({ z.1 with
      stats := { z.1.stats with resync := bump z.1.stats.resync }
      tru := z.1.tru.restart }, z.2)

/-- The advance of next_play over an overrun block of the playing epoch (R46): the entries passed over are freed and
counted. -/
def overrunAdvance (res : PerChan Nat) (c : Chan) (seq : Half) (x : ChanPool) : ChanPool :=
  let pe := x.1.pe
  let next := seq - BitVec.ofNat 16 x.1.settings.depthMax + 1
  let advance := seqDist pe.nextPlay seq - x.1.settings.depthMax + 1
  let gone (e : QEntry) : Bool := e.epoch == pe.playEpoch && decide (seqDist pe.nextPlay e.seq < advance)
  let n := pe.queue.countP gone
  let y := freeEntries res c gone x
  ({ y.1 with
      pe := { y.1.pe with nextPlay := next }
      stats := { y.1.stats with overrun := bumpBy y.1.stats.overrun n } }, y.2)

/-! ### Classification (R42 to R49) -/

/-- A block of a MEDIA_IN: a primary carries its stamp, a redundant block none; `resync` marks the first primary of a
message with the RESYNC flag. -/
structure Arrival where
  seq : Half
  samples : List Sample
  stamp : Option Word
  resync : Bool
deriving DecidableEq, Repr

/-- The primary blocks of a message in ascending order, each with its own stamp (R40). -/
def primaryArrivals (seq : Half) (stamp : Word) (resync : Bool) : List (List Sample) → List Arrival
  | [] => []
  | b :: rest => ⟨seq, b, some stamp, resync⟩ :: primaryArrivals (seq + 1) (stamp + 80) false rest

/-- The redundant blocks of a message downward from the given number (R40). -/
def redundantArrivals (seq : Half) : List (List Sample) → List Arrival
  | [] => []
  | b :: rest => ⟨seq, b, none, false⟩ :: redundantArrivals (seq - 1) rest

/-- The blocks of a message in the order PE looks at them (R42). -/
def MediaMsg.arrivals (m : MediaMsg) : List Arrival :=
  primaryArrivals m.first m.stamp m.resync m.primaries ++ redundantArrivals (m.first - 1) m.redundant

/-- A primary block handed to TRU; a redundant one is not (R49). -/
def handOver (arrival : Word) (a : Arrival) (x : ChanPool) : ChanPool :=
  match a.stamp with
  | some stamp => (x.1.handToTru stamp arrival, x.2)
  | none => x

/-- A block stored under cases 4 and 5: a redundant one that is stored counts in recovered (R48), a primary is handed
to TRU whether it is stored or not (R49). -/
def storeArrival (res : PerChan Nat) (c : Chan) (arrival : Word) (a : Arrival) (x : ChanPool) : ChanPool :=
  let r := storeBlock res c a.seq a.samples x
  let y : ChanPool :=
    if a.stamp.isNone && r.2 then
      ({ r.1.1 with stats := { r.1.1.stats with recovered := bump r.1.1.stats.recovered } }, r.1.2)
    else r.1
  handOver arrival a y

/-- The first block after OPEN becomes the anchor block (R43). -/
def anchorBlock (res : PerChan Nat) (c : Chan) (arrival : Word) (a : Arrival) (x : ChanPool) : ChanPool :=
  let pe := { x.1.pe with nextPlay := a.seq, baseIn := a.seq, anchored := true }
  handOver arrival a (storeBlock res c a.seq a.samples ({ x.1 with pe := pe }, x.2)).1

/-- The classification of one arriving block (R43, R44). -/
def classify (res : PerChan Nat) (c : Chan) (arrival : Word) (x : ChanPool) (a : Arrival) : ChanPool :=
  let pe := x.1.pe
  let stats := x.1.stats
  let d := seqDist pe.anchor a.seq
  if !pe.anchored then anchorBlock res c arrival a x
  else if 1024 ≤ d.natAbs ∨ a.resync then handOver arrival a (resync res c a.seq a.samples x)
  else if d < 0 then ({ x.1 with stats := { stats with late := bump stats.late } }, x.2)
  else if pe.queue.any (fun e => e.epoch == pe.epochIn && e.seq == a.seq) then
    ({ x.1 with stats := { stats with duplicate := bump stats.duplicate } }, x.2)
  else if (x.1.settings.depthMax : Int) ≤ d then
    if pe.playEpoch = pe.epochIn then storeArrival res c arrival a (overrunAdvance res c a.seq x)
    else handOver arrival a ({ x.1 with stats := { stats with overrun := bump stats.overrun } }, x.2)
  else storeArrival res c arrival a x

/-- PE's work on an accepted message: its blocks one at a time (R42). -/
def playMedia (res : PerChan Nat) (c : Chan) (arrival : Word) (m : MediaMsg) (x : ChanPool) : ChanPool :=
  m.arrivals.foldl (classify res c arrival) x

/-- A MEDIA_IN counted as not from the holder (R41). -/
def State.countNotHolder (s : State) (p : Port) : State :=
  s.modPort p fun x => { x with notHolderMedia := bump x.notHolderMedia }

/-- CT's decision on a valid MEDIA_IN (R41, R100), and PE's work on an accepted one. -/
def State.routeMedia (s : State) (p : Port) (m : MediaMsg) : State :=
  match Chan.ofByte m.chan with
  | none => s.countNotHolder p
  | some c =>
    match (s.chan c).state with
    | .draining => s
    | .run =>
      if (s.chan c).holder = some p then
        let t := if m.dataHint then s.dataHint c else s
        t.modChanPool c (playMedia s.reserves c s.timebase m)
      else s.countNotHolder p
    | _ => s.countNotHolder p

/-- MEDIA_IN (R40, R41, R171): a body that does not match its counts is a bad frame. -/
def execMediaIn (p : Port) (body : List Byte) (s : State) : Host.Outcome State Fault Refusal :=
  match parseMedia body with
  | none => .next (s.countBadFrame p)
  | some m => .next ((s.messageTaken p).routeMedia p m)

/-! ### The channel tick (R50 to R59) -/

/-- The block a tick plays: its samples and peak, whether step 1 supplied it without a take, whether the take missed. -/
structure TickBlock where
  samples : List Sample
  peak : Nat
  supplied : Bool
  missed : Bool
deriving DecidableEq, Repr

/-- The playing epoch moves to the epoch of an entry; a change restarts the windows (R51, R54, R70). -/
def Channel.playFrom (e : QEntry) (ch : Channel) : Channel :=
  { ch with
    pe := { ch.pe with playEpoch := e.epoch, nextPlay := e.seq }
    tru := if e.epoch = ch.pe.playEpoch then ch.tru else ch.tru.restart }

/-- An entry taken for playout (R54): removed, kept as last played, its block returned, next_play past it. -/
def takeEntry (res : PerChan Nat) (c : Chan) (e : QEntry) (x : ChanPool) : TickBlock × ChanPool :=
  (⟨e.samples, e.peak, false, false⟩,
    ({ x.1 with
        pe :=
          { x.1.pe with
            queue := x.1.pe.queue.eraseP fun q => q.epoch == e.epoch && q.seq == e.seq
            lastPlayed := e.samples
            lastPeak := e.peak
            missing := 0
            nextPlay := e.seq + 1 } },
      x.2.giveBack res c))

/-- The n-th concealed block of a run, n from 1 to 3: last played scaled toward zero (R55). -/
def conceal (n : Nat) (samples : List Sample) : List Sample :=
  samples.map fun v => saturate ((v.toInt * ((4 : Int) - n)).tdiv 4)

/-- A missing block (R55, R56): concealed or silent by the mode and the missing count; next_play and the count move on.
-/
def missBlock (ch : Channel) : TickBlock × Channel :=
  let n := stopAt 65535 (ch.pe.missing + 1)
  let moved := { ch.pe with missing := n, nextPlay := ch.pe.nextPlay + 1 }
  match ch.mode with
  | .data =>
    (⟨silence, 0, false, true⟩,
      { ch with pe := moved, stats := { ch.stats with dataGap := bump ch.stats.dataGap } })
  | .voice =>
    if n ≤ 3 then
      (⟨conceal n ch.pe.lastPlayed, ch.pe.lastPeak * (4 - n) / 4, false, true⟩,
        { ch with pe := moved, stats := { ch.stats with concealed := bump ch.stats.concealed } })
    else
      (⟨silence, 0, false, true⟩,
        { ch with pe := moved, stats := { ch.stats with silentFill := bump ch.stats.silentFill } })

/-- The entry of the playing epoch at next_play (R54). -/
def Playout.atNextPlay (pe : Playout) : Option QEntry :=
  pe.queue.find? fun e => e.epoch == pe.playEpoch && e.seq == pe.nextPlay

/-- The take (R54): the entry at next_play, or the first entry of a newer epoch when the playing one is exhausted, or a
missing block. -/
def takeBlock (res : PerChan Nat) (c : Chan) (x : ChanPool) : TickBlock × ChanPool :=
  let pe := x.1.pe
  match pe.atNextPlay with
  | some e => takeEntry res c e x
  | none =>
    if pe.queue.any (fun e => e.epoch == pe.playEpoch) then
      let r := missBlock x.1
      (r.1, (r.2, x.2))
    else
      match pe.queue.head? with
      | some e => takeEntry res c e (x.1.playFrom e, x.2)
      | none =>
        let r := missBlock x.1
        (r.1, (r.2, x.2))

/-- A negative correction (R76): one sequence number skipped, its entry freed when it is queued. -/
def skipNumber (res : PerChan Nat) (c : Chan) (x : ChanPool) : ChanPool :=
  let pe := x.1.pe
  let passed (q : List QEntry) : Channel :=
    { x.1 with
      pe := { pe with queue := q, nextPlay := pe.nextPlay + 1 }
      tru := { x.1.tru with corr := x.1.tru.corr + 1 }
      stats := { x.1.stats with corrSkip := bump x.1.stats.corrSkip } }
  match pe.atNextPlay with
  | some e => (passed (pe.queue.eraseP fun q => q.epoch == e.epoch && q.seq == e.seq), x.2.giveBack res c)
  | none => (passed pe.queue, x.2)

/-- A positive correction (R75): a block of silence without a take. -/
def insertSilence (ch : Channel) : TickBlock × Channel :=
  (⟨silence, 0, true, false⟩,
    { ch with
      tru := { ch.tru with corr := ch.tru.corr - 1 }
      stats := { ch.stats with corrInsert := bump ch.stats.corrInsert } })

/-- Steps 1 and 2 of a VOICE tick (R53, R74 to R76). -/
def voiceSteps (res : PerChan Nat) (c : Chan) (silenceLevel : Nat) (judge : Bool) (x : ChanPool) :
    TickBlock × ChanPool :=
  if judge && decide (x.1.pe.outputPeak < silenceLevel) && decide (0 < x.1.tru.corr) then
    let r := insertSilence x.1
    (r.1, (r.2, x.2))
  else if judge && decide (x.1.pe.outputPeak < silenceLevel) && decide (x.1.tru.corr < 0) then
    takeBlock res c (skipNumber res c x)
  else takeBlock res c x

/-- The oldest entry skipped above the DATA band (R77). -/
def skipOldest (res : PerChan Nat) (c : Chan) (x : ChanPool) : ChanPool :=
  match x.1.pe.queue with
  | [] => x
  | e :: rest =>
    let ch := x.1.playFrom e
    ({ ch with
        pe := { ch.pe with queue := rest, nextPlay := e.seq + 1 }
        stats := { ch.stats with dataSkip := bump ch.stats.dataSkip } },
      x.2.giveBack res c)

/-- Steps 1 and 2 of a DATA tick (R53, R77): last played again below the band, the oldest entry skipped above it. -/
def dataSteps (res : PerChan Nat) (c : Chan) (judge : Bool) (x : ChanPool) : TickBlock × ChanPool :=
  let q := x.1.pe.queue.length
  let set := x.1.settings
  if judge && decide (0 < q) && decide (q + set.dataSlack < set.dataDepth) then
    (⟨x.1.pe.lastPlayed, x.1.pe.lastPeak, true, false⟩,
      ({ x.1 with stats := { x.1.stats with dataRepeat := bump x.1.stats.dataRepeat } }, x.2))
  else if judge && decide (set.dataDepth + set.dataSlack < q) then takeBlock res c (skipOldest res c x)
  else takeBlock res c x

/-- A block becomes the current one and the tick is done (R53). -/
def Channel.begin (block : List Sample) (peak : Nat) (ch : Channel) : Channel :=
  { ch with
    pe := { ch.pe with current := some ⟨block, 0⟩, tickDue := false, outputPeak := peak, freshRun := false } }

/-- The channel returns to PRIMING after this tick (R57); never while DRAINING (R59). -/
def rePrimes (ch : Channel) (b : TickBlock) : Bool :=
  ch.state != .draining && !b.supplied && b.missed && ch.pe.queue.isEmpty
    && (ch.mode == .data || decide (4 ≤ ch.pe.missing))

/-- Steps 3 and 4 of a tick on the block that steps 1 and 2 produced (R53, R57, R72). -/
def finishTick (b : TickBlock) (ch : Channel) : Channel :=
  let primed : Channel := if rePrimes ch b then { ch with pe := { ch.pe with playState := .priming } } else ch
  match ch.mode with
  | .voice =>
    let r := primed.slip b.samples
    r.2.begin r.1 b.peak
  | .data => primed.begin b.samples b.peak

/-- A PLAYING or DRAINING tick (R53, R59); `judge` is clear when the correction step is not made (R51, R59). -/
def playingTick (res : PerChan Nat) (c : Chan) (silenceLevel : Nat) (judge : Bool) (x : ChanPool) : ChanPool :=
  let r :=
    match x.1.mode with
    | .voice => voiceSteps res c silenceLevel judge x
    | .data => dataSteps res c judge x
  (finishTick r.1 r.2.1, r.2.2)

/-- The priming target (R52). -/
def Channel.primingTarget (ch : Channel) : Nat :=
  match ch.mode with
  | .data => ch.settings.dataDepth
  | .voice => if ch.pe.afterOpen then ch.settings.depthStart else ch.tru.target

/-- Playing begins from the oldest entry present (R51, R59). -/
def Channel.startPlaying (e : QEntry) (ch : Channel) : Channel :=
  let moved := ch.playFrom e
  { moved with pe := { moved.pe with playState := .playing, afterOpen := false } }

/-- A PRIMING tick (R51): silence below the target, otherwise a PLAYING tick from its take step. -/
def primingTick (res : PerChan Nat) (c : Chan) (silenceLevel : Nat) (x : ChanPool) : ChanPool :=
  match x.1.pe.queue with
  | [] => (x.1.begin silence 0, x.2)
  | e :: rest =>
    if (e :: rest).length < x.1.primingTarget then (x.1.begin silence 0, x.2)
    else playingTick res c silenceLevel false (x.1.startPlaying e, x.2)

/-- The tick of a channel that does not end a drain. -/
def tickBlock (res : PerChan Nat) (c : Chan) (silenceLevel : Nat) (x : ChanPool) : ChanPool :=
  if x.1.state == .draining then playingTick res c silenceLevel (!x.1.pe.freshRun) x
  else
    match x.1.pe.playState with
    | .priming => primingTick res c silenceLevel x
    | .playing => playingTick res c silenceLevel (!x.1.pe.freshRun) x

/-- A channel tick is to be taken (R50). -/
def Channel.tickTime (ch : Channel) : Bool := ch.state != .idle && ch.pe.tickDue

/-- The finished played block judged by the data-tone detector (R95, R97); before the first tick there is none. -/
def State.judgePlayed (s : State) (c : Chan) (m : Option IntervalMeasure) : State :=
  match (s.chan c).pe.current with
  | none => s
  | some b => s.playedInterval c (judgeInterval m b.samples) b.samples.length s.timebase

/-- PE's choice of the next block, or the end of a drain that finds the queue empty (R53, R59). -/
def State.chooseBlock (s : State) (c : Chan) : State :=
  let ch := s.chan c
  if ch.state == .draining && ch.pe.queue.isEmpty then s.endDrain c .empty
  else s.modChanPool c (tickBlock s.reserves c s.live.global.silenceLevel)

/-- CHANNEL_TICK (R50, R53, R59, R97); before its moment it changes nothing (log 3). The played block is judged
before the next one is chosen (log 15). -/
def execChannelTick (c : Chan) (m : Option IntervalMeasure) (s : State) : Host.Outcome State Fault Refusal :=
  if (s.chan c).tickTime then .next ((s.judgePlayed c m).chooseBlock c) else .next s

end Sys2Proof.Machine
end

