-- ==== Sys2Proof/Machine/Uplink.lean ====
section
/-! DEFINITION. UF: the building of uplink blocks (R80 to R83), the history ring, the forming of MEDIA_OUT (R85) and the end of its transfer (R86). -/

namespace Sys2Proof.Machine

/-- What a channel's output gives to the bridge: its sample when it is VOICED, by the flag in force at the close, or by
the flag it had when it left the loop (R151, log 19). -/
def ChanOut.given (voice : VoiceFlag) (o : ChanOut) : Int := if o.left.getD voice = .voiced then o.sample.toInt else 0

/-- The sample of the other VOICED channels of the loop at one sample time: at most one is attached (R151). -/
def bridge (s : State) (c : Chan) (x : MixSample) : Int :=
  (Chan.all.map fun d =>
    if d = c then 0
    else
      match x.outs.get d with
      | none => 0
      | some o => o.given (s.chan d).voice).sum

/-- The 80 samples of a channel's uplink block, by the flags in force at the close (R81, R151); a channel that has left
stays for the samples it gave (log 19). -/
def uplinkSamples (s : State) (c : Chan) (blk : ClosedBlock) : List Sample :=
  let ch := s.chan c
  if ch.voice = .muted then silence
  else if ch.settings.suppressDigits && (s.loop ch.loop).dtmf.present then silence
  else blk.mix.map fun x => saturate (x.u.toInt + bridge s c x)

/-- What the LOOP path of a channel carries over a loop block: the gained line samples, or zeros while MUTED (R95). -/
def loopPathSamples (ch : Channel) (blk : ClosedBlock) : List Sample :=
  match ch.voice with
  | .voiced => blk.mix.map (·.u)
  | .muted => silence

/-- A block put into the history ring (R83): into an empty slot, over a delivered block, or over an unsent one, which
is counted and moves the send pointer to the entry now oldest. -/
def Channel.putHistory (e : HEntry) (ch : Channel) : Channel :=
  let uf := ch.uf
  if uf.ring.length < uf.ringSize then { ch with uf := { uf with ring := uf.ring ++ [e] } }
  else
    match uf.ring with
    | [] => ch
    | oldest :: rest =>
      if uf.unsent oldest then
        { ch with
          uf := { uf with ring := rest ++ [e], sendPtr := oldest.seq + 1 }
          stats := { ch.stats with historyLost := bump ch.stats.historyLost } }
      else { ch with uf := { uf with ring := rest ++ [e] } }

/-- An uplink block built from a loop block that began at `start` (R82, R83): numbered, stamped, stored. -/
def Channel.build (start : Word) (samples : List Sample) (ch : Channel) : Channel :=
  let e : HEntry := ⟨ch.uf.nextSeq, start + ch.uf.stampOffset, samples⟩
  ({ ch with uf := { ch.uf with nextSeq := ch.uf.nextSeq + 1, firstBlock := none } }).putHistory e

/-- The channel builds from a loop block that began at `start`: its first block time has been reached (R80). -/
def Channel.builds (start : Word) (ch : Channel) : Bool :=
  match ch.uf.firstBlock with
  | none => true
  | some t => reached start t

/-- A channel's part in the close of a loop block: one uplink block built, then its LOOP path judged (R80, R97). -/
def State.closeForChannel (blk : ClosedBlock) (m : Option IntervalMeasure) (s : State) (c : Chan) : State :=
  let ch := s.chan c
  if ch.builds blk.start then
    (s.modChan c (·.build blk.start (uplinkSamples s c blk))).loopInterval c
      (judgeInterval m (loopPathSamples ch blk)) 80 blk.next
  else s

/-- LOOP_BLOCK_CLOSE (R80): the closed block of the loop goes to each attached channel, in ascending order (log 24);
with no closed block waiting it changes nothing (log 3). -/
def execLoopBlockClose (l : Loop) (m : Option IntervalMeasure) (s : State) : Host.Outcome State Fault Refusal :=
  match (s.loop l).closed with
  | none => .next s
  | some blk =>
    .next ((s.attached l).foldl (State.closeForChannel blk m) (s.modLoop l fun x => { x with closed := none }))

/-! ### Sending -/

/-- The ring entry with a sequence number. -/
def Framer.entry (uf : Framer) (seq : Half) : Option HEntry := uf.ring.find? fun e => e.seq == seq

/-- Redundant copies downward from a number, stopping at the first that is not in the ring (R85). -/
def Framer.copies (uf : Framer) : Nat → Half → List (List Sample)
  | 0, _ => []
  | n + 1, seq =>
    match uf.entry seq with
    | none => []
    | some e => e.samples :: uf.copies n (seq - 1)

/-- The MEDIA_OUT formed for a channel from its ring as it stands (R85). -/
def Channel.formMedia (c : Chan) (ch : Channel) : MediaOut :=
  let primaries := (ch.uf.ring.filter ch.uf.unsent).take ch.settings.packet
  { chan := c
    first := ch.uf.sendPtr
    stamp := (primaries.head?.map (·.stamp)).getD 0
    dataFlag := ch.mode == .data
    continued := ch.uf.continued
    primaries := primaries.map (·.samples)
    redundant := if ch.mode == .data then ch.uf.copies ch.settings.redundancy (ch.uf.sendPtr - 1) else [] }

/-- The channel's framer once its message has been formed for a port: the transfer record set, the continued mark
cleared (R85). -/
def Channel.mediaFormed (p : Port) (m : MediaOut) (ch : Channel) : Channel :=
  { ch with uf := { ch.uf with transfer := some ⟨p, m.first, m.primaries.length⟩, continued := false } }

/-- The completion of a MEDIA_OUT (R86): the send pointer moves past the primaries when that is forward. -/
def Channel.mediaCompleted (m : MediaOut) (ch : Channel) : Channel :=
  let next := m.first + BitVec.ofNat 16 m.primaries.length
  { ch with
    uf :=
      { ch.uf with
        sendPtr := if 0 < seqDist ch.uf.sendPtr next then next else ch.uf.sendPtr
        transfer := none } }

/-- The cut of a MEDIA_OUT (R86): the send pointer stays. -/
def Channel.mediaCut (ch : Channel) : Channel := { ch with uf := { ch.uf with transfer := none } }

end Sys2Proof.Machine
end

