-- ==== Sys2Proof/Machine/Ports.lean ====
section
/-! DEFINITION. ALI's own commands: KEEP, unknown request codes, bad frames, the silence timer, and the beginning and completion of an outgoing message (R170 to R182). -/

namespace Sys2Proof.Machine

/-- KEEP (R172): nothing beyond the taking of a valid message; a body that is not empty is a bad frame (R197). -/
def execKeep (p : Port) (body : List Byte) (s : State) : Host.Outcome State Fault Refusal :=
  if body.isEmpty then .next (s.messageTaken p) else .next (s.countBadFrame p)

/-- The request codes the part knows (R200). -/
def knownCodes : List Byte :=
  [0x01, 0x02, 0x03, 0x04, 0x05, 0x06, 0x07, 0x08, 0x09, 0x10, 0x11, 0x12, 0x13, 0x14, 0x15, 0x20, 0x21, 0x22,
   0x30, 0x31, 0x32, 0x33, 0x34, 0x35, 0x36]

/-- A request code the part does not know, answered UNKNOWN (R175); a known code is not this event (log 3). -/
def execUnknownRequestCode (p : Port) (tag code : Byte) (_params : List Byte) (s : State) :
    Host.Outcome State Fault Refusal :=
  if knownCodes.contains code then .next s else .next (s.request p fun s => s.refuse p tag .unknown)

/-- Bytes that make no valid message (R171): the receiver takes them and every bad frame is counted. Bytes that hold a
valid message are not this event (log 21). -/
def execBadFrame (p : Port) (bytes : List Byte) (s : State) : Host.Outcome State Fault Refusal :=
  let r := (s.port p).receiver.takeAll bytes
  if r.2.2 then .next s
  else .next (s.modPort p fun x => { x with receiver := r.1, badFrames := bumpBy x.badFrames r.2.1 })

/-- A media transfer in progress on a port is cut and reported to UF (R86, R174). -/
def State.cutTransfer (s : State) (p : Port) : State :=
  match (s.port p).transfer with
  | some ⟨.media m true, _, _⟩ => s.modChan m.chan Channel.mediaCut
  | _ => s

/-- A port as it goes DOWN (R174, steps 1 to 4): its transfer is cut, with no more of its bytes sent, its queue emptied,
its mark cleared, nothing outstanding. -/
def PortState.goDown (x : PortState) : PortState :=
  { x with
    up := false
    transfer := none
    queue := []
    overflowMark := false
    dropped := 0
    outstanding := 0
    lastServed := none }

/-- A restart pending for a port is lost with its reply (R194). -/
def Restart.lostWith (p : Port) (r : Restart) : Restart := if r = .pending p then .none else r

/-- Each channel in RUN held by a port parks, in ascending order (R8). -/
def State.parkHeldBy (s : State) (p : Port) : State :=
  Chan.all.foldl
    (fun s c => if (s.chan c).state = .run ∧ (s.chan c).holder = some p then s.park c .portDown p else s) s

/-- A ring record of a loop whose owner's port has gone DOWN (R141). -/
def LoopState.ownerDown (p : Port) (x : LoopState) : LoopState :=
  match x.ring with
  | some r => if r.owner = p then { x with ring := some { r with ownerLost := true } } else x
  | none => x

/-- A port goes DOWN (R174). -/
def State.portDown (s : State) (p : Port) : State :=
  let t := (s.cutTransfer p).modPort p PortState.goDown
  let u := { t with restart := t.restart.lostWith p }.parkHeldBy p
  (u.modLoop .a (·.ownerDown p)).modLoop .b (·.ownerDown p)

/-- SILENCE_TIMER_EXPIRY (R174); before the silence end, or on a DOWN port, it changes nothing (log 3). -/
def execSilenceTimerExpiry (p : Port) (s : State) : Host.Outcome State Fault Refusal :=
  if (s.port p).up && reached s.timebase (s.port p).silenceEnd then .next (s.portDown p) else .next s

/-! ### The link arbiter (R180) -/

/-- The channels in cyclic order after the one last served (R180). -/
def cyclicAfter : Option Chan → List Chan
  | none => [.c0, .c1, .c2, .c3]
  | some .c0 => [.c1, .c2, .c3, .c0]
  | some .c1 => [.c2, .c3, .c0, .c1]
  | some .c2 => [.c3, .c0, .c1, .c2]
  | some .c3 => [.c0, .c1, .c2, .c3]

/-- The channel the arbiter serves next on a port, when one is due (R180). -/
def State.nextDue (s : State) (p : Port) : Option Chan := (cyclicAfter (s.port p).lastServed).find? (s.due p)

/-- A MEDIA_OUT begins on a port (R85, R180), none of its bytes sent yet. -/
def State.beginMedia (s : State) (p : Port) (c : Chan) : State :=
  let m := (s.chan c).formMedia c
  (s.modChan c (·.mediaFormed p m)).modPort p fun x =>
    { x with transfer := some ⟨.media m true, m.frame, 0⟩, lastServed := some c }

/-- The port sends the byte whose first bit the agent clocks: the next byte of the transfer, or a fill byte (R170). A
message whose bytes have all been sent waits for its completion (log 40). -/
def PortState.sendByte (x : PortState) : PortState :=
  match x.transfer with
  | none => { x with sent := [fillByte] }
  | some t =>
    match t.frame[t.position]? with
    | none => x
    | some b => { x with sent := [b], transfer := some { t with position := t.position + 1 } }

/-- The port sends the bytes of the transfer that are left, down to its last check byte (R170). -/
def PortState.sendRest (x : PortState) : PortState :=
  match x.transfer with
  | none => x
  | some t => { x with sent := t.frame.drop t.position }

/-- The arbiter's choice when no transfer is in progress (R180): the oldest control entry, otherwise the next due
channel's MEDIA_OUT, otherwise no message. -/
def State.chooseMessage (s : State) (p : Port) : State :=
  if (s.port p).transfer.isSome then s
  else
    match (s.port p).queue with
    | e :: _ => s.modPort p fun x => { x with transfer := some ⟨.control, e.frame, 0⟩ }
    | [] =>
      match s.nextDue p with
      | some c => s.beginMedia p c
      | none => s

/-- MESSAGE_BEGIN, the agent clocks the first bit of a byte (R170, R180): with no transfer in progress the arbiter
chooses, and the byte is the sync byte of the message that begins or a fill byte; in a transfer it is the message's next
byte (log 40). -/
def execMessageBegin (p : Port) (s : State) : Host.Outcome State Fault Refusal :=
  .next ((s.chooseMessage p).modPort p PortState.sendByte)

/-- A sent entry leaves the queue (R176): a reply lowers the outstanding count. -/
def PortState.leaveQueue (e : Entry) (x : PortState) : PortState :=
  { x with
    queue := x.queue.drop 1
    transfer := none
    outstanding := if e.isNotice then x.outstanding else x.outstanding - 1 }

/-- The restart is due when the entry sent is the reply to the accepted RESTART (R194). -/
def Restart.afterEntry (e : Entry) (r : Restart) : Restart :=
  match e with
  | .reply y => if y.restart then .due else r
  | .notice _ => r

/-- A message has been sent down to its last check byte: what its completion does (R86, R176, R179, R194). -/
def State.completeTransfer (s : State) (p : Port) : State :=
  match (s.port p).transfer with
  | none => s
  | some ⟨.control, _, _⟩ =>
    match (s.port p).queue with
    | [] => s.modPort p fun x => { x with transfer := none }
    | e :: _ =>
      { s.modPort p fun x => (x.leaveQueue e).settleOverflow s.timebase p with
        restart := s.restart.afterEntry e }
  | some ⟨.media m current, _, _⟩ =>
    (if current then s.modChan m.chan (Channel.mediaCompleted m) else s).modPort p fun x => { x with transfer := none }

/-- TRANSFER_COMPLETE, the agent has clocked the last bit of the last check byte (R170): the bytes left have been sent,
and the message completes (R86, R176, R179, R194). With no transfer in progress it changes nothing (log 3). -/
def execTransferComplete (p : Port) (s : State) : Host.Outcome State Fault Refusal :=
  .next ((s.modPort p PortState.sendRest).completeTransfer p)

end Sys2Proof.Machine
end

