-- ==== Sys2Proof/Machine/Depths.lean ====
section
/-! DEFINITION. The fifteen channel settings as keys (R20, R185, R187): reading one, and storing a value with its clamping. CHANNEL_SET, SET and GET share them. -/

namespace Sys2Proof.Machine

/-- The nearest of the four window spans, halves upward (R20). -/
def nearestWindow (v : Nat) : Nat :=
  if v < 24000 then 16000 else if v < 48000 then 32000 else if v < 96000 then 64000 else 128000

/-- The depths brought within one another (R20, R187): depth_min and data_depth at most depth_max, depth_start within
[depth_min, depth_max]. -/
def boundDepths (set : ChannelSettings) : ChannelSettings :=
  let low := min set.depthMin set.depthMax
  { set with
    depthMin := low
    dataDepth := min set.dataDepth set.depthMax
    depthStart := clampNat low set.depthMax set.depthStart }

/-- The number an on/off setting is given and read as. -/
def flagNat (b : Bool) : Nat := if b then 1 else 0

/-- A setting's value as a reply carries it. -/
def TemplateKey.read (k : TemplateKey) (set : ChannelSettings) : Nat :=
  match k with
  | .depthMin => set.depthMin
  | .depthMax => set.depthMax
  | .depthStart => set.depthStart
  | .guard => set.guard
  | .window => set.window
  | .smoothing => set.smoothing
  | .dataDepth => set.dataDepth
  | .dataSlack => set.dataSlack
  | .history => set.history
  | .redundancy => set.redundancy
  | .packet => set.packet
  | .autoData => flagNat set.autoData
  | .suppressDigits => flagNat set.suppressDigits
  | .parkTime => set.parkTime
  | .drainLimit => set.drainLimit

/-- An on/off value; anything but 0 and 1 is neither (R20, R186). -/
def onOff (v : Nat) : Option Bool :=
  match v with
  | 0 => some false
  | 1 => some true
  | _ => none

/-- A value stored under a key, clamped into its range and against the other depths (R20, R185, R187); none for an
on/off key given a value that is neither. -/
def TemplateKey.write (k : TemplateKey) (v : Nat) (set : ChannelSettings) : Option ChannelSettings :=
  match k with
  | .depthMin => some (boundDepths { set with depthMin := clampNat 1 64 v })
  | .depthMax => some (boundDepths { set with depthMax := clampNat 2 64 v })
  | .depthStart => some (boundDepths { set with depthStart := v })
  | .guard => some { set with guard := clampNat 0 800 v }
  | .window => some { set with window := nearestWindow v }
  | .smoothing => some { set with smoothing := clampNat 0 3 v }
  | .dataDepth => some (boundDepths { set with dataDepth := clampNat 2 64 v })
  | .dataSlack => some { set with dataSlack := clampNat 1 8 v }
  | .history => some { set with history := clampNat 4 32 v }
  | .redundancy => some { set with redundancy := min (clampNat 0 3 v) (set.history - 1) }
  | .packet => some { set with packet := clampNat 1 4 v }
  | .autoData => (onOff v).map fun b => { set with autoData := b }
  | .suppressDigits => (onOff v).map fun b => { set with suppressDigits := b }
  | .parkTime => some { set with parkTime := clampNat 100 10000 v }
  | .drainLimit => some { set with drainLimit := clampNat 0 5000 v }

end Sys2Proof.Machine
end

