-- ==== Sys2Proof/Machine/ChannelTable.lean ====
section
/-! DEFINITION. The requests of CT but for MODE: OPEN, CLAIM, HANDOFF, CLOSE, CONNECT, SET_FALLBACK, CHANNEL_SET, STATS (R3 to R23), and the park expiry and drain deadline (R14, R15, R18). -/

namespace Sys2Proof.Machine

/-! ### OPEN (R4, R5) -/

/-- The parameters of an OPEN, as carried. -/
structure OpenParams where
  loop : Loop
  mode : Mode
  packet : Nat
  fallback : Option Port
  seqBase : Half
  stampBase : Word
  driftHint : Int
  takeDial : Bool
deriving DecidableEq, Repr

/-- The parameter bytes of an OPEN; a value outside its range refuses them (R4, step 1). -/
def OpenParams.ofBytes : List Byte → Option OpenParams
  | [l, m, k, f, s1, s0, b3, b2, b1, b0, d1, d0, t] =>
    match Loop.ofByte l, Mode.ofByte m, portOrNone f, flagOf t with
    | some loop, some mode, some fallback, some takeDial =>
      if 1 ≤ k.toNat ∧ k.toNat ≤ 4 then
        some ⟨loop, mode, k.toNat, fallback, half s1 s0, word b3 b2 b1 b0, (half d1 d0).toInt, takeDial⟩
      else none
    | _, _, _, _ => none
  | _ => none

/-- The lowest-numbered IDLE channel (R4). -/
def State.lowestIdle (s : State) : Option Chan := Chan.all.find? fun c => (s.chan c).state == .idle

/-- The drift hint within its range (R5). -/
def OpenParams.drift (o : OpenParams) : Int := clampInt (-1000) 1000 o.driftHint

/-- The first sample time of the first loop block that begins after now (R79, R80). -/
def State.nextBlockTime (s : State) (l : Loop) : Word :=
  s.nextSample + BitVec.ofNat 32 ((80 - (s.loop l).block.length) % 80)

/-- The channel an accepted OPEN sets up (R5, R38, R61, R79, R94). -/
def Channel.opened (p : Port) (o : OpenParams) (template : ChannelSettings) (first : Word) (lead : Bool)
    (ch : Channel) : Channel :=
  { ch with
    state := .run
    holder := some p
    fallback := o.fallback
    parkFallback := none
    loop := o.loop
    lead := lead
    voice := .voiced
    mode := o.mode
    notices := []
    settings := { template with packet := o.packet }
    stats := .zero
    pe := { Playout.cleared with afterOpen := true }
    tru := { Timing.cleared with est := o.drift, target := template.depthStart }
    uf :=
      { Framer.cleared with
        ringSize := template.history
        nextSeq := o.seqBase
        stampOffset := o.stampBase - first
        firstBlock := some first
        sendPtr := o.seqBase }
    det := .fresh (o.mode == .voice) }

/-- The dial buffer emptied (R5, R117, R124). -/
def LoopState.emptyDial (x : LoopState) : LoopState := { x with dial := [], dialOverflow := false }

/-- The digits, with their overflow flag, that an OPEN hands to its requester (R5, log 14). -/
def dialTaken (x : LoopState) (lead takeDial : Bool) : List Byte × Bool :=
  if lead && takeDial then (x.dial, x.dialOverflow) else ([], false)

/-- What an OPEN does to the loop's dial buffer and auto dial tone (R5): nothing unless the channel becomes lead. -/
def State.takeDial (s : State) (l : Loop) (lead takeDial : Bool) : State :=
  if lead then
    let t := s.modLoop l LoopState.emptyDial
    if takeDial && (t.loop l).autoTone then t.endTone l .taken t.timebase else t
  else s

/-- The accepted OPEN of a channel whose history blocks are granted (R5). R93 speaks of a seq base and a stamp base in
its reply, for which R5 and R200 give no field: none is sent, the model's choice (log 41). -/
def State.openChannel (s : State) (p : Port) (tag : Byte) (o : OpenParams) (c : Chan) (pool : Pool) : State :=
  let lead := (s.attached o.loop).isEmpty
  let dial := dialTaken (s.loop o.loop) lead o.takeDial
  let first := s.nextBlockTime o.loop
  let t := ({ s with pool := pool }.modChan c (Channel.opened p o s.live.template first lead)).takeDial
    o.loop lead o.takeDial
  t.acceptClamped p tag (o.drift != o.driftHint)
    ([Chan.byte c, flagByte lead, flagByte dial.2, byteOf dial.1.length] ++ dial.1)

/-- OPEN at CT (R4): the checks in order, and the grant of the history ring. -/
def openBody (p : Port) (tag : Byte) (params : List Byte) (s : State) : State :=
  match OpenParams.ofBytes params with
  | none => s.refuse p tag .badParam
  | some o =>
    match s.lowestIdle with
    | none => s.refuse p tag .noChannel
    | some c =>
      if 2 ≤ (s.attached o.loop).length then s.refuse p tag .loopBusy
      else
        match Pool.grantRing s.reserves c s.live.template.history s.pool with
        | (none, returned) => { s with pool := returned }.refuse p tag .noPool
        | (some pool, _) => s.openChannel p tag o c pool

/-- OPEN (R4, R5). -/
def execOpenReq (p : Port) (tag : Byte) (params : List Byte) (s : State) : Host.Outcome State Fault Refusal :=
  .next (s.request p (openBody p tag params))

/-! ### CLAIM (R12, R13) -/

/-- The channel summary of a CLAIM (R13, R89, R200). -/
def Channel.summary (ch : Channel) : List Byte :=
  [Loop.byte ch.loop, ch.mode.byte, flagByte ch.lead, ch.voice.byte] ++ bytes16 ch.uf.nextSeq
    ++ bytes32 ch.uf.stampOffset ++ [ch.pe.playEpoch] ++ bytes16 ch.pe.nextPlay
    ++ bytes16 (BitVec.ofInt 16 ch.tru.est) ++ [byteOf ch.uf.unsentCount, byteOf ch.notices.length]

/-- The channel of an accepted CLAIM (R13, R24, R89). -/
def Channel.claimed (p : Port) (ch : Channel) : Channel :=
  { ch with
    state := .run
    holder := some p
    parkFallback := none
    notices := []
    tru := ch.tru.restart
    uf := { ch.uf with continued := true }
    stats := { ch.stats with takeovers := bump ch.stats.takeovers } }

/-- The accepted CLAIM (R13): the binding, the reply with the summary, the pending notices. -/
def State.claim (s : State) (p : Port) (tag : Byte) (c : Chan) : State :=
  let ch := s.chan c
  ((s.modChan c (Channel.claimed p)).accept p tag ch.summary).offerList p ch.notices

/-- CLAIM at CT (R12). -/
def claimBody (p : Port) (tag : Byte) (params : List Byte) (s : State) : State :=
  match params with
  | [chanByte] =>
    match Chan.ofByte chanByte with
    | none => s.refuse p tag .badParam
    | some c =>
      match (s.chan c).state with
      | .parked => s.claim p tag c
      | .run => if (s.chan c).holder = some p then s.refuse p tag .wrongState else s.refuse p tag .held
      | _ => s.refuse p tag .wrongState
  | _ => s.refuse p tag .badParam

/-- CLAIM (R12, R13). -/
def execClaimReq (p : Port) (tag : Byte) (params : List Byte) (s : State) : Host.Outcome State Fault Refusal :=
  .next (s.request p (claimBody p tag params))

/-! ### HANDOFF (R9) -/

/-- The accepted HANDOFF (R9): the target as park fallback, the reply, the park. -/
def State.handoff (s : State) (p : Port) (tag : Byte) (c : Chan) (target : Port) : State :=
  ((s.modChan c fun ch => { ch with parkFallback := some target }).accept p tag []).park c .handoff p

/-- HANDOFF at CT (R9). -/
def handoffBody (p : Port) (tag : Byte) (params : List Byte) (s : State) : State :=
  match params with
  | [chanByte, targetByte] =>
    s.holderOnly p tag chanByte fun c =>
      if (s.chan c).state ≠ .run then s.refuse p tag .wrongState
      else
        match Port.ofByte targetByte with
        | none => s.refuse p tag .badParam
        | some target =>
          if target = p then s.refuse p tag .badParam
          else if !(s.port target).up then s.refuse p tag .wrongState
          else s.handoff p tag c target
  | _ => s.refuse p tag .badParam

/-- HANDOFF (R9). -/
def execHandoffReq (p : Port) (tag : Byte) (params : List Byte) (s : State) : Host.Outcome State Fault Refusal :=
  .next (s.request p (handoffBody p tag params))

/-! ### CLOSE (R16, R17) -/

/-- Why a CLOSE with drain goes straight to IDLE (R17), the first reason in the rule's list. -/
def noDrain (ch : Channel) (hook : HookState) : Option DrainReason :=
  if hook = .onhook then some .hangup
  else if ch.pe.queue.isEmpty then some .empty
  else if ch.settings.drainLimit = 0 then some .limit
  else none

/-- A channel put in DRAINING (R17, R59): a PRIMING one with entries starts playing at once. -/
def Channel.drained (now : Word) (ch : Channel) : Channel :=
  let x := { ch with state := .draining, drainDeadline := now + msSpan ch.settings.drainLimit }
  match ch.pe.playState, ch.pe.queue with
  | .priming, e :: _ =>
    let y := x.startPlaying e
    { y with pe := { y.pe with freshRun := true } }
  | _, _ => x

/-- CLOSE with drain taken in RUN (R17). -/
def State.closeWithDrain (s : State) (p : Port) (tag : Byte) (c : Chan) : State :=
  match noDrain (s.chan c) (s.loop (s.chan c).loop).hook with
  | some reason => (s.accept p tag []).endDrain c reason
  | none => (s.modChan c (Channel.drained s.timebase)).accept p tag []

/-- CLOSE at CT (R3, R16, R17). -/
def closeBody (p : Port) (tag : Byte) (params : List Byte) (s : State) : State :=
  match params with
  | [chanByte, drainByte] =>
    match flagOf drainByte with
    | none => s.refuse p tag .badParam
    | some drain =>
      s.holderOnly p tag chanByte fun c =>
        if !drain then (s.toIdle c).accept p tag []
        else if (s.chan c).state ≠ .run then s.refuse p tag .wrongState
        else s.closeWithDrain p tag c
  | _ => s.refuse p tag .badParam

/-- CLOSE (R16, R17). -/
def execCloseReq (p : Port) (tag : Byte) (params : List Byte) (s : State) : Host.Outcome State Fault Refusal :=
  .next (s.request p (closeBody p tag params))

/-! ### CONNECT and SET_FALLBACK (R19, R7) -/

/-- CONNECT at CT (R19). -/
def connectBody (p : Port) (tag : Byte) (params : List Byte) (s : State) : State :=
  match params with
  | [chanByte, voiceByte] =>
    s.holderOnly p tag chanByte fun c =>
      match VoiceFlag.ofByte voiceByte with
      | none => s.refuse p tag .badParam
      | some v => (s.modChan c fun ch => { ch with voice := v }).accept p tag []
  | _ => s.refuse p tag .badParam

/-- CONNECT (R19). -/
def execConnectReq (p : Port) (tag : Byte) (params : List Byte) (s : State) : Host.Outcome State Fault Refusal :=
  .next (s.request p (connectBody p tag params))

/-- SET_FALLBACK at CT (R7). -/
def setFallbackBody (p : Port) (tag : Byte) (params : List Byte) (s : State) : State :=
  match params with
  | [chanByte, portByte] =>
    s.holderOnly p tag chanByte fun c =>
      if (s.chan c).state ≠ .run then s.refuse p tag .wrongState
      else
        match portOrNone portByte with
        | none => s.refuse p tag .badParam
        | some f => (s.modChan c fun ch => { ch with fallback := f }).accept p tag []
  | _ => s.refuse p tag .badParam

/-- SET_FALLBACK (R7). -/
def execSetFallbackReq (p : Port) (tag : Byte) (params : List Byte) (s : State) : Host.Outcome State Fault Refusal :=
  .next (s.request p (setFallbackBody p tag params))

/-! ### CHANNEL_SET (R20, R21, R71) -/

/-- TRU's target after a change of an open channel's depth settings (R21, R71). -/
def adjustedTarget (k : TemplateKey) (old new : ChannelSettings) (t : Timing) : Nat :=
  match k with
  | .depthStart => if t.closedSinceOpen then t.target else new.depthStart
  | .depthMin | .depthMax =>
    if !t.closedSinceOpen && new.depthStart != old.depthStart then new.depthStart
    else clampNat new.depthMin new.depthMax t.target
  | _ => t.target

/-- The anchor of an entry's epoch (R21, R39). -/
def Playout.anchorOf (pe : Playout) (e : QEntry) : Half := if e.epoch = pe.playEpoch then pe.nextPlay else pe.baseIn

/-- The entries a lowered depth_max discards (R21): those at a distance of it or more beyond their epoch's anchor, each
counted in overrun. -/
def discardBeyond (res : PerChan Nat) (c : Chan) (depthMax : Nat) (x : ChanPool) : ChanPool :=
  let gone (e : QEntry) : Bool := decide ((depthMax : Int) ≤ seqDist (x.1.pe.anchorOf e) e.seq)
  let n := x.1.pe.queue.countP gone
  let y := freeEntries res c gone x
  ({ y.1 with stats := { y.1.stats with overrun := bumpBy y.1.stats.overrun n } }, y.2)

/-- An open channel with a setting changed (R20, R21). -/
def applyChannelSet (res : PerChan Nat) (c : Chan) (k : TemplateKey) (new : ChannelSettings) (x : ChanPool) :
    ChanPool :=
  let old := x.1.settings
  let y : ChanPool :=
    ({ x.1 with settings := new, tru := { x.1.tru with target := adjustedTarget k old new x.1.tru } }, x.2)
  if new.depthMax < old.depthMax then discardBeyond res c new.depthMax y else y

/-- CHANNEL_SET at CT (R20). -/
def channelSetBody (p : Port) (tag : Byte) (params : List Byte) (s : State) : State :=
  match params with
  | [chanByte, key, v3, v2, v1, v0] =>
    s.holderOnly p tag chanByte fun c =>
      if (s.chan c).state ≠ .run then s.refuse p tag .wrongState
      else
        match TemplateKey.ofByte key with
        | none => s.refuse p tag .badParam
        | some .history => s.refuse p tag .wrongState
        | some k =>
          let v := (word v3 v2 v1 v0).toNat
          match k.write v (s.chan c).settings with
          | none => s.refuse p tag .badParam
          | some new =>
            (s.modChanPool c (applyChannelSet s.reserves c k new)).acceptClamped p tag (k.read new != v)
              (bytes32 (BitVec.ofNat 32 (k.read new)))
  | _ => s.refuse p tag .badParam

/-- CHANNEL_SET (R20, R21). -/
def execChannelSetReq (p : Port) (tag : Byte) (params : List Byte) (s : State) : Host.Outcome State Fault Refusal :=
  .next (s.request p (channelSetBody p tag params))

/-! ### STATS (R22, R23) -/

/-- The counters in the order of the table of R22. -/
def Stats.list (x : Stats) : List Word :=
  [x.late, x.duplicate, x.overrun, x.poolFull, x.resync, x.epochDrop, x.recovered, x.concealed, x.silentFill, x.dataGap,
   x.windowReject, x.slipDrop, x.slipRepeat, x.corrInsert, x.corrSkip, x.dataRepeat, x.dataSkip, x.historyLost, x.parks,
   x.takeovers, x.pendingDropped]

/-- The fields of STATS after the counters (R23, R200): in IDLE the holder none and the others 0. R188 says that an open
channel's depth settings appear in STATS, for which R23 and R200 give no field: none is sent, the model's choice (log
35). -/
def statsFields (ch : Channel) (held : Nat) : List Byte :=
  if ch.state = .idle then [0, 0xFF, 0, 0, 0, 0, 0, 0, 0, 0]
  else
    [ch.state.byte, portOrNoneByte ch.holderOf, ch.mode.byte, ch.voice.byte, byteOf ch.pe.queue.length]
      ++ nat16 held ++ bytes16 (BitVec.ofInt 16 ch.tru.est) ++ [byteOf ch.tru.target]

/-- The results of STATS (R23, R200). -/
def State.statsResults (s : State) (c : Chan) : List Byte :=
  (s.chan c).stats.list.flatMap bytes32 ++ statsFields (s.chan c) (s.pool.held.get c)

/-- STATS at CT (R3, R23). -/
def statsBody (p : Port) (tag : Byte) (params : List Byte) (s : State) : State :=
  match params with
  | [chanByte, clearByte] =>
    match Chan.ofByte chanByte, flagOf clearByte with
    | some c, some false => s.accept p tag (s.statsResults c)
    | some c, some true =>
      if (s.chan c).heldBy p then
        (s.modChan c fun ch => { ch with stats := .zero }).accept p tag (s.statsResults c)
      else s.refuse p tag .notHolder
    | _, _ => s.refuse p tag .badParam
  | _ => s.refuse p tag .badParam

/-- STATS (R23). -/
def execStatsReq (p : Port) (tag : Byte) (params : List Byte) (s : State) : Host.Outcome State Fault Refusal :=
  .next (s.request p (statsBody p tag params))

/-! ### The park expiry and the drain deadline (R14, R15, R18) -/

/-- The pending-notice list discarded and counted (R14). -/
def Channel.discardNotices (ch : Channel) : Channel :=
  { ch with
    notices := []
    stats := { ch.stats with pendingDropped := bumpBy ch.stats.pendingDropped ch.notices.length } }

/-- The program park_lost_program names, when it names one that is not empty (R15). -/
def State.parkLostProgram (s : State) (l : Loop) : Option (Fin 8) :=
  (s.loopSet l).parkLostProgram.filter fun n => !Program.isEmpty (s.live.programs.get n)

/-- The park-lost handling of a loop (R15): the program, with a denial pending under deny_on_loss, or the denial at
once. A PARK_LOST tone has no requester in the spec; the P0 is the model's choice (log 38). -/
def State.parkLost (s : State) (l : Loop) : State :=
  let set := s.loopSet l
  match s.parkLostProgram l with
  | some n =>
    (s.startTone l .parkLost .p0 n).modLoop l fun x =>
      { x with lostDenial := if set.denyOnLoss then some set.denyTime else none }
  | none => if set.denyOnLoss then s.deny l set.denyTime else s

/-- The loop gets the park-lost handling: off-hook and ACTIVE (R15). -/
def LoopState.losesPark (x : LoopState) : Bool := x.hook == .offhook && x.feed == .active

/-- A park expires (R14, R15). PARK_EXPIRED is queued before the TONE_DONE of a tone that the park-lost program
replaces: the spec orders neither, the model's choice (log 30). -/
def State.expirePark (s : State) (c : Chan) : State :=
  let ch := s.chan c
  let told := s.offerEach (s.offerPorts ch.loop) ⟨.parkExpired ch.oldHolder, some ch.loop, some c, s.timebase⟩
  let t := (told.modChan c Channel.discardNotices).toIdle c
  if ch.lead && (t.loop ch.loop).losesPark then t.parkLost ch.loop else t

/-- PARK_EXPIRY (R14); for a channel not PARKED, or before its deadline, it changes nothing (log 3). -/
def execParkExpiry (c : Chan) (s : State) : Host.Outcome State Fault Refusal :=
  if (s.chan c).state == .parked && reached s.timebase (s.chan c).parkDeadline then .next (s.expirePark c)
  else .next s

/-- DRAIN_DEADLINE (R18); for a channel not DRAINING, or before its deadline, it changes nothing (log 3). -/
def execDrainDeadline (c : Chan) (s : State) : Host.Outcome State Fault Refusal :=
  if (s.chan c).state == .draining && reached s.timebase (s.chan c).drainDeadline then .next (s.endDrain c .limit)
  else .next s

end Sys2Proof.Machine
end

