-- ==== Sys2Proof/Machine/LineTest.lean ====
section
/-! DEFINITION. LTU: TEST (R163), the ends of its phases (R164, R165), the abort of a test (R166) and TEST_DONE (R167). -/

namespace Sys2Proof.Machine

/-- TEST_DONE raised for the requester of a test on a loop (R167). -/
def State.testDone (s : State) (l : Loop) (outcome : TestOutcome) (nRef nLoop : Nat) (isOver : Bool) : State :=
  let t := (s.loop l).test
  s.offer t.requester ⟨.testDone outcome nRef nLoop t.load isOver, some l, none, s.timebase⟩

/-- The reference count an abort reports: the one held when the REF phase has completed, 0 otherwise (R166). -/
def LineTest.countHeld (t : LineTest) : Nat := if t.phase = .loop then t.nRef else 0

/-- A test in progress aborted (R166): the phase becomes NONE, the load stands, TEST_DONE is raised. The feed state
that follows is the caller's. -/
def State.abortTest (s : State) (l : Loop) (outcome : TestOutcome) : State :=
  let held := (s.loop l).test.countHeld
  (s.modLoop l fun x => { x with test := { x.test with phase := .none } }).testDone l outcome held 0 false

/-- The record of an accepted TEST (R163). -/
def LineTest.begun (p : Port) (gate : Nat) (now : Word) (t : LineTest) : LineTest :=
  let g := ceilDiv gate 128
  { t with
    phase := .ref
    requester := p
    gate := gate
    gateLength := g
    phaseEnd := now + BitVec.ofNat 32 g
    nRef := 0
    nLoop := 0 }

/-- TEST at LTU (R163). -/
def testBody (p : Port) (tag : Byte) (params : List Byte) (s : State) : State :=
  match params with
  | [loopByte] =>
    match Loop.ofByte loopByte with
    | none => s.refuse p tag .badParam
    | some l =>
      match (s.loop l).feed with
      | .idle =>
        (s.modLoop l fun x =>
          { x with feed := .testing, test := x.test.begun p s.live.global.testGate s.timebase }).accept p tag []
      | .active => s.refuse p tag .loopBusy
      | _ => s.refuse p tag .busy
  | _ => s.refuse p tag .badParam

/-- TEST (R163). -/
def execTestReq (p : Port) (tag : Byte) (params : List Byte) (s : State) : Host.Outcome State Fault Refusal :=
  .next (s.request p (testBody p tag params))

/-- The record at the end of the REF phase (R164). -/
def LineTest.refEnded (count : Nat) (t : LineTest) : LineTest :=
  { t with phase := .loop, nRef := stopAt 65535 count, phaseEnd := t.phaseEnd + BitVec.ofNat 32 t.gateLength }

/-- REF_PHASE_END (R164); outside the REF phase, or before its end, it changes nothing (log 3). -/
def execRefPhaseEnd (l : Loop) (count : Nat) (s : State) : Host.Outcome State Fault Refusal :=
  let t := (s.loop l).test
  if t.phase == .ref && reached s.timebase t.phaseEnd then
    .next (s.modLoop l fun x => { x with test := x.test.refEnded count })
  else .next s

/-- The load ratio in tenths of a unit, to the nearest with halves upward (R165, step 2). -/
def loadRatio (nRef nLoop : Nat) : Nat := (20 * nLoop + nRef) / (2 * nRef)

/-- The result of a test (R165): the outcome, the measured load after it, the OVER flag. -/
def testResult (nRef nLoop : Nat) (before : Option Nat) : TestOutcome × Option Nat × Bool :=
  if nRef < 256 then (.refFault, before, false)
  else
    let load := loadRatio nRef nLoop
    if 99 < load then (.completed, some 99, true) else (.completed, some load, false)

/-- The end of a test with the loop count held (R165): the load stored, the feed IDLE, TEST_DONE raised. -/
def State.finishTest (s : State) (l : Loop) (nLoop : Nat) : State :=
  let t := (s.loop l).test
  let r := testResult t.nRef nLoop t.load
  (s.modLoop l fun x =>
    { x.enterIdle with test := { x.test with phase := .none, nLoop := nLoop, load := r.2.1 } }).testDone
      l r.1 t.nRef nLoop r.2.2

/-- LOOP_PHASE_END (R165); outside the LOOP phase, or before its end, it changes nothing (log 3). -/
def execLoopPhaseEnd (l : Loop) (count : Nat) (s : State) : Host.Outcome State Fault Refusal :=
  let t := (s.loop l).test
  if t.phase == .loop && reached s.timebase t.phaseEnd then .next (s.finishTest l (stopAt 65535 count)) else .next s

end Sys2Proof.Machine
end

