-- ==== Sys2Proof/Machine/Ringing.lean ====
section
/-! DEFINITION. RG: RING and RING_STOP (R131 to R134), the step boundary (R129, R135 to R139), the end of a ring (R140, R141), and the caller data (R142, R145). -/

namespace Sys2Proof.Machine

/-! ### The end of a ring (R130, R134, R140, R141) -/

/-- The caller status of a ring that ends in a caller state (R134, R139, R140; log 18 for RING_STOP). -/
def CallerState.atEnd : CallerState → CallerState
  | .awaitRunEnd => .notSent
  | .waiting => .notSent
  | .sending => .aborted
  | .none => .none
  | .complete => .complete
  | .notSent => .notSent
  | .aborted => .aborted

/-- The fields a ring notice takes from the record (R141). -/
def RingRecord.summary (r : RingRecord) : RingSummary :=
  ⟨r.callerState.atEnd, r.rung, r.deferred, r.suppressed, r.bursts⟩

/-- A loop with its ring record removed (R130): the ring signal, the caller wait and the transmission are gone. -/
def LoopState.dropRing (x : LoopState) : LoopState := { x with ring := none, tx := none, ringSignal := false }

/-- A ring of a loop that ends in IDLE with RING_DONE (R134, R139, R145). -/
def State.finishRing (s : State) (l : Loop) (r : RingRecord) (reason : RingReason) : State :=
  (s.modLoop l fun x => x.dropRing.enterIdle).routeRing l r.owner r.ownerLost
    ⟨.ringDone reason r.summary, some l, none, s.timebase⟩

/-- A ring trip (R114, R140): the ring ends as an answer, the feed becomes ACTIVE, ANSWERED is raised. -/
def State.ringTrip (s : State) (l : Loop) : State :=
  let t := s.modLoop l fun x => { x.dropRing.enterActive with hook := .offhook, pulses := 0 }
  match (s.loop l).ring with
  | none => t
  | some r => t.routeRing l r.owner r.ownerLost ⟨.answered r.summary, some l, none, s.timebase⟩

/-! ### RING and RING_STOP (R131 to R134) -/

/-- The parameters of a RING that passes the checks of R131 (steps 1 to 3), R133 and R201. -/
structure RingParams where
  loop : Loop
  period : Nat
  mask : Half
  bursts : Nat
  caller : CallerRecord
deriving DecidableEq, Repr

/-- The parameter bytes of a RING (R131, R133, R201). -/
def RingParams.ofBytes : List Byte → Option RingParams
  | l :: n :: m1 :: m0 :: b :: count :: rest =>
    match Loop.ofByte l, parseFields count.toNat rest with
    | some loop, some fields =>
      let mask := half m1 m0
      if 1 ≤ n.toNat ∧ n.toNat ≤ 16 ∧ mask ≠ 0 ∧ mask.toNat < 2 ^ n.toNat ∧ b ≠ 0 ∧ fieldTypesOk fields
          ∧ (callerOf fields).ok
        then some ⟨loop, n.toNat, mask, b.toNat, callerOf fields⟩
        else none
    | _, _ => none
  | _ => none

/-- The record an accepted RING creates (R132). The phase origin before the record starts and the wait end before
WAITING have no value in the spec; the 0 here is the model's choice (log 31). -/
def RingParams.record (o : RingParams) (p : Port) : RingRecord where
  owner := p
  ownerLost := false
  period := o.period
  mask := o.mask
  phaseOrigin := 0
  started := false
  burstsLeft := o.bursts
  final := false
  rang := false
  lastAge := none
  ringAge := 0
  caller := o.caller.stored
  callerState := if o.caller.present then .awaitRunEnd else .none
  waitEnd := 0
  rung := 0
  deferred := 0
  suppressed := 0
  bursts := 0

/-- The accepted RING (R131 to R133). -/
def State.startRing (s : State) (p : Port) (tag : Byte) (o : RingParams) : State :=
  (s.modLoop o.loop fun x => { x with feed := .ringing, ring := some (o.record p) }).acceptClamped p tag
    (o.caller.stored != o.caller) []

/-- RING at RG (R131). -/
def ringBody (p : Port) (tag : Byte) (params : List Byte) (s : State) : State :=
  match RingParams.ofBytes params with
  | none => s.refuse p tag .badParam
  | some o =>
    match (s.loop o.loop).feed with
    | .idle => s.startRing p tag o
    | .testing => (s.abortTest o.loop .abortedRing).startRing p tag o
    | .active => s.refuse p tag .loopBusy
    | _ => s.refuse p tag .busy

/-- RING (R131). -/
def execRingReq (p : Port) (tag : Byte) (params : List Byte) (s : State) : Host.Outcome State Fault Refusal :=
  .next (s.request p (ringBody p tag params))

/-- RING_STOP at RG (R134). -/
def ringStopBody (p : Port) (tag : Byte) (params : List Byte) (s : State) : State :=
  match params with
  | [loopByte] =>
    match Loop.ofByte loopByte with
    | none => s.refuse p tag .badParam
    | some l =>
      match (s.loop l).ring with
      | none => s.refuse p tag .wrongState
      | some r =>
        if r.owner = p then (s.accept p tag []).finishRing l r .stopped else s.refuse p tag .notHolder
  | _ => s.refuse p tag .badParam

/-- RING_STOP (R134). -/
def execRingStopReq (p : Port) (tag : Byte) (params : List Byte) (s : State) : Host.Outcome State Fault Refusal :=
  .next (s.request p (ringStopBody p tag params))

/-! ### The step boundary (R129, R135 to R139) -/

/-- The own step of a record at a step index (R130). -/
def RingRecord.ownStep (r : RingRecord) (index : Nat) : Nat := (index + 720720 - r.phaseOrigin) % 720720 % r.period

/-- The caller data holds back the ringing (R130): WAITING or SENDING. -/
def RingRecord.callerBusy (r : RingRecord) : Bool := r.callerState == .waiting || r.callerState == .sending

/-- The end of an own period (R135). -/
def RingRecord.endPeriod (r : RingRecord) : RingRecord :=
  if r.rang then
    let left := if r.burstsLeft = 255 then 255 else r.burstsLeft - 1
    { r with
      bursts := stopAt 65535 (r.bursts + 1)
      burstsLeft := left
      final := r.final || left == 0
      rang := false }
  else r

/-- The close of the ending step, whose index is given, for a started record (R135). -/
def RingRecord.closeStep (index : Nat) (r : RingRecord) : RingRecord :=
  if r.started then
    let aged := { r with ringAge := r.ringAge + 1, lastAge := r.lastAge.map (· + 1) }
    if r.ownStep index + 1 = r.period then aged.endPeriod else aged
  else r

/-- A record that has not started starts at the boundary whose new step index is given (R132). -/
def RingRecord.start (index : Nat) (r : RingRecord) : RingRecord :=
  if r.started then r else { r with started := true, phaseOrigin := index }

/-- The record's step is flagged in its mask (R130). -/
def RingRecord.flagged (r : RingRecord) (index : Nat) : Bool := r.mask.getLsbD (r.ownStep index)

/-- The record wants the step that begins (R130). -/
def RingRecord.wants (index : Nat) (r : RingRecord) : Bool :=
  r.started && r.flagged index && !r.final && !r.callerBusy

/-- The load a loop is charged (R136, R168). -/
def State.loadOf (s : State) (l : Loop) : Nat := (s.loop l).test.load.getD s.live.global.assumedLoad

/-- The last rung age of `a` is the older; none is older than any number (R137). -/
def olderRung (a b : Option Nat) : Bool :=
  match a, b with
  | none, some _ => true
  | some x, some y => decide (y < x)
  | _, none => false

/-- Loop A is the one granted when both want the step and the supply allows one (R137, tests 1 to 3). -/
def grantsA (a b : RingRecord) : Bool :=
  if olderRung a.lastAge b.lastAge then true
  else if olderRung b.lastAge a.lastAge then false
  else decide (b.ringAge ≤ a.ringAge)

/-- The grants of the supply at a boundary (R137): for loop A, for loop B. -/
def arbitrate (budget loadA loadB index : Nat) (a b : Option RingRecord) : Bool × Bool :=
  let wantA := a.any (·.wants index)
  let wantB := b.any (·.wants index)
  match a, b with
  | some x, some y =>
    if wantA && wantB && decide (budget < loadA + loadB) then (grantsA x y, !grantsA x y) else (wantA, wantB)
  | _, _ => (wantA, wantB)

/-- The outcome of the step that begins, for a record (R138). -/
def RingRecord.settleStep (index : Nat) (granted : Bool) (r : RingRecord) : RingRecord :=
  if r.wants index then
    if granted then { r with rung := stopAt 65535 (r.rung + 1), rang := true, lastAge := some 0 }
    else { r with deferred := stopAt 65535 (r.deferred + 1) }
  else if r.flagged index && !r.final && r.callerBusy then
    { r with suppressed := stopAt 65535 (r.suppressed + 1) }
  else r

/-- The caller progress of a record at a boundary (R139, step 1): the step closed was rung and the one that begins is
not. -/
def RingRecord.settleCaller (rungBefore rungNow : Bool) (waitEnd : Word) (r : RingRecord) : RingRecord :=
  if r.callerState == .awaitRunEnd && rungBefore && !rungNow then
    { r with callerState := .waiting, waitEnd := waitEnd }
  else r

/-- The step closed at this boundary was rung: its last rung age is now 1 (R135, R138). -/
def RingRecord.wasRung (r : RingRecord) : Bool := r.lastAge == some 1

/-- The ring is complete (R139, step 2). -/
def RingRecord.done (r : RingRecord) : Bool := r.final && !r.callerBusy

/-- A loop's record after the close of a step and the start of one that had not started. -/
def LoopState.turnStep (index : Nat) (x : LoopState) : LoopState :=
  { x with ring := x.ring.map fun r => (r.closeStep index).start ((index + 1) % 720720) }

/-- A loop's record settled for the step that begins (R138, R139 step 1), and its ring signal. -/
def LoopState.settle (index : Nat) (granted : Bool) (waitEnd : Word) (x : LoopState) : LoopState :=
  match x.ring with
  | none => x
  | some r =>
    { x with
      ring := some ((r.settleStep index granted).settleCaller r.wasRung granted waitEnd)
      ringSignal := granted }

/-- A complete ring ends in RING_DONE COMPLETED (R139, step 2). -/
def State.completeRing (s : State) (l : Loop) : State :=
  match (s.loop l).ring with
  | none => s
  | some r => if r.done then s.finishRing l r .completed else s

/-- A step boundary taken (R129, R135 to R139). Loop A is settled before loop B (log 23). -/
def State.takeBoundary (s : State) : State :=
  let index := (s.stepIndex + 1) % 720720
  let waitEnd := s.nextBoundary + msSpan s.live.global.callerDelay
  let t : State :=
    { s with
      stepIndex := index
      nextBoundary := s.nextBoundary + msSpan s.live.global.cadenceStep
      loops := ⟨s.loops.a.turnStep s.stepIndex, s.loops.b.turnStep s.stepIndex⟩ }
  let g := arbitrate s.live.global.ringBudget (s.loadOf .a) (s.loadOf .b) index t.loops.a.ring t.loops.b.ring
  let u : State :=
    { t with loops := ⟨t.loops.a.settle index g.1 waitEnd, t.loops.b.settle index g.2 waitEnd⟩ }
  (u.completeRing .a).completeRing .b

/-- STEP_BOUNDARY (R129, R137); before the next boundary it changes nothing (log 3). -/
def execStepBoundary (s : State) : Host.Outcome State Fault Refusal :=
  if reached s.timebase s.nextBoundary then .next s.takeBoundary else .next s

/-! ### Caller data (R142, R145) -/

/-- The transmission of a ring's caller data begins (R142 to R144), with a free start phase (log 12). Its first sample
is the one assembled at the next SAMPLE_TIME, the model's choice (log 32). -/
def State.beginTransmission (s : State) (l : Loop) (r : RingRecord) : State :=
  s.takeFree.2.modLoop l fun x =>
    { x with
      feed := .callerData
      ring := some { r with callerState := .sending }
      tx := some ⟨r.caller.lineMessage, 0, s.takeFree.1 % txTurn⟩ }

/-- CALLER_WAIT_END (R142); with no wait that has run out on an on-hook RINGING loop it changes nothing (log 3). -/
def execCallerWaitEnd (l : Loop) (s : State) : Host.Outcome State Fault Refusal :=
  let x := s.loop l
  match x.ring with
  | none => .next s
  | some r =>
    if r.callerState == .waiting && reached s.timebase r.waitEnd && x.feed == .ringing && x.hook == .onhook then
      .next (s.beginTransmission l r)
    else .next s

/-- The end of a transmission (R145): back to RINGING, or the ring complete when it is final. -/
def State.endTransmission (s : State) (l : Loop) (r : RingRecord) : State :=
  let sent := { r with callerState := .complete }
  if r.final then s.finishRing l sent .completed
  else s.modLoop l fun x => { x with feed := .ringing, ring := some sent, tx := none }

/-- CALLER_TRANSMISSION_END (R145); before the last sample has been sent it changes nothing (log 3). -/
def execCallerTransmissionEnd (l : Loop) (s : State) : Host.Outcome State Fault Refusal :=
  let x := s.loop l
  match x.ring, x.tx with
  | some r, some t =>
    if r.callerState == .sending && t.finished then .next (s.endTransmission l r) else .next s
  | _, _ => .next s

end Sys2Proof.Machine
end

