-- ==== Sys2Proof/Machine/LoopFeed.lean ====
section
/-! DEFINITION. LI and the tone-digit detector: POLARITY and DENY (R109 to R111), hook supervision (R112 to R117), rotary and tone digits (R118 to R124). -/

namespace Sys2Proof.Machine

/-! ### POLARITY, DENY and the end of a denial (R109 to R111) -/

/-- POLARITY at LI (R109). -/
def polarityBody (p : Port) (tag : Byte) (params : List Byte) (s : State) : State :=
  match params with
  | [loopByte, polarityByte] =>
    match Loop.ofByte loopByte, Polarity.ofByte polarityByte with
    | some l, some d =>
      if s.speaksFor l p then (s.modLoop l fun x => { x with polarity := d }).accept p tag []
      else s.refuse p tag .notHolder
    | _, _ => s.refuse p tag .badParam
  | _ => s.refuse p tag .badParam

/-- POLARITY (R109). -/
def execPolarityReq (p : Port) (tag : Byte) (params : List Byte) (s : State) : Host.Outcome State Fault Refusal :=
  .next (s.request p (polarityBody p tag params))

/-- DENY at LI (R110). -/
def denyBody (p : Port) (tag : Byte) (params : List Byte) (s : State) : State :=
  match params with
  | [loopByte, d1, d0] =>
    match Loop.ofByte loopByte with
    | none => s.refuse p tag .badParam
    | some l =>
      if !s.authority l p then s.refuse p tag .notHolder
      else
        match (s.loop l).feed with
        | .idle | .active =>
          let given := (half d1 d0).toNat
          let ms := clampNat 100 2000 given
          (s.deny l ms).acceptClamped p tag (ms != given) (nat16 ms)
        | _ => s.refuse p tag .busy
  | _ => s.refuse p tag .badParam

/-- DENY (R110). -/
def execDenyReq (p : Port) (tag : Byte) (params : List Byte) (s : State) : Host.Outcome State Fault Refusal :=
  .next (s.request p (denyBody p tag params))

/-- The loop at the end of a denial (R111): ACTIVE or IDLE by the held hook state, the raw state judged afresh and its
edge dated here. -/
def LoopState.denialEnded (now : Word) (threshold : Nat) (x : LoopState) : LoopState :=
  let fed : LoopState :=
    match x.hook with
    | .offhook => x.enterActive
    | _ => x.enterIdle
  { fed with raw := judgeRaw threshold x.current, rawEdge := now }

/-- DENY_END (R111); on a loop not DENIED, or before its deny end, it changes nothing (log 3). -/
def execDenyEnd (l : Loop) (s : State) : Host.Outcome State Fault Refusal :=
  if (s.loop l).feed == .denied && reached s.timebase (s.loop l).denyEnd then
    .next (s.modLoop l (·.denialEnded s.timebase (s.loopSet l).hookThreshold))
  else .next s

/-! ### The loop current (R112) -/

/-- LOOP_CURRENT_CHANGE (R112): the new current, judged unless the loop is DENIED. It is judged when the command is
taken, not first at the next sample time, by the model's choice (log 45). -/
def execLoopCurrentChange (l : Loop) (microamps : Int) (s : State) : Host.Outcome State Fault Refusal :=
  .next
    (s.modLoop l fun x =>
      ({ x with current := microamps } : LoopState).judge s.timebase (s.loopSet l).hookThreshold)

/-! ### Digits (R118, R123, R124) -/

/-- A digit appended to a dial buffer of at most 32 (R124). -/
def LoopState.dialDigit (digit : Byte) (x : LoopState) : LoopState :=
  if x.dial.length < 32 then { x with dial := x.dial ++ [digit] } else { x with dialOverflow := true }

/-- A digit stops the auto dial tone when the auto tone flag is set (R123). -/
def State.stopAutoTone (s : State) (l : Loop) : State :=
  if (s.loop l).autoTone then s.endTone l .digit s.timebase else s

/-- A DIGIT raised by a loop (R123 to R125): into the dial buffer when the loop has no lead, the auto dial tone
stopped, the notice routed. -/
def State.raiseDigit (s : State) (l : Loop) (digit : Byte) (method : DigitMethod) (count : Half) : State :=
  let t := if (s.leadOf l).isNone then s.modLoop l (·.dialDigit digit) else s
  (t.stopAutoTone l).raiseLoop l (.digit digit method count)

/-- The character of a rotary digit of 1 to 10 pulses (R118). -/
def pulseDigit (n : Nat) : Byte := byteOf (0x30 + n % 10)

/-- The end of a rotary digit (R118). -/
def State.endRotary (s : State) (l : Loop) : State :=
  let n := (s.loop l).pulses
  let t := s.modLoop l fun x => { x with pulses := 0 }
  if n ≤ 10 then t.raiseDigit l (pulseDigit n) .pulse (BitVec.ofNat 16 n)
  else (t.stopAutoTone l).raiseLoop l (.badDigit n)

/-- ROTARY_DIGIT_END (R118); with no digit being counted, or before the make has lasted, it changes nothing (log 3). -/
def execRotaryDigitEnd (l : Loop) (s : State) : Host.Outcome State Fault Refusal :=
  let x := s.loop l
  if x.pulses != 0 && x.hook == .offhook && persisted s.timebase x.makeStart (s.loopSet l).interdigitMin then
    .next (s.endRotary l)
  else .next s

/-! ### Seizure, ring trip, breaks (R113 to R116) -/

/-- The auto dial tone of a seizure (R115). An AUTO tone has no requester in the spec; the P0 is the model's choice (log
38). -/
def State.autoDialTone (s : State) (l : Loop) : State :=
  let set := s.loopSet l
  if (s.leadOf l).isNone && set.autoDialTone && !Program.isEmpty (s.live.programs.get set.dialProgram) then
    (s.startTone l .auto .p0 set.dialProgram).modLoop l fun x => { x with autoTone := true }
  else s

/-- A seizure (R114, R115): the feed ACTIVE, SEIZE raised, the auto dial tone started (log 17). -/
def State.seize (s : State) (l : Loop) : State :=
  ((s.modLoop l fun x => { x.enterActive with hook := .offhook, pulses := 0 }).raiseLoop l .seize).autoDialTone l

/-- An off-hook qualified on an on-hook loop (R114). In ACTIVE, where no loop is on-hook, only the hook state
changes. -/
def State.answerOffhook (s : State) (l : Loop) : State :=
  match (s.loop l).feed with
  | .idle => s.seize l
  | .ringing | .callerData => s.ringTrip l
  | .testing => (s.abortTest l .abortedOffhook).seize l
  | .active | .denied => s.modLoop l fun x => { x with hook := .offhook }

/-- A break that ends in a flash (R116): a digit in progress ends first. -/
def State.flash (s : State) (l : Loop) (length : Nat) : State :=
  let t := if (s.loop l).pulses ≠ 0 then s.endRotary l else s
  let f := msField (length / 8) t
  f.2.raiseLoop l (.flash f.1)

/-- A return qualified in a break (R116): a dial pulse, an ignored break, or a flash by its length. -/
def State.endBreak (s : State) (l : Loop) : State :=
  let x := s.loop l
  let set := s.loopSet l
  let length := elapsed x.rawEdge x.breakStart
  let back := s.modLoop l fun y => { y with hook := .offhook }
  if length ≤ set.pulseBreakMax * 8 then
    back.modLoop l fun y => { y with pulses := stopAt 255 (y.pulses + 1), makeStart := y.rawEdge }
  else if length < set.flashMin * 8 then back.modLoop l fun y => { y with makeStart := y.rawEdge }
  else back.flash l length

/-- HOOK_QUALIFIED (R113); with nothing to qualify it changes nothing (log 3). -/
def execHookQualified (l : Loop) (s : State) : Host.Outcome State Fault Refusal :=
  let x := s.loop l
  if x.feed == .denied || !persisted s.timebase x.rawEdge (s.loopSet l).hookQualify then .next s
  else
    match x.hook, x.raw with
    | .onhook, .off => .next (s.answerOffhook l)
    | .offhook, .on => .next (s.modLoop l fun y => { y with hook := .brk, breakStart := y.rawEdge })
    | .brk, .off => .next (s.endBreak l)
    | _, _ => .next s

/-! ### HANGUP (R117) -/

/-- The channels of a loop that are DRAINING, in ascending order. -/
def State.drainingOn (s : State) (l : Loop) : List Chan :=
  (s.attached l).filter fun c => (s.chan c).state == .draining

/-- A hang-up (R117, R18, R25; log 16): HANGUP routed first, then the loop IDLE with its dial buffer empty, the tone
ended, and the drains of its channels ended. -/
def State.hangUp (s : State) (l : Loop) : State :=
  let told := s.raiseLoop l .hangup
  let quiet := (told.modLoop l fun x => { x.enterIdle.emptyDial with hook := .onhook }).endTone l .hangup s.timebase
  (quiet.drainingOn l).foldl (fun t c => t.endDrain c .hangup) quiet

/-- HANGUP (R117); with no break that has reached hangup_min it changes nothing (log 3). -/
def execHangup (l : Loop) (s : State) : Host.Outcome State Fault Refusal :=
  let x := s.loop l
  if x.hook == .brk && persisted s.timebase x.breakStart (s.loopSet l).hangupMin then .next (s.hangUp l) else .next s

/-! ### Tone digits (R120 to R122) -/

/-- DTMF_KEY_CHANGE (R120, R121): the key on the line, judged at once in ACTIVE; outside it the detector does not judge
(R122), and the key stands for the next sample time in ACTIVE (log 36). -/
def execDtmfKeyChange (l : Loop) (m : Option KeyMeasure) (s : State) : Host.Outcome State Fault Refusal :=
  .next (s.modLoop l fun x => ({ x with keyPresent := judgeKey m } : LoopState).hearKey s.timebase)

/-- DTMF_ONSET_QUALIFIED (R121); with no onset that has lasted it changes nothing (log 3). -/
def execDtmfOnsetQualified (l : Loop) (s : State) : Host.Outcome State Fault Refusal :=
  match (s.loop l).dtmf with
  | .onset k t =>
    if (s.loop l).feed == .active && persisted s.timebase t (s.loopSet l).toneOnMin then
      .next (s.modLoop l fun x => { x with dtmf := .held k t })
    else .next s
  | _ => .next s

/-- The end of a tone digit (R121): DIGIT with its duration, then QUIET or the onset of another key. -/
def State.endToneDigit (s : State) (l : Loop) (k : Byte) (onset gap : Word) : State :=
  let f := msField (elapsed gap onset / 8) s
  (f.2.raiseDigit l k .tone f.1).modLoop l fun x => { x with dtmf := Dtmf.hear s.timebase x.keyPresent .quiet }

/-- DTMF_DIGIT_END (R121); with no gap that has lasted it changes nothing (log 3). -/
def execDtmfDigitEnd (l : Loop) (s : State) : Host.Outcome State Fault Refusal :=
  match (s.loop l).dtmf with
  | .release k t g =>
    if (s.loop l).feed == .active && persisted s.timebase g (s.loopSet l).toneOffMin then
      .next (s.endToneDigit l k t g)
    else .next s
  | _ => .next s

end Sys2Proof.Machine
end

