-- ==== Sys2Proof/Machine/Audio.lean ====
section
/-! DEFINITION. LAM: GAIN (R152), TONE, TONE_STOP, TONE_DEFINE (R154 to R159), the completion of a program (R158), and the sample time (R150, R151, R153). -/

namespace Sys2Proof.Machine

/-! ### GAIN (R152) -/

/-- The live settings of a loop changed. -/
def State.modLoopSet (s : State) (l : Loop) (f : LoopSettings → LoopSettings) : State :=
  { s with live := { s.live with loop := s.live.loop.put l (f (s.live.loop.get l)) } }

/-- GAIN at LAM (R152). Both values are read as unsigned, which the model deduces (log 39). -/
def gainBody (p : Port) (tag : Byte) (params : List Byte) (s : State) : State :=
  match params with
  | [loopByte, r1, r0, t1, t0] =>
    match Loop.ofByte loopByte with
    | none => s.refuse p tag .badParam
    | some l =>
      if !s.authority l p then s.refuse p tag .notHolder
      else
        let rx := clampNat 0 1024 (half r1 r0).toNat
        let tx := clampNat 0 1024 (half t1 t0).toNat
        (s.modLoopSet l fun x => { x with rxGain := rx, txGain := tx }).acceptClamped p tag
          (rx != (half r1 r0).toNat || tx != (half t1 t0).toNat) (nat16 rx ++ nat16 tx)
  | _ => s.refuse p tag .badParam

/-- GAIN (R152). -/
def execGainReq (p : Port) (tag : Byte) (params : List Byte) (s : State) : Host.Outcome State Fault Refusal :=
  .next (s.request p (gainBody p tag params))

/-! ### TONE, TONE_STOP (R157, R159) -/

/-- The program a TONE asks for: its number names a program that is not empty (R157, step 3). -/
def State.playable (s : State) (n : Nat) : Option (Fin 8) :=
  (programOf n).filter fun k => !Program.isEmpty (s.live.programs.get k)

/-- TONE at LAM (R157): the reply comes before the TONE_DONE of a tone it replaces. -/
def toneBody (p : Port) (tag : Byte) (params : List Byte) (s : State) : State :=
  match params with
  | [loopByte, programByte] =>
    match Loop.ofByte loopByte with
    | none => s.refuse p tag .badParam
    | some l =>
      if !s.authority l p then s.refuse p tag .notHolder
      else
        match s.playable programByte.toNat with
        | none => s.refuse p tag .badParam
        | some n => (s.accept p tag []).startTone l .requested p n
  | _ => s.refuse p tag .badParam

/-- TONE (R157). -/
def execToneReq (p : Port) (tag : Byte) (params : List Byte) (s : State) : Host.Outcome State Fault Refusal :=
  .next (s.request p (toneBody p tag params))

/-- TONE_STOP at LAM (R159). -/
def toneStopBody (p : Port) (tag : Byte) (params : List Byte) (s : State) : State :=
  match params with
  | [loopByte] =>
    match Loop.ofByte loopByte with
    | none => s.refuse p tag .badParam
    | some l =>
      if !s.authority l p then s.refuse p tag .notHolder
      else if (s.loop l).player.isNone then s.refuse p tag .wrongState
      else (s.accept p tag []).endTone l .stopped s.timebase
  | _ => s.refuse p tag .badParam

/-- TONE_STOP (R159). -/
def execToneStopReq (p : Port) (tag : Byte) (params : List Byte) (s : State) : Host.Outcome State Fault Refusal :=
  .next (s.request p (toneStopBody p tag params))

/-! ### TONE_DEFINE (R154) -/

/-- Frequencies of at most 3999 Hz, and a hold on the last segment alone (R154, step 2). -/
def segmentsOk : List Segment → Bool
  | [] => true
  | [g] => decide (g.f1 ≤ 3999) && decide (g.f2 ≤ 3999)
  | g :: rest => decide (g.f1 ≤ 3999) && decide (g.f2 ≤ 3999) && g.duration != 0 && segmentsOk rest

/-- A segment with its level and duration within their ranges (R154, step 4). -/
def Segment.stored (g : Segment) : Segment :=
  { g with
    level := min g.level 45
    duration := if g.duration = 0 then 0 else (clampNat 10 10000 g.duration + 5) / 10 * 10 }

/-- A tone of the program number is PLAYING on either loop (R154, step 3). -/
def State.programPlays (s : State) (n : Fin 8) : Bool :=
  Loop.all.any fun l => ((s.loop l).player.map (·.number)) == some n

/-- The live tone table with one program replaced. -/
def State.putProgram (s : State) (n : Fin 8) (g : Program) : State :=
  { s with live := { s.live with programs := s.live.programs.set n.val g n.isLt } }

/-- TONE_DEFINE at LAM (R154); a program without segments keeps the repeat count given (log 26). -/
def toneDefineBody (p : Port) (tag : Byte) (params : List Byte) (s : State) : State :=
  match params with
  | number :: count :: repeats :: rest =>
    match programOf number.toNat, parseSegments count.toNat rest with
    | some n, some segments =>
      if 4 < segments.length ∨ !segmentsOk segments then s.refuse p tag .badParam
      else if s.programPlays n then s.refuse p tag .busy
      else
        let g : Program := ⟨segments.map Segment.stored, repeats.toNat⟩
        (s.putProgram n g).acceptClamped p tag (g.segments != segments) (programBytes n g)
    | _, _ => s.refuse p tag .badParam
  | _ => s.refuse p tag .badParam

/-- TONE_DEFINE (R154). -/
def execToneDefineReq (p : Port) (tag : Byte) (params : List Byte) (s : State) : Host.Outcome State Fault Refusal :=
  .next (s.request p (toneDefineBody p tag params))

/-! ### The completion of a program (R153, R158) -/

/-- TONE_COMPLETE (R158): the tone whose last sample has been played ends COMPLETED at the sample time that follows
that sample (log 22); otherwise nothing changes (log 3). -/
def execToneComplete (l : Loop) (s : State) : Host.Outcome State Fault Refusal :=
  match (s.loop l).player.bind (·.complete) with
  | none => .next s
  | some moment => .next (s.endTone l .completed moment)

/-! ### The sample time (R150, R151, R153, R144) -/

/-- A channel's output for a sample time: its current block's sample, or 0 before its first tick (R50, R150). -/
def Channel.output (ch : Channel) : Sample :=
  match ch.pe.current with
  | none => 0
  | some b => b.samples.getD b.pos 0

/-- A channel after LAM has taken its sample: a tick is due after the last one, and after the first one of a channel
just opened (R50). -/
def Channel.sampleTaken (ch : Channel) : Channel :=
  if ch.state = .idle then ch
  else
    match ch.pe.current with
    | none => { ch with pe := { ch.pe with tickDue := true } }
    | some b =>
      { ch with
        pe :=
          { ch.pe with
            current := some { b with pos := min (b.pos + 1) b.samples.length }
            tickDue := ch.pe.tickDue || decide (b.samples.length ≤ b.pos + 1) } }

/-- The outputs of a loop's attached channels at this sample time (R150, step 1). -/
def State.outputs (s : State) (l : Loop) : PerChan (Option ChanOut) :=
  let out (c : Chan) : Option ChanOut := if (s.chan c).attachedTo l then some ⟨(s.chan c).output, none⟩ else none
  ⟨out .c0, out .c1, out .c2, out .c3⟩

/-- The sum of the outputs of a loop's VOICED channels, saturated (R150, step 2). -/
def State.downlinkSum (s : State) (l : Loop) : Sample :=
  saturate
    ((Chan.all.map fun c =>
      if (s.chan c).attachedTo l ∧ (s.chan c).voice = .voiced then (s.chan c).output.toInt else 0).sum)

/-- The loop value: the tone sample while a program plays, otherwise the channels' sum (R150, step 2). -/
def State.loopValue (s : State) (l : Loop) : Sample :=
  ((s.loop l).player.bind Tone.sample?).getD (s.downlinkSum l)

/-- The sample of a caller transmission in progress (R144). -/
def LoopState.callerSample (x : LoopState) : Option Sample :=
  match x.tx with
  | some t => if x.feed = .callerData ∧ t.finished = false then some (txSample t.phase) else none
  | none => none

/-- The sample handed to the codec (R150, step 3, R144). -/
def State.codecSample (s : State) (l : Loop) : Sample :=
  ((s.loop l).callerSample).getD (applyGain (s.loopValue l) (s.loopSet l).rxGain)

/-- What LAM keeps of a sample time for the uplink (R151). -/
def State.mixSample (s : State) (l : Loop) (line : Sample) : MixSample :=
  ⟨applyGain line (s.loopSet l).txGain, s.outputs l⟩

/-- The loop block in progress with one more sample time (R80): the 80th closes it. -/
def LoopState.putMix (now : Word) (m : MixSample) (x : LoopState) : LoopState :=
  let start := if x.block.isEmpty then now else x.blockStart
  if 80 ≤ x.block.length + 1 then
    { x with blockStart := start, block := [], closed := some ⟨start, now + 1, x.block ++ [m]⟩ }
  else { x with blockStart := start, block := x.block ++ [m] }

/-- The player and the transmitter past the sample of this sample time (R153, R144). -/
def LoopState.advance (now : Word) (x : LoopState) : LoopState :=
  { x with
    player := x.player.map (Tone.advance now)
    tx := x.tx.map fun t => if t.finished then t else t.advance }

/-- A loop after a sample time (R112, R120, R150, R151): the codec's sample, the uplink samples, the raw state and the
key on the line judged. -/
def LoopState.sampled (now : Word) (codec : Sample) (m : MixSample) (threshold : Nat) (x : LoopState) : LoopState :=
  (({ x with codec := codec } : LoopState).advance now |>.putMix now m).judge now threshold |>.hearKey now

/-- One sample time (R150, R151): everything is assembled from the state before it, on both loops. -/
def State.sample (s : State) (lineA lineB : Sample) : State :=
  let now := s.nextSample
  { s with
    timebase := now
    sampleDue := false
    chans :=
      ⟨s.chans.c0.sampleTaken, s.chans.c1.sampleTaken, s.chans.c2.sampleTaken, s.chans.c3.sampleTaken⟩
    loops :=
      ⟨s.loops.a.sampled now (s.codecSample .a) (s.mixSample .a lineA) (s.loopSet .a).hookThreshold,
        s.loops.b.sampled now (s.codecSample .b) (s.mixSample .b lineB) (s.loopSet .b).hookThreshold⟩ }

/-- SAMPLE_TIME (R150, R151). -/
def execSampleTime (lineA lineB : Sample) (s : State) : Host.Outcome State Fault Refusal :=
  .next (s.sample lineA lineB)

end Sys2Proof.Machine
end

