-- ==== Sys2Proof/Machine/Settings.lean ====
section
/-! DEFINITION. SS: SET and GET (R186 to R188, R34), INQUIRE (R189), the profile requests and the end of a save (R190 to R193), RESTART (R194). -/

namespace Sys2Proof.Machine

/-! ### The keys (R185 to R187) -/

/-- The nearest multiple of a unit, halves upward (R129). -/
def nearestMultiple (unit v : Nat) : Nat := (2 * v + unit) / (2 * unit) * unit

/-- The nearest permitted hook threshold, halves upward (R112). -/
def nearestThreshold (v : Nat) : Nat := if v < 9 then 8 else if v < 11 then 10 else if v < 14 then 12 else 15

/-- A global setting's value. -/
def GlobalKey.read (k : GlobalKey) (g : GlobalSettings) : Nat :=
  match k with
  | .cadenceStep => g.cadenceStep
  | .ringBudget => g.ringBudget
  | .assumedLoad => g.assumedLoad
  | .callerDelay => g.callerDelay
  | .testGate => g.testGate
  | .silenceLevel => g.silenceLevel
  | .toneDataMin => g.toneDataMin

/-- A value stored under a global key (R185, R186 step 4). -/
def GlobalKey.write (k : GlobalKey) (v : Nat) (g : GlobalSettings) : GlobalSettings :=
  match k with
  | .cadenceStep => { g with cadenceStep := nearestMultiple 50 (clampNat 50 1000 v) }
  | .ringBudget => { g with ringBudget := clampNat 10 99 v }
  | .assumedLoad => { g with assumedLoad := clampNat 0 99 v }
  | .callerDelay => { g with callerDelay := clampNat 200 1000 v }
  | .testGate => { g with testGate := clampNat 4096 65535 v }
  | .silenceLevel => { g with silenceLevel := clampNat 0 32767 v }
  | .toneDataMin => { g with toneDataMin := clampNat 200 1000 v }

/-- An offer set as a number: bit k for port Pk (R200). -/
def offerBits (x : PerPort Bool) : Nat := flagNat x.p0 + 2 * flagNat x.p1 + 4 * flagNat x.p2

/-- The offer set a number names; one that names another port is none (R186). -/
def offerOf (v : Nat) : Option (PerPort Bool) :=
  if v < 8 then some ⟨v % 2 == 1, v / 2 % 2 == 1, v / 4 % 2 == 1⟩ else none

/-- The park-lost program a number names: 255 is none, 0..7 a program, anything else nothing (R186, R200). -/
def parkLostOf (v : Nat) : Option (Option (Fin 8)) := if v = 255 then some none else (programOf v).map some

/-- A per-loop setting's value. -/
def LoopKey.read (k : LoopKey) (x : LoopSettings) : Nat :=
  match k with
  | .hookThreshold => x.hookThreshold
  | .hookQualify => x.hookQualify
  | .pulseBreakMax => x.pulseBreakMax
  | .flashMin => x.flashMin
  | .hangupMin => x.hangupMin
  | .interdigitMin => x.interdigitMin
  | .toneOnMin => x.toneOnMin
  | .toneOffMin => x.toneOffMin
  | .autoDialTone => flagNat x.autoDialTone
  | .dialProgram => x.dialProgram.val
  | .offerSet => offerBits x.offerSet
  | .rxGain => x.rxGain
  | .txGain => x.txGain
  | .denyOnLoss => flagNat x.denyOnLoss
  | .denyTime => x.denyTime
  | .parkLostProgram => (x.parkLostProgram.map (·.val)).getD 255

/-- The order of the loop timings (R119, R187). -/
def LoopSettings.ordered (x : LoopSettings) : Bool :=
  decide (x.pulseBreakMax < x.flashMin) && decide (x.flashMin < x.hangupMin)

/-- Settings that keep the timing order, or none (R187). -/
def keepOrder (x : LoopSettings) : Option LoopSettings := if LoopSettings.ordered x then some x else none

/-- A value stored under a per-loop key, or none when it is refused (R186, R187). -/
def LoopKey.write (k : LoopKey) (v : Nat) (x : LoopSettings) : Option LoopSettings :=
  match k with
  | .hookThreshold => some { x with hookThreshold := nearestThreshold v }
  | .hookQualify => some { x with hookQualify := clampNat 10 100 v }
  | .pulseBreakMax => keepOrder { x with pulseBreakMax := clampNat 20 150 v }
  | .flashMin => keepOrder { x with flashMin := clampNat 100 800 v }
  | .hangupMin => keepOrder { x with hangupMin := clampNat 300 2000 v }
  | .interdigitMin => some { x with interdigitMin := clampNat 100 1000 v }
  | .toneOnMin => some { x with toneOnMin := clampNat 20 200 v }
  | .toneOffMin => some { x with toneOffMin := clampNat 20 200 v }
  | .autoDialTone => (onOff v).map fun b => { x with autoDialTone := b }
  | .dialProgram => (programOf v).map fun n => { x with dialProgram := n }
  | .offerSet => (offerOf v).map fun o => { x with offerSet := o }
  | .rxGain => some { x with rxGain := clampNat 0 1024 v }
  | .txGain => some { x with txGain := clampNat 0 1024 v }
  | .denyOnLoss => (onOff v).map fun b => { x with denyOnLoss := b }
  | .denyTime => some { x with denyTime := clampNat 100 2000 v }
  | .parkLostProgram => (parkLostOf v).map fun n => { x with parkLostProgram := n }

/-- A per-port setting's value. -/
def PortKey.read (k : PortKey) (x : PortSettings) : Nat :=
  match k with
  | .silenceTime => x.silenceTime
  | .noticeMask => x.noticeMask.toNat

/-- A value stored under a per-port key; a mask that names a kind that is not maskable is refused (R186, R200). -/
def PortKey.write (k : PortKey) (v : Nat) (x : PortSettings) : Option PortSettings :=
  match k with
  | .silenceTime => some { x with silenceTime := clampNat 20 2000 v }
  | .noticeMask =>
    if v < 0x4000 ∧ v % 2 = 0 then some { x with noticeMask := BitVec.ofNat 32 v } else none

/-- The live value of a key (R188). -/
def SettingKey.read (k : SettingKey) (g : Profile) : Nat :=
  match k with
  | .global k => k.read g.global
  | .reserve c => g.global.reserve.get c
  | .loop k l => k.read (g.loop.get l)
  | .port k p => k.read (g.port.get p)
  | .template k => k.read g.template

/-- A reserve stored, its value clamped and the sum of the four at most 256 (R34, steps 2 and 3). -/
def writeReserve (c : Chan) (v : Nat) (g : Profile) : Option Profile :=
  let reserve := g.global.reserve.put c (clampNat 0 128 v)
  if reserve.total ≤ 256 then some { g with global := { g.global with reserve := reserve } } else none

/-- The live settings with a value stored under a key, or none when it is refused BAD_PARAM (R186). -/
def SettingKey.write (k : SettingKey) (v : Nat) (g : Profile) : Option Profile :=
  match k with
  | .global k => some { g with global := k.write v g.global }
  | .reserve c => writeReserve c v g
  | .loop k l => (k.write v (g.loop.get l)).map fun x => { g with loop := g.loop.put l x }
  | .port k p => (k.write v (g.port.get p)).map fun x => { g with port := g.port.put p x }
  | .template k => (k.write v g.template).map fun x => { g with template := x }

/-! ### SET and GET (R186, R188, R34) -/

/-- The key is a reserve (R186, step 3). -/
def SettingKey.isReserve : SettingKey → Bool
  | .reserve _ => true
  | _ => false

/-- A SET whose value is accepted (R186, R34): the live settings changed, and the pool split again under a changed
reserve. -/
def State.storeSetting (s : State) (p : Port) (tag : Byte) (k : SettingKey) (v : Nat) (g : Profile) : State :=
  let t : State := { s with live := g, pool := if k.isReserve then s.pool.split g.global.reserve else s.pool }
  t.acceptClamped p tag (k.read g != v) (bytes32 (BitVec.ofNat 32 (k.read g)))

/-- SET at SS (R186). -/
def setBody (p : Port) (tag : Byte) (params : List Byte) (s : State) : State :=
  match params with
  | [key, index, v3, v2, v1, v0] =>
    match SettingKey.ofBytes key index with
    | none => s.refuse p tag .badParam
    | some k =>
      let v := (word v3 v2 v1 v0).toNat
      if k.isReserve && !s.allIdle then s.refuse p tag .wrongState
      else
        match k.write v s.live with
        | none => s.refuse p tag .badParam
        | some g => s.storeSetting p tag k v g
  | _ => s.refuse p tag .badParam

/-- SET (R186). -/
def execSetReq (p : Port) (tag : Byte) (params : List Byte) (s : State) : Host.Outcome State Fault Refusal :=
  .next (s.request p (setBody p tag params))

/-- GET at SS (R188). -/
def getBody (p : Port) (tag : Byte) (params : List Byte) (s : State) : State :=
  match params with
  | [key, index] =>
    match SettingKey.ofBytes key index with
    | none => s.refuse p tag .badParam
    | some k => s.accept p tag (bytes32 (BitVec.ofNat 32 (k.read s.live)))
  | _ => s.refuse p tag .badParam

/-- GET (R188). -/
def execGetReq (p : Port) (tag : Byte) (params : List Byte) (s : State) : Host.Outcome State Fault Refusal :=
  .next (s.request p (getBody p tag params))

/-! ### Slots -/

/-- The slots 1 to 3 of the store; a number that names none of them is never stored. -/
def Store.slot (x : Store) (n : Nat) : Slot :=
  match n with
  | 1 => x.slot1
  | 2 => x.slot2
  | 3 => x.slot3
  | _ => .valid factoryProfile

/-- A slot 1 to 3 replaced; slot 0 never changes (R190). -/
def Store.putSlot (x : Store) (n : Nat) (v : Slot) : Store :=
  match n with
  | 1 => { x with slot1 := v }
  | 2 => { x with slot2 := v }
  | 3 => { x with slot3 := v }
  | _ => x

/-- The profile a VALID slot holds (12.2). -/
def Store.profile (x : Store) (n : Nat) : Option Profile :=
  match x.slot n with
  | .valid g => some g
  | _ => none

/-! ### INQUIRE (R189) -/

/-- A loop's part of the INQUIRE reply (R200). -/
def State.inquireLoop (s : State) (l : Loop) : List Byte :=
  [(s.loop l).feed.byte, (s.loop l).hook.byte, flagByte (s.leadOf l).isSome]

/-- A channel's part of the INQUIRE reply (R189, R200). -/
def Channel.inquire (now : Word) (ch : Channel) : List Byte :=
  let idle := ch.state == .idle
  let parked := ch.state == .parked
  [ch.state.byte, portOrNoneByte ch.holderOf, if idle then 0xFF else Loop.byte ch.loop,
    if idle then 0 else flagByte ch.lead, if idle then 0 else ch.mode.byte,
    if parked then Port.byte ch.oldHolder else 0xFF, if parked then ch.parkCause.byte else 0xFF]
    ++ nat16 (if parked then msLeft now ch.parkDeadline else 0)

/-- A port's part of the INQUIRE reply (R182, R200). -/
def PortState.inquire (x : PortState) : List Byte :=
  [flagByte x.up] ++ bytes32 x.badFrames ++ bytes32 x.requestOverrun ++ bytes32 x.notHolderMedia
    ++ bytes32 x.noticesDropped

/-- The 108 bytes of the INQUIRE reply (R189, R200). -/
def State.inquiry (s : State) : List Byte :=
  [0x24, 0x18, 1, 2, 4, 3] ++ nat16 256 ++ [8, 4]
    ++ Loop.all.flatMap s.inquireLoop
    ++ Chan.all.flatMap (fun c => (s.chan c).inquire s.timebase)
    ++ Port.all.flatMap (fun p => (s.port p).inquire)
    ++ [byteOf s.store.start.val]
    ++ [(s.store.slot 0).byte, (s.store.slot 1).byte, (s.store.slot 2).byte, (s.store.slot 3).byte]

/-- INQUIRE at SS (R189). -/
def inquireBody (p : Port) (tag : Byte) (params : List Byte) (s : State) : State :=
  match params with
  | [] => s.accept p tag s.inquiry
  | _ => s.refuse p tag .badParam

/-- INQUIRE (R189). -/
def execInquireReq (p : Port) (tag : Byte) (params : List Byte) (s : State) : Host.Outcome State Fault Refusal :=
  .next (s.request p (inquireBody p tag params))

/-! ### Profiles (R190 to R193) -/

/-- An accepted PROFILE_SAVE (R190): the snapshot taken, the slot WRITING. -/
def State.beginSave (s : State) (p : Port) (n : Nat) : State :=
  { s with store := { s.store.putSlot n .writing with save := some ⟨n, s.live, p, s.timebase⟩ } }

/-- PROFILE_SAVE at SS (R190). -/
def profileSaveBody (p : Port) (tag : Byte) (params : List Byte) (s : State) : State :=
  match params with
  | [slotByte] =>
    let n := slotByte.toNat
    if n < 1 ∨ 3 < n then s.refuse p tag .badParam
    else if s.store.save.isSome then s.refuse p tag .busy
    else (s.beginSave p n).accept p tag []
  | _ => s.refuse p tag .badParam

/-- PROFILE_SAVE (R190). -/
def execProfileSaveReq (p : Port) (tag : Byte) (params : List Byte) (s : State) : Host.Outcome State Fault Refusal :=
  .next (s.request p (profileSaveBody p tag params))

/-- The completion of a save (R190): the slot holds the snapshot, SAVE_DONE is raised. -/
def State.endSave (s : State) (v : Save) : State :=
  ({ s with store := { s.store.putSlot v.slot (.valid v.snapshot) with save := none } }).offer v.requester
    ⟨.saveDone v.slot, none, none, s.timebase⟩

/-- SAVE_COMPLETE (R190): at 1 to 480 sample times after the acceptance (log 20); otherwise nothing changes
(log 3). -/
def execSaveComplete (s : State) : Host.Outcome State Fault Refusal :=
  match s.store.save with
  | none => .next s
  | some v =>
    let n := elapsed s.timebase v.accepted
    if 1 ≤ n ∧ n ≤ 480 then .next (s.endSave v) else .next s

/-- An accepted PROFILE_LOAD (R192, R35). -/
def State.loadProfile (s : State) (g : Profile) : State :=
  { s with live := g, pool := s.pool.split g.global.reserve }

/-- PROFILE_LOAD at SS (R192). -/
def profileLoadBody (p : Port) (tag : Byte) (params : List Byte) (s : State) : State :=
  match params with
  | [slotByte] =>
    match slotOf slotByte with
    | none => s.refuse p tag .badParam
    | some n =>
      if s.store.save.isSome then s.refuse p tag .busy
      else if !s.allIdle then s.refuse p tag .wrongState
      else
        match s.store.profile n.val with
        | none => s.refuse p tag .wrongState
        | some g => (s.loadProfile g).accept p tag []
  | _ => s.refuse p tag .badParam

/-- PROFILE_LOAD (R192). -/
def execProfileLoadReq (p : Port) (tag : Byte) (params : List Byte) (s : State) : Host.Outcome State Fault Refusal :=
  .next (s.request p (profileLoadBody p tag params))

/-- PROFILE_START at SS (R193). -/
def profileStartBody (p : Port) (tag : Byte) (params : List Byte) (s : State) : State :=
  match params with
  | [slotByte] =>
    match slotOf slotByte with
    | none => s.refuse p tag .badParam
    | some n => ({ s with store := { s.store with start := n } }).accept p tag []
  | _ => s.refuse p tag .badParam

/-- PROFILE_START (R193). -/
def execProfileStartReq (p : Port) (tag : Byte) (params : List Byte) (s : State) : Host.Outcome State Fault Refusal :=
  .next (s.request p (profileStartBody p tag params))

/-! ### RESTART (R194) -/

/-- A channel stands in the way of a port's RESTART (R194): PARKED, or in RUN or DRAINING with another holder. -/
def Channel.blocksRestart (p : Port) (ch : Channel) : Bool :=
  match ch.state with
  | .idle => false
  | .parked => true
  | _ => ch.holder != some p

/-- RESTART at SS (R194). -/
def restartBody (p : Port) (tag : Byte) (params : List Byte) (s : State) : State :=
  match params with
  | [] =>
    if s.restart ≠ .none ∨ Chan.all.any (fun c => (s.chan c).blocksRestart p) then s.refuse p tag .busy
    else { s.answer p ⟨tag, .ok, [], true⟩ with restart := .pending p }
  | _ => s.refuse p tag .badParam

/-- RESTART (R194). -/
def execRestartReq (p : Port) (tag : Byte) (params : List Byte) (s : State) : Host.Outcome State Fault Refusal :=
  .next (s.request p (restartBody p tag params))

end Sys2Proof.Machine
end

