-- ==== Sys2Proof/Machine/Reset.lean ====
section
/-! DEFINITION. The three resets (R193 to R195, and the rule of each block for its state after a reset). -/

namespace Sys2Proof.Machine

/-- The store after a reset of any kind (R191): a write in progress is abandoned and its slot INVALID. -/
def Store.abandonSave (x : Store) : Store :=
  match x.save with
  | none => x
  | some v => { x.putSlot v.slot .invalid with save := none }

/-- The channels after a reset: cleared, with the settings undefined (R1, log 7). -/
def chansAfterReset (k : Nat) : PerChan Channel :=
  ⟨.afterReset (freeSettings k), .afterReset (freeSettings (k + 15)), .afterReset (freeSettings (k + 30)),
    .afterReset (freeSettings (k + 45))⟩

/-- A loop after a reset that sets the Timebase to 0: the loop current and the codec stand, a block begins, the load
is NONE (R80, R127, R162). -/
def LoopState.coldStart (g : Profile) (l : Loop) (x : LoopState) : LoopState :=
  .afterReset 0 (g.loop.get l).hookThreshold x.current x.keyPresent 0 [] x.codec none

/-- A loop after RESTART: the block in progress runs on, the load stands (R80, R162). -/
def LoopState.warmStart (now : Word) (g : Profile) (l : Loop) (x : LoopState) : LoopState :=
  .afterReset now (g.loop.get l).hookThreshold x.current x.keyPresent x.blockStart x.block x.codec x.test.load

/-- The part after power-on or the reset line with a profile loaded (R193, steps 1, 3 and 4). -/
def State.startWith (s : State) (cause : StartCause) (store : Store) (g : Profile) (slot : Nat) (fallback : Bool) :
    State :=
  let port := PortState.afterReset (startNotice 0 cause (some slot) fallback)
  { timebase := 0
    sampleDue := true
    chans := chansAfterReset s.freeCount
    pool := .allFree g.global.reserve
    loops := ⟨s.loops.a.coldStart g .a, s.loops.b.coldStart g .b⟩
    ports := ⟨port, port, port⟩
    stepIndex := 0
    nextBoundary := msSpan g.global.cadenceStep
    live := g
    store := store
    restart := .none
    freeCount := s.freeCount + 60
    pending := s.pending }

/-- Power-on and the reset line (R193, step 2): the start slot's profile, or slot 0's with the fallback flag. -/
def State.startUp (s : State) (cause : StartCause) : State :=
  let store := s.store.abandonSave
  match store.profile store.start.val with
  | some g => s.startWith cause store g store.start.val false
  | none => s.startWith cause store factoryProfile 0 true

/-- POWER_ON (R193). -/
def execPowerOn (s : State) : Host.Outcome State Fault Refusal := .next (s.startUp .power)

/-- RESET_LINE (R193). -/
def execResetLine (s : State) : Host.Outcome State Fault Refusal := .next (s.startUp .line)

/-- The restart (R194): a reset that keeps the Timebase, the live settings and the measured loads. -/
def State.restarted (s : State) : State :=
  let port := PortState.afterReset (startNotice s.timebase .restart none false)
  { s with
    chans := chansAfterReset s.freeCount
    pool := .allFree s.live.global.reserve
    loops := ⟨s.loops.a.warmStart s.timebase s.live .a, s.loops.b.warmStart s.timebase s.live .b⟩
    ports := ⟨port, port, port⟩
    stepIndex := 0
    nextBoundary := s.timebase + msSpan s.live.global.cadenceStep
    store := s.store.abandonSave
    restart := .none
    freeCount := s.freeCount + 60 }

/-- RESTART_TAKEN (R194): when the reply's transfer has completed (log 28); otherwise nothing changes (log 3). -/
def execRestartTaken (s : State) : Host.Outcome State Fault Refusal :=
  if s.restart = .due then .next s.restarted else .next s

end Sys2Proof.Machine
end

