-- ==== Sys2Proof/Machine/Dispatch.lean ====
section
/-! DEFINITION. The meaning of every command, arm by arm. -/

namespace Sys2Proof.Machine

/-- The effect of a command on everything but the queue. -/
def exec (i : Instr) (s : State) : Host.Outcome State Fault Refusal :=
  match i with
  | .openReq p tag params => Sys2Proof.Machine.execOpenReq p tag params s
  | .claimReq p tag params => Sys2Proof.Machine.execClaimReq p tag params s
  | .handoffReq p tag params => Sys2Proof.Machine.execHandoffReq p tag params s
  | .closeReq p tag params => Sys2Proof.Machine.execCloseReq p tag params s
  | .connectReq p tag params => Sys2Proof.Machine.execConnectReq p tag params s
  | .setFallbackReq p tag params => Sys2Proof.Machine.execSetFallbackReq p tag params s
  | .channelSetReq p tag params => Sys2Proof.Machine.execChannelSetReq p tag params s
  | .statsReq p tag params => Sys2Proof.Machine.execStatsReq p tag params s
  | .modeReq p tag params => Sys2Proof.Machine.execModeReq p tag params s
  | .polarityReq p tag params => Sys2Proof.Machine.execPolarityReq p tag params s
  | .denyReq p tag params => Sys2Proof.Machine.execDenyReq p tag params s
  | .toneReq p tag params => Sys2Proof.Machine.execToneReq p tag params s
  | .toneStopReq p tag params => Sys2Proof.Machine.execToneStopReq p tag params s
  | .toneDefineReq p tag params => Sys2Proof.Machine.execToneDefineReq p tag params s
  | .gainReq p tag params => Sys2Proof.Machine.execGainReq p tag params s
  | .ringReq p tag params => Sys2Proof.Machine.execRingReq p tag params s
  | .ringStopReq p tag params => Sys2Proof.Machine.execRingStopReq p tag params s
  | .testReq p tag params => Sys2Proof.Machine.execTestReq p tag params s
  | .setReq p tag params => Sys2Proof.Machine.execSetReq p tag params s
  | .getReq p tag params => Sys2Proof.Machine.execGetReq p tag params s
  | .inquireReq p tag params => Sys2Proof.Machine.execInquireReq p tag params s
  | .profileSaveReq p tag params => Sys2Proof.Machine.execProfileSaveReq p tag params s
  | .profileLoadReq p tag params => Sys2Proof.Machine.execProfileLoadReq p tag params s
  | .profileStartReq p tag params => Sys2Proof.Machine.execProfileStartReq p tag params s
  | .restartReq p tag params => Sys2Proof.Machine.execRestartReq p tag params s
  | .unknownRequestCode p tag code params => Sys2Proof.Machine.execUnknownRequestCode p tag code params s
  | .mediaIn p body => Sys2Proof.Machine.execMediaIn p body s
  | .keep p body => Sys2Proof.Machine.execKeep p body s
  | .badFrame p bytes => Sys2Proof.Machine.execBadFrame p bytes s
  | .powerOn => Sys2Proof.Machine.execPowerOn s
  | .resetLine => Sys2Proof.Machine.execResetLine s
  | .restartTaken => Sys2Proof.Machine.execRestartTaken s
  | .silenceTimerExpiry p => Sys2Proof.Machine.execSilenceTimerExpiry p s
  | .parkExpiry c => Sys2Proof.Machine.execParkExpiry c s
  | .drainDeadline c => Sys2Proof.Machine.execDrainDeadline c s
  | .denyEnd l => Sys2Proof.Machine.execDenyEnd l s
  | .loopCurrentChange l microamps => Sys2Proof.Machine.execLoopCurrentChange l microamps s
  | .hookQualified l => Sys2Proof.Machine.execHookQualified l s
  | .hangup l => Sys2Proof.Machine.execHangup l s
  | .rotaryDigitEnd l => Sys2Proof.Machine.execRotaryDigitEnd l s
  | .dtmfKeyChange l m => Sys2Proof.Machine.execDtmfKeyChange l m s
  | .dtmfOnsetQualified l => Sys2Proof.Machine.execDtmfOnsetQualified l s
  | .dtmfDigitEnd l => Sys2Proof.Machine.execDtmfDigitEnd l s
  | .stepBoundary => Sys2Proof.Machine.execStepBoundary s
  | .callerWaitEnd l => Sys2Proof.Machine.execCallerWaitEnd l s
  | .callerTransmissionEnd l => Sys2Proof.Machine.execCallerTransmissionEnd l s
  | .refPhaseEnd l count => Sys2Proof.Machine.execRefPhaseEnd l count s
  | .loopPhaseEnd l count => Sys2Proof.Machine.execLoopPhaseEnd l count s
  | .saveComplete => Sys2Proof.Machine.execSaveComplete s
  | .channelTick c m => Sys2Proof.Machine.execChannelTick c m s
  | .loopBlockClose l m => Sys2Proof.Machine.execLoopBlockClose l m s
  | .toneComplete l => Sys2Proof.Machine.execToneComplete l s
  | .messageBegin p => Sys2Proof.Machine.execMessageBegin p s
  | .transferComplete p => Sys2Proof.Machine.execTransferComplete p s
  | .sampleTime lineA lineB => Sys2Proof.Machine.execSampleTime lineA lineB s

end Sys2Proof.Machine
end

