-- ==== Sys2Proof/Safety.lean ====
section
/-! DEFINITION. What counts as a sound state of the part, in the terms statements use: the accounts of the pool, the limits of the control queues, the binding of channels and leads, the agreement of feed and hook, the bounds of timing recovery, the order of the history ring, the ranges of the settings. Also the words statements use for a request that is taken and answered. -/

namespace Sys2Proof.Machine

/-! ### Words for messages and requests -/

/-- The parts of a request (13.3): its port, tag, code and parameter bytes. -/
structure RequestParts where
  port : Port
  tag : Byte
  code : Byte
  params : List Byte
deriving DecidableEq, Repr

/-- The request a command carries, with its code (R200). -/
def requestOf : Instr → Option RequestParts
  | .openReq p tag params => some ⟨p, tag, 0x01, params⟩
  | .claimReq p tag params => some ⟨p, tag, 0x02, params⟩
  | .handoffReq p tag params => some ⟨p, tag, 0x03, params⟩
  | .closeReq p tag params => some ⟨p, tag, 0x04, params⟩
  | .connectReq p tag params => some ⟨p, tag, 0x05, params⟩
  | .setFallbackReq p tag params => some ⟨p, tag, 0x06, params⟩
  | .channelSetReq p tag params => some ⟨p, tag, 0x07, params⟩
  | .statsReq p tag params => some ⟨p, tag, 0x08, params⟩
  | .modeReq p tag params => some ⟨p, tag, 0x09, params⟩
  | .polarityReq p tag params => some ⟨p, tag, 0x10, params⟩
  | .denyReq p tag params => some ⟨p, tag, 0x11, params⟩
  | .toneReq p tag params => some ⟨p, tag, 0x12, params⟩
  | .toneStopReq p tag params => some ⟨p, tag, 0x13, params⟩
  | .toneDefineReq p tag params => some ⟨p, tag, 0x14, params⟩
  | .gainReq p tag params => some ⟨p, tag, 0x15, params⟩
  | .ringReq p tag params => some ⟨p, tag, 0x20, params⟩
  | .ringStopReq p tag params => some ⟨p, tag, 0x21, params⟩
  | .testReq p tag params => some ⟨p, tag, 0x22, params⟩
  | .setReq p tag params => some ⟨p, tag, 0x30, params⟩
  | .getReq p tag params => some ⟨p, tag, 0x31, params⟩
  | .inquireReq p tag params => some ⟨p, tag, 0x32, params⟩
  | .profileSaveReq p tag params => some ⟨p, tag, 0x33, params⟩
  | .profileLoadReq p tag params => some ⟨p, tag, 0x34, params⟩
  | .profileStartReq p tag params => some ⟨p, tag, 0x35, params⟩
  | .restartReq p tag params => some ⟨p, tag, 0x36, params⟩
  | .unknownRequestCode p tag code params => some ⟨p, tag, code, params⟩
  | _ => none

/-- The port a command's message comes in on. -/
def messagePort : Instr → Option Port
  | .mediaIn p _ => some p
  | .keep p _ => some p
  | i => (requestOf i).map (·.port)

/-- The length of the parameters of each request whose layout fixes it (R200). -/
def paramLength (code : Byte) : Option Nat :=
  (([(0x01, 13), (0x02, 1), (0x03, 2), (0x04, 2), (0x05, 2), (0x06, 2), (0x07, 6), (0x08, 2), (0x09, 2), (0x10, 2),
     (0x11, 3), (0x12, 2), (0x13, 1), (0x15, 5), (0x21, 1), (0x22, 1), (0x30, 6), (0x31, 2), (0x32, 0), (0x33, 1),
     (0x34, 1), (0x35, 1), (0x36, 0)] : List (Byte × Nat)).find? (·.1 == code)).map (·.2)

/-- A valid message taken on an UP port (R174): the silence timer restarts and the receiver is in HUNT. -/
def State.heard (s : State) (p : Port) : State :=
  s.modPort p fun x =>
    { x with silenceEnd := s.timebase + msSpan (s.live.port.get p).silenceTime, receiver := .hunt }

/-- A request can be taken on a port: the port is UP with fewer than 4 requests outstanding (R175). -/
def State.ready (s : State) (p : Port) : Prop := (s.port p).up = true ∧ (s.port p).outstanding < 4

/-- A port that has answered a request of its own (R174, R175): the timer restarted, the request counted, the reply
queued. -/
def PortState.replied (silenceEnd : Word) (r : Reply) (x : PortState) : PortState :=
  { x with
    silenceEnd := silenceEnd
    receiver := .hunt
    outstanding := x.outstanding + 1
    queue := x.queue ++ [.reply r] }

/-- The state after a request on an UP port that has been answered, with nothing else changed (R175). -/
def State.replied (s : State) (p : Port) (r : Reply) : State :=
  s.modPort p (PortState.replied (s.timebase + msSpan (s.live.port.get p).silenceTime) r)

/-- The state in which a ready port's request reaches its owner (R174, R175). -/
def State.counted (s : State) (p : Port) : State :=
  s.modPort p fun x =>
    { x with
      silenceEnd := s.timebase + msSpan (s.live.port.get p).silenceTime
      receiver := .hunt
      outstanding := x.outstanding + 1 }

/-- The reply of a refusal (R176). -/
def refusal (tag : Byte) (code : ReplyCode) : Reply := ⟨tag, code, [], false⟩

/-- The reply of an acceptance. -/
def acceptance (tag : Byte) (results : List Byte) : Reply := ⟨tag, .ok, results, false⟩

/-- The reply of an acceptance that may have changed a value. -/
def acceptanceOf (tag : Byte) (clamped : Bool) (results : List Byte) : Reply :=
  ⟨tag, if clamped then .clamped else .ok, results, false⟩

/-! ### The pool (R27, R28, R34) -/

/-- The blocks of the shared part that a channel has drawn (R28). -/
def PerChan.excess (held reserve : PerChan Nat) : Nat :=
  (held.c0 - reserve.c0) + (held.c1 - reserve.c1) + (held.c2 - reserve.c2) + (held.c3 - reserve.c3)

/-- The accounts of the pool (R27, R28): what each channel holds, and where the free blocks are. -/
structure PoolAccounts (s : State) : Prop where
  held : ∀ c, s.pool.held.get c = (s.chan c).pe.queue.length + (s.chan c).uf.ringSize
  free : ∀ c, s.pool.free.get c = s.reserves.get c - s.pool.held.get c
  shared : s.pool.shared + s.reserves.total + PerChan.excess s.pool.held s.reserves = 256
  idle : ∀ c, (s.chan c).state = .idle → (s.chan c).pe.queue = [] ∧ (s.chan c).uf.ringSize = 0

/-- The profile a slot would load, when it holds one. -/
def Store.loads (x : Store) (g : Profile) : Prop :=
  x.slot1 = .valid g ∨ x.slot2 = .valid g ∨ x.slot3 = .valid g ∨ ∃ v, x.save = some v ∧ v.snapshot = g

/-- A property of the live settings and of every profile that can be loaded (R190 to R193). -/
def State.everyProfile (s : State) (good : Profile → Prop) : Prop := good s.live ∧ ∀ g, s.store.loads g → good g

/-- The sum of the reserves is at most 256 in every profile (2.1, R35). -/
def reservesFit (g : Profile) : Prop := g.global.reserve.total ≤ 256

/-! ### The control queues (R173, R177, R179) -/

/-- The entries of a queue that are replies. -/
def PortState.replyCount (x : PortState) : Nat := x.queue.countP fun e => !e.isNotice

/-- The entry is a START notice. -/
def Entry.isStart : Entry → Bool
  | .notice ⟨.start _ _ _, _, _, _⟩ => true
  | _ => false

/-- The limits of a port's control queue (R173, R176, R177, R179). -/
structure QueueLimits (x : PortState) : Prop where
  notices : x.noticeCount ≤ 28
  replies : x.replyCount = x.outstanding
  outstanding : x.outstanding ≤ 4
  mark : x.overflowMark = true → x.noticeCount = 28
  down : x.up = false → (∀ e ∈ x.queue, e.isStart = true) ∧ x.overflowMark = false

/-- A port's transfer (R170): the bytes are those of the oldest control entry or of the media message, and at least the
first of them has been sent. -/
structure TransferSound (x : PortState) : Prop where
  position : ∀ t, x.transfer = some t → 1 ≤ t.position ∧ t.position ≤ t.frame.length
  control : ∀ bytes n, x.transfer = some ⟨.control, bytes, n⟩ → x.queue.head?.map Entry.frame = some bytes
  media : ∀ m current bytes n, x.transfer = some ⟨.media m current, bytes, n⟩ → bytes = m.frame

/-! ### Channels, holders and leads (R2, R6, R124) -/

/-- A channel's binding (R2, R7): a RUN channel has a holder whose port is UP, an IDLE or PARKED one has none, a
DRAINING one keeps the holder that closed it; an IDLE channel names no fallback and leads nothing. -/
def State.bound (s : State) (c : Chan) : Prop :=
  match (s.chan c).state with
  | .run => ∃ p, (s.chan c).holder = some p ∧ (s.port p).up = true
  | .draining => (s.chan c).holder.isSome = true
  | .parked => (s.chan c).holder = none
  | .idle =>
    (s.chan c).holder = none ∧ (s.chan c).fallback = none ∧ (s.chan c).parkFallback = none ∧ (s.chan c).lead = false

/-- A loop's leads: the attached channels whose lead flag is set. -/
def State.leads (s : State) (l : Loop) : List Chan := (s.attached l).filter fun c => (s.chan c).lead

/-- A loop has at most two attached channels and, while it has any, exactly one lead (R6); its dial buffer is empty
while it has one (R124). -/
structure LoopLed (s : State) (l : Loop) : Prop where
  two : (s.attached l).length ≤ 2
  lead : (s.attached l).isEmpty = false → (s.leads l).length = 1
  dial : (s.attached l).isEmpty = false → (s.loop l).dial = []

/-! ### Feed, hook, ring and test (R107, R108, 8.2, R163) -/

/-- A loop's feed agrees with its hook state, its ring record, its transmitter and its test (R108, R110, 8.2, R144,
R163), no ring signal is applied while a caller wait runs (R138, R139), and the auto tone flag and a pending park-lost
denial go with a tone of their kind (R115, R15, R158). -/
structure FeedAgrees (x : LoopState) : Prop where
  onhook : x.feed = .idle ∨ x.feed = .ringing ∨ x.feed = .callerData ∨ x.feed = .testing → x.hook = .onhook
  active : x.feed = .active → x.hook ≠ .onhook
  denied : x.feed = .denied → x.hook ≠ .brk
  ring : x.ring.isSome = true ↔ x.feed = .ringing ∨ x.feed = .callerData
  sending : x.tx.isSome = true ↔ x.feed = .callerData
  caller : ∀ r, x.ring = some r → (r.callerState = .sending ↔ x.feed = .callerData)
  signal : x.ringSignal = true → x.feed = .ringing
  waiting : ∀ r, x.ring = some r → r.callerState = .waiting → x.ringSignal = false
  test : x.test.phase ≠ .none ↔ x.feed = .testing
  digits : x.feed ≠ .active → x.dtmf = .quiet ∧ x.pulses = 0
  auto : x.autoTone = true ↔ ∃ t, x.player = some t ∧ t.kind = .auto
  lost : x.lostDenial.isSome = true → ∃ t, x.player = some t ∧ t.kind = .parkLost

/-! ### Timing recovery (R61, R72) -/

/-- The bounds of a channel's timing state (4.1, R72). -/
structure TimingBounds (t : Timing) : Prop where
  est : -1000 ≤ t.est ∧ t.est ≤ 1000
  acc : -1000000 < t.acc ∧ t.acc < 1000000
  corr : -4 ≤ t.corr ∧ t.corr ≤ 4

/-! ### The history ring (5.1, R82, R83) -/

/-- Ring entries that carry consecutive sequence numbers, the next of which is given. -/
def consecutive (next : Half) : List HEntry → Prop
  | [] => True
  | [e] => e.seq + 1 = next
  | e :: f :: rest => e.seq + 1 = f.seq ∧ consecutive next (f :: rest)

/-- A channel's history ring: at most its size, its entries consecutive up to the next uplink seq (5.1). -/
structure RingOrdered (uf : Framer) : Prop where
  size : uf.ring.length ≤ uf.ringSize
  order : consecutive uf.nextSeq uf.ring

/-! ### Playout and bounded lists (R24, R39, R47, R50, R80, R124) -/

/-- A channel's queue and play store (R39, R47, R50): the entries of the playing epoch come before those of the arrival
epoch and there are no others, each entry is a block of 80 samples with its peak, last played is 80 samples, and the
current block is 79 to 81. -/
structure PlayoutSound (pe : Playout) : Prop where
  epochs : ∃ old new : List QEntry,
    pe.queue = old ++ new ∧ (∀ e ∈ old, e.epoch = pe.playEpoch) ∧ ∀ e ∈ new, e.epoch = pe.epochIn
  entries : ∀ e ∈ pe.queue, e.samples.length = 80 ∧ e.peak = peakOf e.samples
  lastPlayed : pe.lastPlayed.length = 80
  current : ∀ b, pe.current = some b → 79 ≤ b.samples.length ∧ b.samples.length ≤ 81 ∧ b.pos ≤ b.samples.length
  missing : pe.missing ≤ 65535

/-- The order of a channel's queue (R39): every entry lies within depth_max numbers from the anchor of its epoch, the
entries of an epoch are in strict order of their distance from it, so no number stands twice, and nothing is queued
before the first arrival. -/
structure QueueOrdered (ch : Channel) : Prop where
  anchored : ch.pe.anchored = false → ch.pe.queue = []
  window : ∀ e ∈ ch.pe.queue,
    0 ≤ seqDist (ch.pe.anchorOf e) e.seq ∧ seqDist (ch.pe.anchorOf e) e.seq < ch.settings.depthMax
  order : ch.pe.queue.Pairwise fun x y =>
    x.epoch = y.epoch → seqDist (ch.pe.anchorOf x) x.seq < seqDist (ch.pe.anchorOf y) y.seq

/-- A loop's counts and lists keep their limits (7.1, R80, R124). -/
structure LoopBounds (x : LoopState) : Prop where
  dial : x.dial.length ≤ 32
  pulses : x.pulses ≤ 255
  block : x.block.length < 80
  closed : ∀ b, x.closed = some b → b.mix.length = 80

/-! ### Settings (R185, R187) -/

/-- The global settings lie in their ranges (R185). -/
structure GlobalInRange (g : GlobalSettings) : Prop where
  cadenceStep : 50 ≤ g.cadenceStep ∧ g.cadenceStep ≤ 1000 ∧ g.cadenceStep % 50 = 0
  ringBudget : 10 ≤ g.ringBudget ∧ g.ringBudget ≤ 99
  assumedLoad : g.assumedLoad ≤ 99
  callerDelay : 200 ≤ g.callerDelay ∧ g.callerDelay ≤ 1000
  testGate : 4096 ≤ g.testGate ∧ g.testGate ≤ 65535
  silenceLevel : g.silenceLevel ≤ 32767
  toneDataMin : 200 ≤ g.toneDataMin ∧ g.toneDataMin ≤ 1000
  reserve : ∀ c, g.reserve.get c ≤ 128
  reserves : g.reserve.total ≤ 256

/-- The settings of a loop lie in their ranges, in the order of R187. -/
structure LoopInRange (x : LoopSettings) : Prop where
  hookThreshold : x.hookThreshold = 8 ∨ x.hookThreshold = 10 ∨ x.hookThreshold = 12 ∨ x.hookThreshold = 15
  hookQualify : 10 ≤ x.hookQualify ∧ x.hookQualify ≤ 100
  pulseBreakMax : 20 ≤ x.pulseBreakMax ∧ x.pulseBreakMax ≤ 150
  flashMin : 100 ≤ x.flashMin ∧ x.flashMin ≤ 800
  hangupMin : 300 ≤ x.hangupMin ∧ x.hangupMin ≤ 2000
  order : x.pulseBreakMax < x.flashMin ∧ x.flashMin < x.hangupMin
  interdigitMin : 100 ≤ x.interdigitMin ∧ x.interdigitMin ≤ 1000
  toneOnMin : 20 ≤ x.toneOnMin ∧ x.toneOnMin ≤ 200
  toneOffMin : 20 ≤ x.toneOffMin ∧ x.toneOffMin ≤ 200
  rxGain : x.rxGain ≤ 1024
  txGain : x.txGain ≤ 1024
  denyTime : 100 ≤ x.denyTime ∧ x.denyTime ≤ 2000

/-- The settings of a port lie in their ranges (R185, R200). -/
structure PortInRange (x : PortSettings) : Prop where
  silenceTime : 20 ≤ x.silenceTime ∧ x.silenceTime ≤ 2000
  noticeMask : x.noticeMask &&& 0xFFFFC001#32 = 0#32

/-- Channel settings lie in their ranges and bounds (R185, R187). -/
structure ChannelInRange (x : ChannelSettings) : Prop where
  depthMin : 1 ≤ x.depthMin ∧ x.depthMin ≤ x.depthMax
  depthMax : 2 ≤ x.depthMax ∧ x.depthMax ≤ 64
  depthStart : x.depthMin ≤ x.depthStart ∧ x.depthStart ≤ x.depthMax
  guard : x.guard ≤ 800
  window : x.window = 16000 ∨ x.window = 32000 ∨ x.window = 64000 ∨ x.window = 128000
  smoothing : x.smoothing ≤ 3
  dataDepth : 2 ≤ x.dataDepth ∧ x.dataDepth ≤ x.depthMax
  dataSlack : 1 ≤ x.dataSlack ∧ x.dataSlack ≤ 8
  history : 4 ≤ x.history ∧ x.history ≤ 32
  redundancy : x.redundancy ≤ 3
  packet : 1 ≤ x.packet ∧ x.packet ≤ 4
  parkTime : 100 ≤ x.parkTime ∧ x.parkTime ≤ 10000
  drainLimit : x.drainLimit ≤ 5000

/-- A segment of a stored program lies in its ranges (R153). -/
structure SegmentInRange (g : Segment) : Prop where
  f1 : g.f1 ≤ 3999
  f2 : g.f2 ≤ 3999
  level : g.level ≤ 45
  duration : g.duration = 0 ∨ 10 ≤ g.duration ∧ g.duration ≤ 10000 ∧ g.duration % 10 = 0

/-- A stored program has at most four segments, each in its ranges, and a hold only on the last (R153). -/
structure ProgramInRange (g : Program) : Prop where
  count : g.segments.length ≤ 4
  segments : ∀ x ∈ g.segments, SegmentInRange x
  hold : ∀ x ∈ g.segments.dropLast, x.duration ≠ 0

/-- A profile lies in its ranges (R185, R187, R153). -/
structure ProfileInRange (g : Profile) : Prop where
  global : GlobalInRange g.global
  loop : ∀ l, LoopInRange (g.loop.get l)
  port : ∀ p, PortInRange (g.port.get p)
  template : ChannelInRange g.template
  programs : ∀ n : Fin 8, ProgramInRange (g.programs.get n)

/-- An open channel's settings lie in their ranges and its target between its depths (R20, R21, R52). -/
def State.settingsHeld (s : State) (c : Chan) : Prop :=
  (s.chan c).state ≠ .idle →
    ChannelInRange (s.chan c).settings ∧ (s.chan c).settings.depthMin ≤ (s.chan c).tru.target
      ∧ (s.chan c).tru.target ≤ (s.chan c).settings.depthMax

end Sys2Proof.Machine
end

