-- ==== Sys2Proof/Certificates/Slice0/Obligations.lean ====
section
/-! DEFINITION. The statements for the provers. A request statement says what stands when the port is ready (UP, fewer than 4 requests outstanding); RequestOverrunDiscards and MessageBringsPortUp say what happens on the other ports. -/

open Sys2Proof Sys2Proof.Machine

/-! ### The queue of commands and the state after reset -/

/-- The command at the front of the queue is run on the state with the queue's rest. -/
def Obligations.StepRunsTheFrontCommand : Prop :=
  ∀ (c : Instr) (rest : List Instr) (s : State), s.pending = c :: rest → step s = exec c { s with pending := rest }

/-- Every command in every state has a next state: the part never stops. A command neither changes the queue nor depends
on it. -/
def Obligations.EveryCommandCompletesBesideTheQueue : Prop :=
  (∀ (c : Instr) (s : State), ∃ t, exec c s = .next t)
    ∧ (∀ (c : Instr) (s t : State), exec c s = .next t →
         t.pending = s.pending ∧ ∀ q : List Instr, exec c { s with pending := q } = .next { t with pending := q })

/-- The state after the first power-on, as the rules on reset give it (R1, R36, R38, R61, R79, R94, R127, R129, R147,
R149, R162, R183, R193). That the part is the factory's, that no first block time and nothing of a closed measurement
window is held, and that no byte stands as sent, are the model's choice (logs 8, 6, 44, 40). The sound states hold the
state after reset. -/
def Obligations.StateAfterReset : Prop :=
  (let s := State.reset
   s.timebase = 0 ∧ s.stepIndex = 0 ∧ s.nextBoundary = 500 * 8 ∧ s.live = factoryProfile
     ∧ s.store = ⟨.invalid, .invalid, .invalid, 0, none⟩ ∧ s.restart = .none ∧ s.pending = []
     ∧ s.pool = ⟨⟨0, 0, 0, 0⟩, ⟨48, 48, 48, 48⟩, 64⟩
     ∧ (∀ c, (s.chan c).state = .idle ∧ (s.chan c).holder = none ∧ (s.chan c).fallback = none
         ∧ (s.chan c).parkFallback = none ∧ (s.chan c).lead = false ∧ (s.chan c).voice = .voiced
         ∧ (s.chan c).mode = .voice ∧ (s.chan c).notices = [] ∧ (s.chan c).stats = .zero
         ∧ (s.chan c).pe.queue = [] ∧ (s.chan c).pe.anchored = false ∧ (s.chan c).pe.epochIn = 0
         ∧ (s.chan c).pe.playEpoch = 0 ∧ (s.chan c).pe.baseIn = 0 ∧ (s.chan c).pe.nextPlay = 0
         ∧ (s.chan c).pe.playState = .priming ∧ (s.chan c).pe.missing = 0 ∧ (s.chan c).pe.lastPlayed = silence
         ∧ (s.chan c).pe.lastPeak = 0 ∧ (s.chan c).pe.outputPeak = 0 ∧ (s.chan c).pe.current = none
         ∧ (s.chan c).tru = ⟨none, none, 0, 0, 0, 0, false⟩
         ∧ (s.chan c).uf = ⟨0, [], 0, 0, none, 0, none, false⟩
         ∧ (s.chan c).det = ⟨false, ⟨none, 0, false⟩, ⟨none, 0, false⟩⟩)
     ∧ (∀ l, (s.loop l).feed = .idle ∧ (s.loop l).polarity = .normal ∧ (s.loop l).hook = .onhook
         ∧ (s.loop l).rawEdge = 0 ∧ (s.loop l).pulses = 0 ∧ (s.loop l).dtmf = .quiet ∧ (s.loop l).dial = []
         ∧ (s.loop l).dialOverflow = false ∧ (s.loop l).autoTone = false ∧ (s.loop l).player = none
         ∧ (s.loop l).ring = none ∧ (s.loop l).tx = none ∧ (s.loop l).lostDenial = none
         ∧ (s.loop l).test.phase = .none ∧ (s.loop l).test.nRef = 0 ∧ (s.loop l).test.nLoop = 0
         ∧ (s.loop l).test.load = none)
     ∧ (∀ p, (s.port p).up = false ∧ (s.port p).receiver = .hunt ∧ (s.port p).transfer = none
         ∧ (s.port p).sent = [] ∧ (s.port p).outstanding = 0 ∧ (s.port p).lastServed = none ∧ (s.port p).overflowMark = false
         ∧ (s.port p).dropped = 0 ∧ (s.port p).badFrames = 0 ∧ (s.port p).requestOverrun = 0
         ∧ (s.port p).notHolderMedia = 0 ∧ (s.port p).noticesDropped = 0
         ∧ (s.port p).queue = [.notice ⟨.start .power (some 0) false, none, none, 0⟩] ∧ s.attention p = true))
    ∧ (PoolAccounts State.reset ∧ State.reset.everyProfile reservesFit ∧ (∀ p, QueueLimits (State.reset.port p))
         ∧ (∀ p, TransferSound (State.reset.port p))
         ∧ (∀ c, State.reset.bound c) ∧ (∀ l, LoopLed State.reset l) ∧ (∀ l, FeedAgrees (State.reset.loop l))
         ∧ (∀ c, TimingBounds (State.reset.chan c).tru) ∧ (∀ c, RingOrdered (State.reset.chan c).uf)
         ∧ (∀ c, PlayoutSound (State.reset.chan c).pe) ∧ (∀ c, QueueOrdered (State.reset.chan c))
         ∧ (∀ l, LoopBounds (State.reset.loop l))
         ∧ (∀ c, (State.reset.chan c).notices.length ≤ 8)
         ∧ State.reset.everyProfile ProfileInRange ∧ ∀ c, State.reset.settingsHeld c)

/-! ### Invariants every step keeps -/

/-- The accounts of the pool (R27, R28) hold after a step from a state in which they hold. The premise on the profiles
is kept by steps as well, as the conclusion says. -/
def Obligations.PoolAccountsKept : Prop :=
  ∀ s t : State, PoolAccounts s → s.everyProfile reservesFit → step s = .next t →
    PoolAccounts t ∧ t.everyProfile reservesFit

/-- Every port's control queue keeps its limits (R173, R176, R177, R179), and its transfer stays a message of the port,
with its bytes sent from the first on (R170, R180). -/
def Obligations.QueueLimitsKept : Prop :=
  (∀ s t : State, (∀ p, QueueLimits (s.port p)) → step s = .next t → ∀ p, QueueLimits (t.port p))
    ∧ ∀ s t : State, (∀ p, TransferSound (s.port p)) → step s = .next t → ∀ p, TransferSound (t.port p)

/-- Channels keep their binding to holders, and loops their one lead (R2, R6, R124). -/
def Obligations.BindingsKept : Prop :=
  ∀ s t : State, (∀ c, s.bound c) → (∀ l, LoopLed s l) → step s = .next t →
    (∀ c, t.bound c) ∧ ∀ l, LoopLed t l

/-- A loop's feed state agrees with its hook state, ring record, transmitter and test (R107, R108, R130, R163). -/
def Obligations.FeedAgreementKept : Prop :=
  ∀ s t : State, (∀ l, FeedAgrees (s.loop l)) → step s = .next t → ∀ l, FeedAgrees (t.loop l)

/-- The drift estimate and the slip accumulator keep their bounds (R72), and so does the pending correction (R67). A
history ring keeps its size and its consecutive sequence numbers (5.1, R82, R83). The lists and counts with a limit keep
it (R24, 7.1, R80, R124): 8 pending notices, 32 dialled digits, 255 pulses, 80 samples in a loop block. -/
def Obligations.BoundsKept : Prop :=
  (∀ s t : State, (∀ c, TimingBounds (s.chan c).tru) → step s = .next t → ∀ c, TimingBounds (t.chan c).tru)
    ∧ (∀ s t : State, (∀ c, RingOrdered (s.chan c).uf) → step s = .next t → ∀ c, RingOrdered (t.chan c).uf)
    ∧ (∀ s t : State, (∀ l, LoopBounds (s.loop l)) → (∀ c, (s.chan c).notices.length ≤ 8) → step s = .next t →
         (∀ l, LoopBounds (t.loop l)) ∧ ∀ c, (t.chan c).notices.length ≤ 8)

/-- Every channel's queue and play store stay sound: at most the playing and the arrival epoch in this order, whole
blocks with their peaks, a current block of 79 to 81 samples (R39, R47, R50, R72). The queue keeps its order (R39): each
entry within depth_max numbers from the anchor of its epoch, and an epoch's entries in strict order of their distance
from it, so that no number is queued twice. Left out of the order are the states in which one message's resyncs could
bring the epoch number round to the playing epoch's, where R45 itself lets two epochs share a number (log 37). -/
def Obligations.PlayoutKept : Prop :=
  (∀ s t : State, (∀ c, PlayoutSound (s.chan c).pe) → step s = .next t → ∀ c, PlayoutSound (t.chan c).pe)
    ∧ (∀ s t : State, (∀ c, PlayoutSound (s.chan c).pe) → (∀ c, s.settingsHeld c) → (∀ c, QueueOrdered (s.chan c)) →
         (∀ (c : Chan) (k : Nat), 1 ≤ k → k ≤ 7 →
           (s.chan c).pe.epochIn + BitVec.ofNat 8 k ≠ (s.chan c).pe.playEpoch) →
         step s = .next t → ∀ c, QueueOrdered (t.chan c))

/-- Every live setting, every stored profile and the settings of every open channel keep their ranges (R185, R187, R20),
and an open channel's target lies between its depths (R52). -/
def Obligations.SettingsKept : Prop :=
  ∀ s t : State, s.everyProfile ProfileInRange → (∀ c, s.settingsHeld c) → step s = .next t →
    t.everyProfile ProfileInRange ∧ ∀ c, t.settingsHeld c

/-! ### The frame and its check -/

/-- The check over the bytes 0x31 to 0x39, and the register's end over bytes followed by their check (R197). A media
body laid out for a message reads back as the message's fields (R198). The bits of the bytes a port has sent go out most
significant first (R170). The messages the part sends, byte by byte: the frame (13.1), the fields most significant byte
first, the body of MEDIA_OUT (R198), the outcomes of a REPLY (R199) and the record of every notice (R202), with the
caller states a ring can end with and the causes a REQUESTED tone can. -/
def Obligations.CheckAndMediaLayouts : Prop :=
  (crc [0x31, 0x32, 0x33, 0x34, 0x35, 0x36, 0x37, 0x38, 0x39] = 0x29B1
     ∧ ∀ bytes : List Byte, crc (bytes ++ bytes16 (crc bytes)) = 0)
    ∧ (∀ m : MediaOut, 1 ≤ m.primaries.length → m.primaries.length ≤ 4 → m.redundant.length ≤ 3 →
         (∀ b ∈ m.primaries ++ m.redundant, b.length = 80) →
         parseMedia m.body = some
           { chan := Chan.byte m.chan, first := m.first, stamp := m.stamp, dataHint := m.dataFlag, resync := false,
             primaries := m.primaries, redundant := m.redundant })
    ∧ (∀ hi lo : Byte, bytes16 (half hi lo) = [hi, lo] ∧ (half hi lo).toNat = 256 * hi.toNat + lo.toNat)
    ∧ (∀ b3 b2 b1 b0 : Byte, bytes32 (word b3 b2 b1 b0) = [b3, b2, b1, b0]
         ∧ (word b3 b2 b1 b0).toNat = 16777216 * b3.toNat + 65536 * b2.toNat + 256 * b1.toNat + b0.toNat)
    ∧ (∀ (x : PortState) (k : Nat) (b : Byte), x.sent[k]? = some b →
         x.sentBits.length = 8 * x.sent.length ∧ ∀ j, j < 8 → x.sentBits[8 * k + j]? = some (b.getLsbD (7 - j)))
    ∧ (∀ (kind : Byte) (body : List Byte),
         let covered := nat16 (body.length + 1) ++ [kind] ++ body
         frame kind body = [0xA7] ++ covered ++ bytes16 (crc covered))
    ∧ (∀ m : MediaOut,
         m.body
           = [Chan.byte m.chan] ++ bytes16 m.first ++ bytes32 m.stamp
             ++ [(if m.dataFlag then 0x01 else 0x00) + (if m.continued then 0x04 else 0x00),
                 BitVec.ofNat 8 (16 * m.primaries.length + m.redundant.length)]
             ++ (m.primaries ++ m.redundant).flatMap fun b => b.flatMap bytes16)
    ∧ (∀ r : Reply,
         let code : Byte :=
           match r.code with
           | .ok => 0x00
           | .clamped => 0x01
           | .badParam => 0x10
           | .busy => 0x11
           | .wrongState => 0x12
           | .notHolder => 0x13
           | .held => 0x14
           | .loopBusy => 0x15
           | .noChannel => 0x16
           | .noPool => 0x17
           | .unknown => 0x1F
         (Entry.reply r).frame = frame 0x82 ([r.tag, code] ++ r.results))
    ∧ (∀ n : Notice,
         let flag (b : Bool) : Byte := if b then 1 else 0
         let status (x : CallerState) : Byte :=
           if x = .none then 0 else if x = .notSent then 1 else if x = .complete then 2 else 3
         let ended (r : RingSummary) : List Byte :=
           [status r.status] ++ nat16 r.rung ++ nat16 r.deferred ++ nat16 r.suppressed ++ nat16 r.bursts
         let ends (r : RingSummary) : Prop :=
           r.status = .none ∨ r.status = .notSent ∨ r.status = .complete ∨ r.status = .aborted
         let record : List Byte × List Byte :=
           match n.data with
           | .seize => ([0x01], [])
           | .digit d m k => ([0x02], [d, if m = .pulse then 0 else 1] ++ bytes16 k)
           | .badDigit k => ([0x03], nat16 k)
           | .flash ms => ([0x04], bytes16 ms)
           | .hangup => ([0x05], [])
           | .answered r => ([0x06], ended r)
           | .ringDone reason r => ([0x07], [if reason = .completed then 0 else 1] ++ ended r)
           | .modeChange m switched path band =>
             ([0x08],
               [if m = .voice then 0 else 1, flag switched,
                 if path = .loop then 0 else if path = .played then 1 else 2,
                 if band = none then 0 else if band = some .answer then 1 else 2])
           | .drainDone reason => ([0x09], [if reason = .empty then 0 else if reason = .limit then 1 else 2])
           | .parkExpired old => ([0x0A], [Port.byte old])
           | .toneDone k cause =>
             ([0x0B],
               [BitVec.ofNat 8 k.val,
                 if cause = .completed then 0 else if cause = .stopped then 1 else if cause = .replaced then 2 else 3])
           | .testDone outcome a b load isOver =>
             ([0x0C],
               [if outcome = .completed then 0
                 else if outcome = .refFault then 1
                 else if outcome = .abortedOffhook then 2
                 else 3] ++ nat16 a ++ nat16 b ++ [BitVec.ofNat 8 (load.getD 255), flag isOver])
           | .saveDone slot => ([0x0D], [BitVec.ofNat 8 slot])
           | .takeoverOffer lead m cause old ms =>
             ([0x10],
               [flag lead, if m = .voice then 0 else 1, if cause = .portDown then 0 else 1, Port.byte old] ++ nat16 ms)
           | .start cause slot fallback =>
             ([0x11],
               [if cause = .power then 0 else if cause = .line then 1 else 2, BitVec.ofNat 8 (slot.getD 255),
                 flag fallback])
           | .linkUp p => ([0x12], [Port.byte p])
           | .overflow p k => ([0x13], [Port.byte p] ++ nat16 k)
         (∀ r, n.data = .answered r → ends r) → (∀ reason r, n.data = .ringDone reason r → ends r) →
         (∀ k, n.data ≠ .toneDone k .digit ∧ n.data ≠ .toneDone k .taken) →
         (Entry.notice n).frame
           = frame 0x83
               (record.1 ++ [(n.loop.map Loop.byte).getD 0xFF, (n.chan.map Chan.byte).getD 0xFF] ++ bytes32 n.time
                 ++ record.2))

/-- A frame built around a kind an agent sends and a body of its form is received whole: no bad frame on the way, the
message valid with its last byte (13.1, R171). -/
def Obligations.FramesAreReceivedWhole : Prop :=
  ∀ (kind : Byte) (body : List Byte), bodyValid kind body = true → body.length ≤ 1394 →
    ∃ (first : List Byte) (last : Byte) (r : Receiver),
      frame kind body = first ++ [last] ∧ Receiver.takeAll .hunt first = (r, 0, false)
        ∧ r.take last = (.hunt, .valid kind body)

/-! ### Messages and requests in general (R171 to R176) -/

/-- A request on a port with 4 outstanding is discarded and counted; no block sees it (R175, step 1). -/
def Obligations.RequestOverrunDiscards : Prop :=
  ∀ (s : State) (i : Instr) (r : RequestParts), requestOf i = some r →
    (∀ p tag code params, i = .unknownRequestCode p tag code params → code ∉ knownCodes) →
    (s.port r.port).up = true → 4 ≤ (s.port r.port).outstanding →
    exec i s = .next ((s.heard r.port).modPort r.port fun x => { x with requestOverrun := bump x.requestOverrun })

/-- A valid message on a DOWN port acts as on the same port UP with LINK_UP queued behind what it holds (R173). A DOWN
port holds no overflow mark and at most START, as QueueLimitsKept says. -/
def Obligations.MessageBringsPortUp : Prop :=
  ∀ (s : State) (i : Instr) (p : Port), messagePort i = some p →
    (∀ q body, i = .mediaIn q body → (parseMedia body).isSome = true) → (∀ q body, i = .keep q body → body = []) →
    (∀ q tag code params, i = .unknownRequestCode q tag code params → code ∉ knownCodes) →
    (s.port p).up = false → (s.port p).overflowMark = false → (s.port p).noticeCount < 28 →
    exec i s = exec i (s.modPort p fun x =>
      { x with up := true, queue := x.queue ++ [.notice ⟨.linkUp p, none, none, s.timebase⟩] })

/-- A known code whose parameters do not have the length its layout gives is answered BAD_PARAM and its owner does not
see it (R175, step 4; R200); a TONE_DEFINE has seven bytes for each segment after its first three. A request code the
part does not know is answered UNKNOWN and changes nothing else (R175, step 3). -/
def Obligations.UnknownAndMisshapenRequests : Prop :=
  ((∀ (s : State) (i : Instr) (r : RequestParts) (n : Nat), requestOf i = some r → paramLength r.code = some n →
       (∀ p tag code params, i ≠ .unknownRequestCode p tag code params) → r.params.length ≠ n → s.ready r.port →
       exec i s = .next (s.replied r.port (refusal r.tag .badParam)))
     ∧ ∀ (s : State) (p : Port) (tag number count repeats : Byte) (rest : List Byte),
         rest.length ≠ 7 * count.toNat → s.ready p →
         exec (.toneDefineReq p tag (number :: count :: repeats :: rest)) s
           = .next (s.replied p (refusal tag .badParam)))
    ∧ (∀ (s : State) (p : Port) (tag code : Byte) (params : List Byte), code ∉ knownCodes → s.ready p →
         exec (.unknownRequestCode p tag code params) s = .next (s.replied p (refusal tag .unknown)))

/-- KEEP restarts the silence timer and changes nothing else (R172, R174); with a body that is not empty it is a bad
frame (R171, R197). The bad frames of R171 for a receiver in HUNT, each counted once with nothing else changed but the
receiver: a length of 0, a length above 1395, a check that does not match, a kind an agent does not send, a body of the
wrong form. -/
def Obligations.KeepAndBadFrames : Prop :=
  (∀ (s : State) (p : Port) (body : List Byte),
     ((s.port p).up = true → exec (.keep p []) s = .next (s.heard p))
       ∧ (body ≠ [] →
           exec (.keep p body) s
             = .next (s.modPort p fun x => { x with badFrames := bump x.badFrames, receiver := .hunt })))
    ∧ ((∀ (s : State) (p : Port), (s.port p).receiver = .hunt →
           exec (.badFrame p [0xA7, 0x00, 0x00]) s = .next (s.modPort p fun x => { x with badFrames := bump x.badFrames }))
         ∧ (∀ (s : State) (p : Port) (hi lo : Byte), (s.port p).receiver = .hunt → 1395 < (half hi lo).toNat →
             hi ≠ 0xA7 → lo ≠ 0xA7 →
             exec (.badFrame p [0xA7, hi, lo]) s = .next (s.modPort p fun x => { x with badFrames := bump x.badFrames }))
         ∧ (∀ (s : State) (p : Port) (content : List Byte) (check : Half), (s.port p).receiver = .hunt →
             1 ≤ content.length → content.length ≤ 1395 → check ≠ crc (nat16 content.length ++ content) →
             exec (.badFrame p (0xA7 :: nat16 content.length ++ content ++ bytes16 check)) s
               = .next (s.modPort p fun x => { x with badFrames := bump x.badFrames }))
         ∧ ∀ (s : State) (p : Port) (kind : Byte) (body : List Byte), (s.port p).receiver = .hunt →
             body.length ≤ 1394 → bodyValid kind body = false →
             exec (.badFrame p (frame kind body)) s = .next (s.modPort p fun x => { x with badFrames := bump x.badFrames }))

/-- The requests only a channel's holder may make, with parameters of the right length: BAD_PARAM for a channel number
outside 0..3, NOT_HOLDER from a port that does not hold the channel, and nothing else changes (R3, steps 1 and 2). -/
def Obligations.HolderOnlyRequestsRefused : Prop :=
  ∀ (s : State) (p : Port) (tag b key v3 v2 v1 v0 : Byte) (drain : Bool), s.ready p →
    let allRefused (code : ReplyCode) : Prop :=
      exec (.handoffReq p tag [b, v0]) s = .next (s.replied p (refusal tag code))
        ∧ exec (.closeReq p tag [b, flagByte drain]) s = .next (s.replied p (refusal tag code))
        ∧ exec (.connectReq p tag [b, v0]) s = .next (s.replied p (refusal tag code))
        ∧ exec (.setFallbackReq p tag [b, v0]) s = .next (s.replied p (refusal tag code))
        ∧ exec (.channelSetReq p tag [b, key, v3, v2, v1, v0]) s = .next (s.replied p (refusal tag code))
        ∧ exec (.modeReq p tag [b, v0]) s = .next (s.replied p (refusal tag code))
        ∧ exec (.statsReq p tag [b, 1]) s = .next (s.replied p (refusal tag code))
    (4 ≤ b.toNat → allRefused .badParam)
      ∧ ∀ c : Chan, b = Chan.byte c → (s.chan c).heldBy p = false → allRefused .notHolder

/-! ### The control queue and the arbiter (R177 to R181) -/

/-- A notice other than START offered to a port (R178, R179): discarded on a DOWN port; discarded when its kind is
maskable and cleared in the mask; dropped when 28 notices are queued or the overflow mark is set, and with the mark set
below the cap an OVERFLOW takes its place; otherwise queued last. Nothing else changes. Where notices go (R24, R25,
R26): a channel's to its holder in RUN and DRAINING and to its pending-notice list while PARKED, where the oldest of 8
gives way and is counted; a loop's as a notice of its lead, and with no lead to the UP ports of the offer set; a ring's
to its owner, or with owner lost to the UP ports of the offer set. -/
def Obligations.NoticesQueuedAndRouted : Prop :=
  (∀ (s : State) (p : Port) (n : Notice), (∀ c i f, n.data ≠ .start c i f) →
     let x := s.port p
     let cleared : Prop := n.data.maskable = true ∧ (s.live.port.get p).noticeMask.getLsbD n.data.code.toNat = false
     let count := min 65535 (x.dropped + 1)
     (x.up = false → s.offer p n = s)
       ∧ (x.up = true → cleared → s.offer p n = s)
       ∧ (x.up = true → ¬cleared → x.overflowMark = false → x.noticeCount < 28 →
           s.offer p n = s.modPort p fun x => { x with queue := x.queue ++ [.notice n] })
       ∧ (x.up = true → ¬cleared → 28 ≤ x.noticeCount →
           s.offer p n = s.modPort p fun x =>
             { x with noticesDropped := bump x.noticesDropped, overflowMark := true, dropped := count })
       ∧ (x.up = true → ¬cleared → x.overflowMark = true → x.noticeCount < 28 →
           s.offer p n = s.modPort p fun x =>
             { x with
               noticesDropped := bump x.noticesDropped
               overflowMark := false
               dropped := 0
               queue := x.queue ++ [.notice ⟨.overflow p count, none, none, s.timebase⟩] }))
    ∧ (∀ (s : State) (n : Notice),
         (∀ (c : Chan) (p : Port), (s.chan c).state = .run ∨ (s.chan c).state = .draining → (s.chan c).holder = some p →
             s.routeChannel c n = s.offer p n)
           ∧ (∀ c : Chan, (s.chan c).state = .parked → (s.chan c).notices.length < 8 →
               s.routeChannel c n = s.modChan c fun ch => { ch with notices := ch.notices ++ [n] })
           ∧ (∀ (c : Chan) (oldest : Notice) (rest : List Notice), (s.chan c).state = .parked →
               (s.chan c).notices = oldest :: rest → rest.length = 7 →
               s.routeChannel c n = s.modChan c fun ch =>
                 { ch with
                   notices := rest ++ [n]
                   stats := { ch.stats with pendingDropped := bump ch.stats.pendingDropped } })
           ∧ (∀ (l : Loop) (c : Chan), s.leadOf l = some c → s.routeLoop l n = s.routeChannel c n)
           ∧ (∀ l : Loop, s.leadOf l = none →
               s.routeLoop l n
                 = (Port.all.filter fun p => (s.loopSet l).offerSet.get p && (s.port p).up).foldl (fun t p => t.offer p n) s)
           ∧ ∀ (l : Loop) (owner : Port),
               s.routeRing l owner false n = s.offer owner n
                 ∧ s.routeRing l owner true n
                   = (Port.all.filter fun p => (s.loopSet l).offerSet.get p && (s.port p).up).foldl
                       (fun t p => t.offer p n) s)

/-- The link arbiter's choice when a message can begin (R180, R170): the oldest control entry; otherwise the first due
channel after the last one served; otherwise none. The part sends the sync byte of the message that begins, or the fill
byte 0x00. With a transfer in progress nothing begins, and the part sends the message's next byte while it has one, as
the model's choice has it (log 40). A channel is due under R84. Its MEDIA_OUT (R85) carries packet primaries from the
send pointer on, the stamp of the first, in DATA redundant copies downward from the block before it, up to the
redundancy or to the first number that is not in the ring, and the CONTINUED mark, which it clears; the channel's
settings lie in their ranges, as SettingsKept says they do in every state a run reaches. The attention line (R181). -/
def Obligations.MessageBeginChooses : Prop :=
  ∀ (s : State) (p : Port),
    let unsent (c : Chan) (e : HEntry) : Bool := decide (0 ≤ (e.seq - (s.chan c).uf.sendPtr).toInt)
    let due (c : Chan) : Prop :=
      (s.chan c).state = .run ∧ (s.chan c).holder = some p ∧ (s.port p).up = true
        ∧ (s.chan c).settings.packet ≤ (s.chan c).uf.ring.countP (unsent c) ∧ (s.chan c).uf.transfer = none
    let order : List Chan :=
      match (s.port p).lastServed with
      | none => [.c0, .c1, .c2, .c3]
      | some .c0 => [.c1, .c2, .c3, .c0]
      | some .c1 => [.c2, .c3, .c0, .c1]
      | some .c2 => [.c3, .c0, .c1, .c2]
      | some .c3 => [.c0, .c1, .c2, .c3]
    (∀ t, (s.port p).transfer = some t →
        (∀ b, t.frame[t.position]? = some b →
            exec (.messageBegin p) s
              = .next (s.modPort p fun x =>
                  { x with sent := [b], transfer := some { t with position := t.position + 1 } }))
          ∧ (t.frame[t.position]? = none → exec (.messageBegin p) s = .next s))
      ∧ ((s.port p).transfer = none → ∀ e rest, (s.port p).queue = e :: rest →
          exec (.messageBegin p) s
            = .next (s.modPort p fun x => { x with sent := [0xA7], transfer := some ⟨.control, e.frame, 1⟩ }))
      ∧ ((s.port p).transfer = none → (s.port p).queue = [] → (∀ c, ¬due c) →
          exec (.messageBegin p) s = .next (s.modPort p fun x => { x with sent := [0x00] }))
      ∧ ((s.port p).transfer = none → (s.port p).queue = [] → ∀ (before after : List Chan) (c : Chan),
          order = before ++ c :: after → (∀ d ∈ before, ¬due d) → due c → s.settingsHeld c →
          let uf := (s.chan c).uf
          let limit := if (s.chan c).mode = .data then (s.chan c).settings.redundancy else 0
          let copied (k : Nat) : Half := uf.sendPtr - 1 - BitVec.ofNat 16 k
          ∃ m : MediaOut,
            exec (.messageBegin p) s
                = .next ((s.modChan c fun ch =>
                    { ch with
                      uf :=
                        { ch.uf with
                          transfer := some ⟨p, m.first, m.primaries.length⟩
                          continued := false } }).modPort p fun x =>
                    { x with
                      sent := [0xA7]
                      transfer := some ⟨.media m true, frame 0x81 m.body, 1⟩
                      lastServed := some c })
              ∧ m.chan = c ∧ m.first = uf.sendPtr ∧ m.dataFlag = ((s.chan c).mode == .data)
              ∧ m.continued = uf.continued
              ∧ m.primaries = ((uf.ring.filter (unsent c)).take (s.chan c).settings.packet).map (·.samples)
              ∧ m.primaries.length = (s.chan c).settings.packet
              ∧ (∀ e, (uf.ring.filter (unsent c)).head? = some e → m.stamp = e.stamp)
              ∧ m.redundant.length ≤ limit
              ∧ (∀ (k : Nat) (b : List Sample), m.redundant[k]? = some b →
                  ∃ e ∈ uf.ring, e.seq = copied k ∧ e.samples = b)
              ∧ (m.redundant.length < limit → ∀ e ∈ uf.ring, e.seq ≠ copied m.redundant.length))
      ∧ (s.attention p = true ↔ (s.port p).queue ≠ [] ∨ (∃ c, due c) ∨ (s.port p).transfer.isSome = true)

/-- The end of a transfer (R170, R176, R86, R194): the bytes of the message that are left have been sent, down to the
last check byte, as the model's choice has it (log 40). A control entry leaves the queue, a reply lowers the outstanding
count, the reply to an accepted RESTART makes the restart due; a MEDIA_OUT moves its channel's send pointer past its
primaries when that is forward, unless the channel has returned to IDLE since it began. An overflow mark that finds room
is settled, and one that finds none stays (R179). -/
def Obligations.TransferEnds : Prop :=
  ∀ (s : State) (p : Port) (bytes : List Byte) (n : Nat),
    ((s.port p).transfer = none → exec (.transferComplete p) s = .next s)
      ∧ (∀ (e : Entry) (rest : List Entry), (s.port p).transfer = some ⟨.control, bytes, n⟩ →
          (s.port p).queue = e :: rest →
          let outstanding : Nat :=
            match e with
            | .reply _ => (s.port p).outstanding - 1
            | .notice _ => (s.port p).outstanding
          let restart : Restart :=
            match e with
            | .reply r => if r.restart then .due else s.restart
            | .notice _ => s.restart
          let room : Prop := rest.countP Entry.isNotice < 28
          ((s.port p).overflowMark = false ∨ ¬room →
              exec (.transferComplete p) s
                = .next
                    { s.modPort p fun x =>
                        { x with
                          queue := rest, transfer := none, outstanding := outstanding, sent := bytes.drop n } with
                      restart := restart })
            ∧ ((s.port p).overflowMark = true → room →
                exec (.transferComplete p) s
                  = .next
                      { s.modPort p fun x =>
                          { x with
                            queue := rest ++ [.notice ⟨.overflow p x.dropped, none, none, s.timebase⟩]
                            transfer := none
                            sent := bytes.drop n
                            outstanding := outstanding
                            overflowMark := false
                            dropped := 0 } with
                        restart := restart }))
      ∧ (∀ m : MediaOut, (s.port p).transfer = some ⟨.media m false, bytes, n⟩ →
          exec (.transferComplete p) s
            = .next (s.modPort p fun x => { x with transfer := none, sent := bytes.drop n }))
      ∧ ∀ m : MediaOut, (s.port p).transfer = some ⟨.media m true, bytes, n⟩ →
          let past := m.first + BitVec.ofNat 16 m.primaries.length
          exec (.transferComplete p) s
            = .next ((s.modChan m.chan fun ch =>
                { ch with
                  uf :=
                    { ch.uf with
                      sendPtr := if 0 < (past - ch.uf.sendPtr).toInt then past else ch.uf.sendPtr
                      transfer := none } }).modPort p fun x => { x with transfer := none, sent := bytes.drop n })

/-- A DOWN (R174, R8, R10, R141): at the silence end an UP port goes DOWN with its queue, transfer, mark and counts
cleared and a restart pending for it lost; each channel in RUN it holds parks, and its offer goes to the fallback port
or to the offer set; the ring records it owns set owner lost. Before the silence end nothing changes. -/
def Obligations.SilenceExpiryParks : Prop :=
  ∀ (s : State) (p : Port),
    ((s.port p).up = false ∨ reached s.timebase (s.port p).silenceEnd = false →
        exec (.silenceTimerExpiry p) s = .next s)
      ∧ ((s.port p).up = true → reached s.timebase (s.port p).silenceEnd = true →
          let parks (c : Chan) : Bool := (s.chan c).state == .run && (s.chan c).holder == some p
          let cut (c : Chan) : Bool :=
            match (s.port p).transfer with
            | some ⟨.media m true, _, _⟩ => m.chan == c
            | _ => false
          let wants (q : Port) (c : Chan) : Bool :=
            match (s.chan c).parkFallback.or (s.chan c).fallback with
            | some f =>
              if (s.port f).up && f != p then q == f
              else (s.loopSet (s.chan c).loop).offerSet.get q && (s.port q).up && q != p
            | none => (s.loopSet (s.chan c).loop).offerSet.get q && (s.port q).up && q != p
          let offer (c : Chan) : Notice :=
            ⟨.takeoverOffer (s.chan c).lead (s.chan c).mode .portDown p
                (msLeft s.timebase (s.timebase + msSpan (s.chan c).settings.parkTime)),
              some (s.chan c).loop, some c, s.timebase⟩
          exec (.silenceTimerExpiry p) s
            = .next
                { s with
                  restart := if s.restart = .pending p then .none else s.restart
                  chans :=
                    let after (c : Chan) : Channel :=
                      let ch := s.chan c
                      let x : Channel := if cut c then { ch with uf := { ch.uf with transfer := none } } else ch
                      if parks c then
                        { x with
                          state := .parked
                          holder := none
                          oldHolder := p
                          parkCause := .portDown
                          parkDeadline := s.timebase + msSpan ch.settings.parkTime
                          stats := { x.stats with parks := bump x.stats.parks } }
                      else x
                    ⟨after .c0, after .c1, after .c2, after .c3⟩
                  loops :=
                    let after (l : Loop) : LoopState :=
                      { s.loop l with
                        ring := (s.loop l).ring.map fun r => { r with ownerLost := r.ownerLost || r.owner == p } }
                    ⟨after .a, after .b⟩
                  ports :=
                    let after (q : Port) : PortState :=
                      if q = p then
                        { s.port p with
                          up := false, transfer := none, queue := [], overflowMark := false, dropped := 0,
                          outstanding := 0, lastServed := none }
                      else
                        (Chan.all.filter fun c => parks c && wants q c).foldl
                          (fun x c => x.offer s.timebase q (s.live.port.get q).noticeMask (offer c)) (s.port q)
                    ⟨after .p0, after .p1, after .p2⟩ })

/-! ### Channels and holders (R4 to R23) -/

/-- An accepted OPEN (R4, R5, R38, R61, R79): the lowest IDLE channel is set up, its history ring is drawn from its
reserve first and then from the shared part, and when it becomes lead the dial buffer is emptied and, with the take-dial
flag, handed over and the auto dial tone stopped. Nothing else changes. That the overflow flag is handed over as clear
when no digits are is the model's choice (log 14), and so is a reply without the bases of the stream (log 41). The
refusals of OPEN in the order of R4, each leaving everything but the reply as it was: BAD_PARAM, NO_CHANNEL, LOOP_BUSY,
NO_POOL. -/
def Obligations.OpenAnswered : Prop :=
  (∀ (s : State) (p : Port) (tag : Byte) (l : Loop) (m : Mode) (k : Nat) (f : Option Port) (seq : Half) (stamp : Word)
     (drift : Half) (take : Bool) (c : Chan),
     s.ready p → PoolAccounts s → FeedAgrees (s.loop l) → 1 ≤ k → k ≤ 4 → s.lowestIdle = some c →
     (s.attached l).length < 2 →
     let ring := s.live.template.history
     let own := s.reserves.get c
     ring ≤ own + s.pool.shared →
     let lead := (s.attached l).isEmpty
     let digits := if lead && take then (s.loop l).dial else []
     let lost := if lead && take then (s.loop l).dialOverflow else false
     let hint := clampInt (-1000) 1000 drift.toInt
     let first := s.nextSample + BitVec.ofNat 32 ((80 - (s.loop l).block.length) % 80)
     exec (.openReq p tag
         ([Loop.byte l, m.byte, byteOf k, portOrNoneByte f] ++ bytes16 seq ++ bytes32 stamp ++ bytes16 drift
           ++ [flagByte take])) s
       = .next (((({ s with
           pool :=
             { held := s.pool.held.put c ring
               free := s.pool.free.put c (own - ring)
               shared := s.pool.shared - (ring - own) } } : State).modChan c fun ch =>
           { ch with
             state := .run
             holder := some p
             fallback := f
             parkFallback := none
             loop := l
             lead := lead
             voice := .voiced
             mode := m
             notices := []
             settings := { s.live.template with packet := k }
             stats := .zero
             pe := { Playout.cleared with afterOpen := true }
             tru := { Timing.cleared with est := hint, target := s.live.template.depthStart }
             uf :=
               { ringSize := ring, ring := [], nextSeq := seq, stampOffset := stamp - first,
                 firstBlock := some first, sendPtr := seq, transfer := none, continued := false }
             det := .fresh (m == .voice) }).modLoop l fun x =>
           if lead then
             let y : LoopState := { x with dial := [], dialOverflow := false }
             if take && x.autoTone then { y with player := none, autoTone := false } else y
           else x).replied p
             (acceptanceOf tag (hint != drift.toInt)
               ([Chan.byte c, flagByte lead, flagByte lost, byteOf digits.length] ++ digits))))
    ∧ (∀ (s : State) (p : Port) (tag l m k f s1 s0 b3 b2 b1 b0 d1 d0 t : Byte), s.ready p → PoolAccounts s →
         let refused (code : ReplyCode) : Prop :=
           exec (.openReq p tag [l, m, k, f, s1, s0, b3, b2, b1, b0, d1, d0, t]) s
             = .next (s.replied p (refusal tag code))
         let bad : Prop :=
           2 ≤ l.toNat ∨ 2 ≤ m.toNat ∨ k.toNat = 0 ∨ 5 ≤ k.toNat ∨ (3 ≤ f.toNat ∧ f ≠ 0xFF) ∨ 2 ≤ t.toNat
         (bad → refused .badParam)
           ∧ (¬bad → (∀ c, (s.chan c).state ≠ .idle) → refused .noChannel)
           ∧ ∀ (loop : Loop) (c : Chan), ¬bad → l = Loop.byte loop → s.lowestIdle = some c →
               (2 ≤ (s.attached loop).length → refused .loopBusy)
                 ∧ ((s.attached loop).length < 2 → s.reserves.get c + s.pool.shared < s.live.template.history →
                     refused .noPool))

/-- An accepted CLAIM (R13, R24, R70, R89): the PARKED channel runs with the requester as holder, the reply carries the
channel summary, and the pending notices follow it, oldest first. Nothing else changes. The refusals of CLAIM (R12):
BAD_PARAM for a channel number outside 0..3, WRONG_STATE for the holder of a channel in RUN and for a channel in IDLE or
DRAINING, HELD for any other port. -/
def Obligations.ClaimAnswered : Prop :=
  (∀ (s : State) (p : Port) (tag : Byte) (c : Chan), s.ready p → (s.chan c).state = .parked →
     let ch := s.chan c
     let backlog := ch.uf.ring.countP fun e => decide (0 ≤ seqDist ch.uf.sendPtr e.seq)
     let summary : List Byte :=
       [Loop.byte ch.loop, ch.mode.byte, flagByte ch.lead, ch.voice.byte] ++ bytes16 ch.uf.nextSeq
         ++ bytes32 ch.uf.stampOffset ++ [ch.pe.playEpoch] ++ bytes16 ch.pe.nextPlay
         ++ bytes16 (BitVec.ofInt 16 ch.tru.est) ++ [byteOf backlog, byteOf ch.notices.length]
     exec (.claimReq p tag [Chan.byte c]) s
       = .next (((s.modChan c fun ch =>
           { ch with
             state := .run
             holder := some p
             parkFallback := none
             notices := []
             tru := { ch.tru with window := none, fPrev := none }
             uf := { ch.uf with continued := true }
             stats := { ch.stats with takeovers := bump ch.stats.takeovers } }).replied p
           (acceptance tag summary)).offerList p ch.notices))
    ∧ (∀ (s : State) (p : Port) (tag b : Byte), s.ready p →
         let refused (code : ReplyCode) : Prop :=
           exec (.claimReq p tag [b]) s = .next (s.replied p (refusal tag code))
         (4 ≤ b.toNat → refused .badParam)
           ∧ ∀ c : Chan, b = Chan.byte c →
               ((s.chan c).state = .run → (s.chan c).holder = some p → refused .wrongState)
                 ∧ ((s.chan c).state = .run → (s.chan c).holder ≠ some p → refused .held)
                 ∧ ((s.chan c).state = .idle ∨ (s.chan c).state = .draining → refused .wrongState))

/-- HANDOFF from the holder (R9, R8, R10): the channel parks with the target as park fallback, the reply OK is queued on
the requester's port, the offer on the target's port alone, with the whole park time left. Refused in DRAINING
(WRONG_STATE), to no port or the requester itself (BAD_PARAM), and to a port in DOWN (WRONG_STATE). -/
def Obligations.HandoffParksChannel : Prop :=
  ∀ (s : State) (p : Port) (tag b : Byte) (c : Chan), s.ready p → (s.chan c).heldBy p = true →
    let refused (code : ReplyCode) : Prop :=
      exec (.handoffReq p tag [Chan.byte c, b]) s = .next (s.replied p (refusal tag code))
    ((s.chan c).state = .draining → refused .wrongState)
      ∧ ((s.chan c).state = .run → 3 ≤ b.toNat ∨ b = Port.byte p → refused .badParam)
      ∧ ∀ target : Port, b = Port.byte target → target ≠ p → (s.chan c).state = .run →
          ((s.port target).up = false → refused .wrongState)
            ∧ ((s.port target).up = true → ChannelInRange (s.chan c).settings →
                exec (.handoffReq p tag [Chan.byte c, b]) s
                  = .next (((s.modChan c fun ch =>
                      { ch with
                        state := .parked
                        holder := none
                        oldHolder := p
                        parkCause := .handoff
                        parkFallback := some target
                        parkDeadline := s.timebase + msSpan ch.settings.parkTime
                        stats := { ch.stats with parks := bump ch.stats.parks } }).replied p
                      (acceptance tag [])).offer target
                      ⟨.takeoverOffer (s.chan c).lead (s.chan c).mode .handoff p (s.chan c).settings.parkTime,
                        some (s.chan c).loop, some c, s.timebase⟩))

/-- The return of a channel to IDLE for any cause but a reset (R6, R16, R32, R38, R61, R79, R94): its blocks go back to
its reserve and the rest to the shared part, its state is cleared with its statistics kept, a lead passes to the loop's
other channel, and a MEDIA_OUT in transfer for it completes without moving its send pointer. That no first block time is
held afterwards, that PE's epochs, sequence numbers, play state and missing count take their reset values, that nothing
of a closed measurement window is held, and that the samples it gave to the loop block in progress stand under the voice
flag it had, are the model's choice (logs 6, 42, 44, 19). -/
def Obligations.ReturnToIdle : Prop :=
  ∀ (s : State) (c : Chan), PoolAccounts s → (s.chan c).state ≠ .idle →
    let ch := s.chan c
    let own := s.reserves.get c
    let passes (d : Chan) : Bool := d != c && ch.lead && (s.chan d).attachedTo ch.loop
    LoopLed s ch.loop →
    s.toIdle c
      = { s with
          pool :=
            { held := s.pool.held.put c 0
              free := s.pool.free.put c own
              shared := s.pool.shared + (s.pool.held.get c - own) }
          chans :=
            let after (d : Chan) : Channel :=
              if d = c then
                { ch with
                  state := .idle
                  holder := none
                  fallback := none
                  parkFallback := none
                  lead := false
                  mode := .voice
                  notices := []
                  pe := .cleared
                  tru := .cleared
                  uf := .cleared
                  det := .fresh false }
              else { s.chan d with lead := (s.chan d).lead || passes d }
            ⟨after .c0, after .c1, after .c2, after .c3⟩
          loops :=
            let left (x : MixSample) : MixSample :=
              { x with outs := x.outs.put c ((x.outs.get c).map fun o => { o with left := o.left.or (some ch.voice) }) }
            let after (l : Loop) : LoopState :=
              if l = ch.loop then
                { s.loop l with
                  block := (s.loop l).block.map left
                  closed := (s.loop l).closed.map fun b => { b with mix := b.mix.map left } }
              else s.loop l
            ⟨after .a, after .b⟩
          ports :=
            let after (p : Port) : PortState :=
              match (s.port p).transfer with
              | some ⟨.media m current, bytes, n⟩ =>
                { s.port p with transfer := some ⟨.media m (current && m.chan != c), bytes, n⟩ }
              | _ => s.port p
            ⟨after .p0, after .p1, after .p2⟩ }

/-- CLOSE from the holder (R16, R17): without drain the channel returns to IDLE from RUN and DRAINING; with drain it
returns at once, with DRAIN_DONE behind the reply, when the loop is on-hook, the queue is empty or drain_limit is 0, the
first of these giving the reason, and otherwise drains, playing at once from the oldest entry when it was PRIMING; with
drain in DRAINING it is refused WRONG_STATE, and a drain flag other than 0 or 1 is refused BAD_PARAM from any port. -/
def Obligations.CloseFreesOrDrains : Prop :=
  ∀ (s : State) (p : Port) (tag : Byte) (c : Chan), s.ready p →
    (∀ b d : Byte, 2 ≤ d.toNat → exec (.closeReq p tag [b, d]) s = .next (s.replied p (refusal tag .badParam)))
      ∧ ((s.chan c).heldBy p = true →
          let ch := s.chan c
          let close (drain : Byte) : Host.Outcome State Fault Refusal := exec (.closeReq p tag [Chan.byte c, drain]) s
          let atOnce (reason : DrainReason) : Prop :=
            close 1 = .next (((s.replied p (acceptance tag [])).toIdle c).offer p
              ⟨.drainDone reason, some ch.loop, some c, s.timebase⟩)
          close 0 = .next ((s.toIdle c).replied p (acceptance tag []))
            ∧ (ch.state = .draining → close 1 = .next (s.replied p (refusal tag .wrongState)))
            ∧ (ch.state = .run → (s.loop ch.loop).hook = .onhook → atOnce .hangup)
            ∧ (ch.state = .run → (s.loop ch.loop).hook ≠ .onhook → ch.pe.queue = [] → atOnce .empty)
            ∧ (ch.state = .run → (s.loop ch.loop).hook ≠ .onhook → ch.pe.queue ≠ [] → ch.settings.drainLimit = 0 →
                atOnce .limit)
            ∧ ∀ (e : QEntry) (rest : List QEntry), ch.state = .run → (s.loop ch.loop).hook ≠ .onhook →
                ch.pe.queue = e :: rest → ch.settings.drainLimit ≠ 0 →
                close 1 = .next ((s.modChan c fun ch =>
                  let x : Channel :=
                    { ch with state := .draining, drainDeadline := s.timebase + msSpan ch.settings.drainLimit }
                  match ch.pe.playState with
                  | .playing => x
                  | .priming =>
                    { x with
                      pe :=
                        { ch.pe with
                          playEpoch := e.epoch, nextPlay := e.seq, playState := .playing, afterOpen := false,
                          freshRun := true }
                      tru :=
                        if e.epoch = ch.pe.playEpoch then ch.tru
                        else { ch.tru with window := none, fPrev := none } }).replied p (acceptance tag [])))

/-- A park that expires (R14, R15): PARK_EXPIRED goes to the UP ports of the offer set, the pending notices are counted
as dropped, the channel returns to IDLE, and a lead on an off-hook ACTIVE loop gets the park-lost program, with a denial
pending under deny_on_loss, or without a program the denial at once. Otherwise nothing changes. That PARK_EXPIRED comes
before the TONE_DONE of a replaced tone, and that the park-lost tone's requester holds P0, are the model's choices (logs
30, 38). A drain deadline (R18): a DRAINING channel whose deadline is reached returns to IDLE and DRAIN_DONE with reason
LIMIT goes to its recorded holder. Otherwise nothing changes. -/
def Obligations.DeadlinesEndChannels : Prop :=
  (∀ (s : State) (c : Chan),
     let ch := s.chan c
     let set := s.loopSet ch.loop
     ((s.chan c).state ≠ .parked ∨ reached s.timebase ch.parkDeadline = false → exec (.parkExpiry c) s = .next s)
       ∧ (ch.state = .parked → reached s.timebase ch.parkDeadline = true →
           let freed : State :=
             ((s.offerEach (Port.all.filter fun p => set.offerSet.get p && (s.port p).up)
               ⟨.parkExpired ch.oldHolder, some ch.loop, some c, s.timebase⟩).modChan c fun ch =>
                 { ch with
                   notices := []
                   stats :=
                     { ch.stats with
                       pendingDropped := bumpBy ch.stats.pendingDropped ch.notices.length } }).toIdle c
           let lost : Prop :=
             ch.lead = true ∧ (s.loop ch.loop).hook = .offhook ∧ (s.loop ch.loop).feed = .active
           (¬lost → exec (.parkExpiry c) s = .next freed)
             ∧ (lost → ∀ n, set.parkLostProgram = some n → (s.live.programs.get n).segments ≠ [] →
                 exec (.parkExpiry c) s
                   = .next ((freed.startTone ch.loop .parkLost .p0 n).modLoop ch.loop fun x =>
                       { x with lostDenial := if set.denyOnLoss then some set.denyTime else none }))
             ∧ (lost → (∀ n, set.parkLostProgram = some n → (s.live.programs.get n).segments = []) →
                 exec (.parkExpiry c) s
                   = .next (if set.denyOnLoss then
                       freed.modLoop ch.loop fun x =>
                         { x with
                           feed := .denied, denyEnd := s.timebase + msSpan set.denyTime, pulses := 0,
                           dtmf := .quiet }
                     else freed))))
    ∧ (∀ (s : State) (c : Chan),
         ((s.chan c).state ≠ .draining ∨ reached s.timebase (s.chan c).drainDeadline = false →
             exec (.drainDeadline c) s = .next s)
           ∧ ∀ p, (s.chan c).state = .draining → reached s.timebase (s.chan c).drainDeadline = true →
               (s.chan c).holder = some p →
               exec (.drainDeadline c) s
                 = .next ((s.toIdle c).offer p ⟨.drainDone .limit, some (s.chan c).loop, some c, s.timebase⟩))

/-- CONNECT and SET_FALLBACK from the holder (R19, R7): the voice flag, or in RUN the standing fallback, is stored and
nothing else changes; SET_FALLBACK is refused WRONG_STATE in DRAINING; other values are refused BAD_PARAM. STATS (R22,
R23, R200): without the clear flag any port is given the counters and the channel's fields as they stand, and nothing
changes; with it the holder is given the same and every counter becomes 0; a channel number or a flag out of range is
refused BAD_PARAM. In IDLE the fields are 0 but for the holder, which is none. That no field carries a depth setting is
the model's choice (log 35). MODE from the holder (R102, R101, R103): the mode already in force changes nothing; a
switch sets the mode, clears the detector's records, makes it active in VOICE and inactive in DATA, and restarts the
windows; the reply carries the mode now in force, and no notice is raised. Another mode byte is refused BAD_PARAM. -/
def Obligations.HolderRequestsAnswered : Prop :=
  (∀ (s : State) (p : Port) (tag : Byte) (c : Chan), s.ready p → (s.chan c).heldBy p = true →
     (∀ v : VoiceFlag, exec (.connectReq p tag [Chan.byte c, v.byte]) s
         = .next ((s.modChan c fun ch => { ch with voice := v }).replied p (acceptance tag [])))
       ∧ (∀ b : Byte, 2 ≤ b.toNat →
           exec (.connectReq p tag [Chan.byte c, b]) s = .next (s.replied p (refusal tag .badParam)))
       ∧ ((s.chan c).state = .run →
           (∀ f : Option Port, exec (.setFallbackReq p tag [Chan.byte c, portOrNoneByte f]) s
               = .next ((s.modChan c fun ch => { ch with fallback := f }).replied p (acceptance tag [])))
             ∧ ∀ b : Byte, 3 ≤ b.toNat → b ≠ 0xFF →
                 exec (.setFallbackReq p tag [Chan.byte c, b]) s = .next (s.replied p (refusal tag .badParam)))
       ∧ ((s.chan c).state = .draining → ∀ b : Byte,
           exec (.setFallbackReq p tag [Chan.byte c, b]) s = .next (s.replied p (refusal tag .wrongState))))
    ∧ (∀ (s : State) (p : Port) (tag : Byte) (c : Chan), s.ready p →
         let ch := s.chan c
         let k := ch.stats
         let fields : List Byte :=
           if ch.state = .idle then [0, 0xFF, 0, 0, 0, 0, 0, 0, 0, 0]
           else
             [ch.state.byte, portOrNoneByte ch.holderOf, ch.mode.byte, ch.voice.byte, byteOf ch.pe.queue.length]
               ++ nat16 (s.pool.held.get c) ++ bytes16 (BitVec.ofInt 16 ch.tru.est) ++ [byteOf ch.tru.target]
         let results : List Byte :=
           bytes32 k.late ++ bytes32 k.duplicate ++ bytes32 k.overrun ++ bytes32 k.poolFull ++ bytes32 k.resync
             ++ bytes32 k.epochDrop ++ bytes32 k.recovered ++ bytes32 k.concealed ++ bytes32 k.silentFill
             ++ bytes32 k.dataGap ++ bytes32 k.windowReject ++ bytes32 k.slipDrop ++ bytes32 k.slipRepeat
             ++ bytes32 k.corrInsert ++ bytes32 k.corrSkip ++ bytes32 k.dataRepeat ++ bytes32 k.dataSkip
             ++ bytes32 k.historyLost ++ bytes32 k.parks ++ bytes32 k.takeovers ++ bytes32 k.pendingDropped ++ fields
         exec (.statsReq p tag [Chan.byte c, 0]) s = .next (s.replied p (acceptance tag results))
           ∧ (ch.heldBy p = true →
               exec (.statsReq p tag [Chan.byte c, 1]) s
                 = .next ((s.modChan c fun ch => { ch with stats := .zero }).replied p (acceptance tag results)))
           ∧ ∀ b d : Byte, 4 ≤ b.toNat ∨ 2 ≤ d.toNat →
               exec (.statsReq p tag [b, d]) s = .next (s.replied p (refusal tag .badParam)))
    ∧ (∀ (s : State) (p : Port) (tag : Byte) (c : Chan), s.ready p → (s.chan c).heldBy p = true →
         (∀ m : Mode, (s.chan c).mode = m →
             exec (.modeReq p tag [Chan.byte c, m.byte]) s = .next (s.replied p (acceptance tag [m.byte])))
           ∧ (∀ m : Mode, (s.chan c).mode ≠ m →
               exec (.modeReq p tag [Chan.byte c, m.byte]) s
                 = .next ((s.modChan c fun ch =>
                     { ch with
                       mode := m
                       det := ⟨m == .voice, ⟨none, 0, false⟩, ⟨none, 0, false⟩⟩
                       tru := { ch.tru with window := none, fPrev := none } }).replied p (acceptance tag [m.byte])))
           ∧ ∀ b : Byte, 2 ≤ b.toNat →
               exec (.modeReq p tag [Chan.byte c, b]) s = .next (s.replied p (refusal tag .badParam)))

/-- CHANNEL_SET from the holder in RUN, but for depth_max and depth_min (R20, R187): the value stored under each key,
clamped as its range requires, and the reply with it. Nothing else changes, but for TRU's target under depth_start
before the first window close. CHANNEL_SET of depth_min and depth_max from the holder in RUN (R20, R21, R71): the other
depths are brought within the new bounds, TRU's target as well, and a lowered depth_max discards the entries it leaves
beyond their epoch's anchor, counted in overrun and returned to the pool. In DRAINING every CHANNEL_SET is refused
WRONG_STATE. -/
def Obligations.ChannelSetAnswered : Prop :=
  (∀ (s : State) (p : Port) (tag v3 v2 v1 v0 : Byte) (c : Chan), s.ready p → (s.chan c).heldBy p = true →
     (s.chan c).state = .run → ChannelInRange (s.chan c).settings →
     let v := (word v3 v2 v1 v0).toNat
     let set := (s.chan c).settings
     let stores (key : Byte) (n : Nat) (f : ChannelSettings → ChannelSettings) (g : Timing → Timing) : Prop :=
       exec (.channelSetReq p tag [Chan.byte c, key, v3, v2, v1, v0]) s
         = .next ((s.modChan c fun ch => { ch with settings := f ch.settings, tru := g ch.tru }).replied p
             (acceptanceOf tag (n != v) (bytes32 (BitVec.ofNat 32 n))))
     let refused (key : Byte) (code : ReplyCode) : Prop :=
       exec (.channelSetReq p tag [Chan.byte c, key, v3, v2, v1, v0]) s = .next (s.replied p (refusal tag code))
     let start := clampNat set.depthMin set.depthMax v
     let span := if v < 24000 then 16000 else if v < 48000 then 32000 else if v < 96000 then 64000 else 128000
     stores 0x62 start (fun x => { x with depthStart := start })
         (fun t => if t.closedSinceOpen then t else { t with target := start })
       ∧ stores 0x63 (min 800 v) (fun x => { x with guard := min 800 v }) id
       ∧ stores 0x64 span (fun x => { x with window := span }) id
       ∧ stores 0x65 (min 3 v) (fun x => { x with smoothing := min 3 v }) id
       ∧ stores 0x66 (clampNat 2 set.depthMax v) (fun x => { x with dataDepth := clampNat 2 set.depthMax v }) id
       ∧ stores 0x67 (clampNat 1 8 v) (fun x => { x with dataSlack := clampNat 1 8 v }) id
       ∧ refused 0x68 .wrongState
       ∧ stores 0x69 (min 3 v) (fun x => { x with redundancy := min 3 v }) id
       ∧ stores 0x6A (clampNat 1 4 v) (fun x => { x with packet := clampNat 1 4 v }) id
       ∧ (v < 2 → stores 0x6B v (fun x => { x with autoData := v == 1 }) id)
       ∧ (v < 2 → stores 0x6C v (fun x => { x with suppressDigits := v == 1 }) id)
       ∧ (2 ≤ v → refused 0x6B .badParam ∧ refused 0x6C .badParam)
       ∧ stores 0x6D (clampNat 100 10000 v) (fun x => { x with parkTime := clampNat 100 10000 v }) id
       ∧ stores 0x6E (min 5000 v) (fun x => { x with drainLimit := min 5000 v }) id
       ∧ ∀ key : Byte, key.toNat < 0x60 ∨ 0x6E < key.toNat → refused key .badParam)
    ∧ (∀ (s : State) (p : Port) (tag v3 v2 v1 v0 : Byte) (c : Chan), s.ready p → (s.chan c).heldBy p = true →
         PoolAccounts s →
         let v := (word v3 v2 v1 v0).toNat
         let ch := s.chan c
         let set := ch.settings
         let run (key : Byte) : Host.Outcome State Fault Refusal :=
           exec (.channelSetReq p tag [Chan.byte c, key, v3, v2, v1, v0]) s
         let moved (t : Timing) (new : ChannelSettings) : Nat :=
           if !t.closedSinceOpen && new.depthStart != set.depthStart then new.depthStart
           else clampNat new.depthMin new.depthMax t.target
         (ch.state = .draining → ∀ key, run key = .next (s.replied p (refusal tag .wrongState)))
           ∧ (ch.state = .run → ChannelInRange set →
               let low := clampNat 1 set.depthMax v
               let new : ChannelSettings :=
                 { set with depthMin := low, depthStart := clampNat low set.depthMax set.depthStart }
               run 0x60 = .next ((s.modChan c fun ch =>
                 { ch with settings := new, tru := { ch.tru with target := moved ch.tru new } }).replied p
                   (acceptanceOf tag (low != v) (bytes32 (BitVec.ofNat 32 low)))))
           ∧ (ch.state = .run → ChannelInRange set →
               let high := clampNat 2 64 v
               let low := min set.depthMin high
               let new : ChannelSettings :=
                 { set with
                   depthMax := high, depthMin := low, dataDepth := min set.dataDepth high,
                   depthStart := clampNat low high set.depthStart }
               let beyond (e : QEntry) : Bool :=
                 high < set.depthMax
                   && decide ((high : Int)
                       ≤ seqDist (if e.epoch = ch.pe.playEpoch then ch.pe.nextPlay else ch.pe.baseIn) e.seq)
               let n := ch.pe.queue.countP beyond
               let left := s.pool.held.get c - n
               run 0x61 = .next (({ s with
                   pool :=
                     { held := s.pool.held.put c left
                       free := s.pool.free.put c (s.reserves.get c - left)
                       shared :=
                         s.pool.shared + (s.pool.held.get c - s.reserves.get c) - (left - s.reserves.get c) } }.modChan c
                   fun ch =>
                     { ch with
                       settings := new
                       tru := { ch.tru with target := moved ch.tru new }
                       pe := { ch.pe with queue := ch.pe.queue.filter fun e => !beyond e }
                       stats := { ch.stats with overrun := bumpBy ch.stats.overrun n } }).replied p
                   (acceptanceOf tag (high != v) (bytes32 (BitVec.ofNat 32 high))))))

/-! ### Voice and data modes (R96 to R105) -/

/-- An interval judged by the data-tone detector (R96): present for the band its component lies in, both ends included,
when its level, purity and occupancy pass; absent otherwise. The timing of a data tone on the LOOP and on the PLAYED
path and its detection (R97, R98, R99, R105): an absent interval clears the run, a present one lengthens it or begins
another; the first test at tone_data_min × 8 sample times marks it reported and raises MODE_CHANGE, and under auto_data
the channel switches to DATA. An inactive detector judges nothing. -/
def Obligations.DataTonesDetected : Prop :=
  (∀ (x : IntervalMeasure) (samples : List Sample), (∃ v ∈ samples, v ≠ 0#16) →
     let passes : Prop :=
       x.levelBelow ≤ 45000 ∧ 12000 ≤ x.restBelow ∧ 3 * samples.length ≤ 4 * x.occupancy
     (passes → 2050000 ≤ x.milliHz → x.milliHz ≤ 2150000 → judgeInterval (some x) samples = some .answer)
       ∧ (passes → 1050000 ≤ x.milliHz → x.milliHz ≤ 1150000 → judgeInterval (some x) samples = some .calling)
       ∧ (¬passes → judgeInterval (some x) samples = none)
       ∧ ((x.milliHz < 1050000 ∨ (1150000 < x.milliHz ∧ x.milliHz < 2050000) ∨ 2150000 < x.milliHz) →
           judgeInterval (some x) samples = none)
       ∧ judgeInterval none samples = none)
    ∧ (∀ (s : State) (c : Chan) (played : Bool) (band : Option Band) (length : Nat) (time : Word),
         let judged : State :=
           if played then s.playedInterval c band length time else s.loopInterval c band length time
         let ch := s.chan c
         let r := if played then ch.det.playedPath else ch.det.loopPath
         let put (x : PathRecord) (d : Detector) : Detector :=
           if played then { d with playedPath := x } else { d with loopPath := x }
         let next : PathRecord :=
           match band with
           | none => ⟨none, 0, false⟩
           | some b => if r.band = some b then ⟨some b, r.length + length, r.reported⟩ else ⟨some b, length, false⟩
         let detects : Prop :=
           next.band ≠ none ∧ next.reported = false ∧ s.live.global.toneDataMin * 8 ≤ next.length
         let notice (mode : Mode) (switched : Bool) : Notice :=
           ⟨.modeChange mode switched (if played then .played else .loop) next.band, some ch.loop, some c, time⟩
         (ch.det.active = false → judged = s)
           ∧ (ch.det.active = true → ¬detects → judged = s.modChan c fun ch => { ch with det := put next ch.det })
           ∧ (ch.det.active = true → detects → ch.settings.autoData = false →
               judged
                 = (s.modChan c fun ch => { ch with det := put { next with reported := true } ch.det }).routeChannel c
                     (notice ch.mode false))
           ∧ (ch.det.active = true → detects → ch.settings.autoData = true →
               judged
                 = (s.modChan c fun ch =>
                     { ch with
                       mode := .data
                       det := ⟨false, ⟨none, 0, false⟩, ⟨none, 0, false⟩⟩
                       tru := { ch.tru with window := none, fPrev := none } }).routeChannel c (notice .data true)))

/-! ### The block pool (R29 to R31) -/

/-- A grant (R29): from the channel's reserve while it holds less than it; otherwise from the shared part; and with none
left there it fails. A return (R31): the held count falls by 1, and the block goes to the reserve when the count is then
below it and to the shared part otherwise. A grant followed by a return leaves the pool as it was (R28). -/
def Obligations.PoolGrantsAndReturns : Prop :=
  (∀ (res : PerChan Nat) (c : Chan) (b : Pool),
     let held := b.held.put c (b.held.get c + 1)
     (b.held.get c < res.get c →
         b.grant res c = some { b with free := b.free.put c (b.free.get c - 1), held := held })
       ∧ (res.get c ≤ b.held.get c → 0 < b.shared →
           b.grant res c = some { b with shared := b.shared - 1, held := held })
       ∧ (res.get c ≤ b.held.get c → b.shared = 0 → b.grant res c = none))
    ∧ (∀ (res : PerChan Nat) (c : Chan) (b : Pool),
         let held := b.held.put c (b.held.get c - 1)
         (b.held.get c - 1 < res.get c → b.giveBack res c = { b with held := held, free := b.free.put c (b.free.get c + 1) })
           ∧ (res.get c ≤ b.held.get c - 1 → b.giveBack res c = { b with held := held, shared := b.shared + 1 })
           ∧ ∀ b', b.free.get c = res.get c - b.held.get c → b.grant res c = some b' → b'.giveBack res c = b)

/-! ### Downlink playout (R40 to R60) -/

/-- A MEDIA_IN on an UP port (R40, R41, R42, R100, R171): accepted from the holder of a channel in RUN, where its blocks
are classified one after another, the primaries upward from s with stamps 80 apart and the RESYNC flag on the first,
then the redundant ones downward from s - 1 without a stamp, after a DATA hint has switched a VOICE channel with
auto_data on; discarded without a count while DRAINING; discarded and counted in not_holder_media in every other case. A
body that does not match its counts is a bad frame. -/
def Obligations.MediaRouted : Prop :=
  ∀ (s : State) (p : Port) (body : List Byte),
    (parseMedia body = none →
        exec (.mediaIn p body) s = .next (s.modPort p fun x => { x with badFrames := bump x.badFrames, receiver := .hunt }))
      ∧ ∀ m : MediaMsg, parseMedia body = some m → (s.port p).up = true →
          let counted : Host.Outcome State Fault Refusal :=
            .next ((s.heard p).modPort p fun x => { x with notHolderMedia := bump x.notHolderMedia })
          (4 ≤ m.chan.toNat → exec (.mediaIn p body) s = counted)
            ∧ ∀ c : Chan, m.chan = Chan.byte c →
                let ch := s.chan c
                let h := s.heard p
                let primaries : List Arrival := m.primaries.mapIdx fun k b =>
                  ⟨m.first + BitVec.ofNat 16 k, b, some (m.stamp + BitVec.ofNat 32 (80 * k)), m.resync && k == 0⟩
                let redundant : List Arrival := m.redundant.mapIdx fun k b =>
                  ⟨m.first - 1 - BitVec.ofNat 16 k, b, none, false⟩
                let blocks (t : State) : State := t.modChanPool c fun x =>
                  (primaries ++ redundant).foldl (classify s.reserves c s.timebase) x
                let heeds : Prop := m.dataHint = true ∧ ch.mode = .voice ∧ ch.settings.autoData = true
                (ch.state = .idle ∨ ch.state = .parked → exec (.mediaIn p body) s = counted)
                  ∧ (ch.state = .draining → exec (.mediaIn p body) s = .next h)
                  ∧ (ch.state = .run → ch.holder ≠ some p → exec (.mediaIn p body) s = counted)
                  ∧ (ch.state = .run → ch.holder = some p → ¬heeds → exec (.mediaIn p body) s = .next (blocks h))
                  ∧ (ch.state = .run → ch.holder = some p → heeds →
                      exec (.mediaIn p body) s
                        = .next (blocks ((h.modChan c fun ch =>
                            { ch with
                              mode := .data
                              det := ⟨false, ⟨none, 0, false⟩, ⟨none, 0, false⟩⟩
                              tru := { ch.tru with window := none, fPrev := none } }).offer p
                            ⟨.modeChange .data true .far none, some ch.loop, some c, s.timebase⟩)))

/-- The classification of a block of an anchored channel by its distance from the anchor (R43, R44, R46, R47): resync,
late, duplicate, overrun in the playing epoch or in a newer one, in window. A primary that is not late or a duplicate is
handed to TRU after that (R49). A channel not yet anchored takes the block as its anchor. An entry made, or refused by
the pool (R47). The storing of a block (R47, R48, R49, R30): with a block granted it is queued under the arrival epoch
with its peak, and a redundant one counts in recovered; with none it is discarded and counts in pool_full; a primary is
handed to TRU in both cases. A resync (R45): with two epochs queued the older one is dropped and counted, an arrival
epoch left alone becomes the playing one, the next epoch begins at the block, the block is stored, the resync is counted
and the windows restart. -/
def Obligations.ArrivalsHandled : Prop :=
  (∀ (res : PerChan Nat) (c : Chan) (now : Word) (ch : Channel) (b : Pool) (a : Arrival),
     let pe := ch.pe
     let playing : Prop := pe.playEpoch = pe.epochIn
     let anchor := if pe.playEpoch = pe.epochIn then pe.nextPlay else pe.baseIn
     let d := (a.seq - anchor).toInt
     let max := (ch.settings.depthMax : Int)
     let queued : Prop := ∃ e ∈ pe.queue, e.epoch = pe.epochIn ∧ e.seq = a.seq
     let result := classify res c now (ch, b) a
     let handed (x : Channel × Pool) : Channel × Pool :=
       match a.stamp with
       | some stamp => (x.1.handToTru stamp now, x.2)
       | none => x
     (pe.anchored = false →
         result = handed (storeBlock res c a.seq a.samples
           ({ ch with pe := { pe with nextPlay := a.seq, baseIn := a.seq, anchored := true } }, b)).1)
       ∧ (pe.anchored = true → 1024 ≤ d ∨ d ≤ -1024 ∨ a.resync = true →
           result = handed (resync res c a.seq a.samples (ch, b)))
       ∧ (pe.anchored = true → -1024 < d → d < 0 → a.resync = false →
           result = ({ ch with stats := { ch.stats with late := bump ch.stats.late } }, b))
       ∧ (pe.anchored = true → 0 ≤ d → d < 1024 → a.resync = false → queued →
           result = ({ ch with stats := { ch.stats with duplicate := bump ch.stats.duplicate } }, b))
       ∧ (pe.anchored = true → max ≤ d → 0 ≤ d → d < 1024 → a.resync = false → ¬queued → ¬playing →
           result = handed ({ ch with stats := { ch.stats with overrun := bump ch.stats.overrun } }, b))
       ∧ (pe.anchored = true → max ≤ d → 0 ≤ d → d < 1024 → a.resync = false → ¬queued → playing →
           let gone (e : QEntry) : Bool :=
             e.epoch == pe.playEpoch && decide ((e.seq - pe.nextPlay).toInt < d - max + 1)
           let n := pe.queue.countP gone
           result = storeArrival res c now a
             ({ ch with
                 pe :=
                   { pe with
                     nextPlay := a.seq - BitVec.ofNat 16 ch.settings.depthMax + 1
                     queue := pe.queue.filter fun e => !gone e }
                 stats := { ch.stats with overrun := bumpBy ch.stats.overrun n } }, b.giveBackN res c n))
       ∧ (pe.anchored = true → 0 ≤ d → d < max → d < 1024 → a.resync = false → ¬queued →
           result = storeArrival res c now a (ch, b)))
    ∧ (∀ (res : PerChan Nat) (c : Chan) (seq : Half) (samples : List Sample) (ch : Channel) (b : Pool),
         let pe := ch.pe
         let anchor := if pe.playEpoch = pe.epochIn then pe.nextPlay else pe.baseIn
         (∀ b', b.grant res c = some b' →
             storeBlock res c seq samples (ch, b)
               = (({ ch with
                     pe := { pe with queue := insertEntry anchor ⟨pe.epochIn, seq, samples, peakOf samples⟩ pe.queue } },
                   b'), true))
           ∧ (b.grant res c = none →
               storeBlock res c seq samples (ch, b)
                 = (({ ch with stats := { ch.stats with poolFull := bump ch.stats.poolFull } }, b), false)))
    ∧ (∀ (res : PerChan Nat) (c : Chan) (now : Word) (ch : Channel) (b : Pool) (a : Arrival),
         let pe := ch.pe
         let handed (x : Channel × Pool) : Channel × Pool :=
           match a.stamp with
           | some stamp => (x.1.handToTru stamp now, x.2)
           | none => x
         (∀ b', b.grant res c = some b' →
             storeArrival res c now a (ch, b)
               = handed
                   ({ ch with
                       pe :=
                         { pe with
                           queue := insertEntry (if pe.playEpoch = pe.epochIn then pe.nextPlay else pe.baseIn)
                             ⟨pe.epochIn, a.seq, a.samples, peakOf a.samples⟩ pe.queue }
                       stats :=
                         { ch.stats with
                           recovered := if a.stamp.isNone then bump ch.stats.recovered else ch.stats.recovered } }, b'))
           ∧ (b.grant res c = none →
               storeArrival res c now a (ch, b)
                 = handed ({ ch with stats := { ch.stats with poolFull := bump ch.stats.poolFull } }, b))
           ∧ ∀ (anchor : Half) (e : QEntry) (q : List QEntry),
               (∃ before after : List QEntry, q = before ++ after ∧ insertEntry anchor e q = before ++ e :: after
                 ∧ (∀ x ∈ before, x.epoch = e.epoch → (x.seq - anchor).toInt ≤ (e.seq - anchor).toInt)
                 ∧ ∀ x, after.head? = some x → x.epoch = e.epoch ∧ (e.seq - anchor).toInt < (x.seq - anchor).toInt))
    ∧ (∀ (res : PerChan Nat) (c : Chan) (ch : Channel) (b : Pool) (seq : Half) (samples : List Sample),
         let pe := ch.pe
         let stored (x : Channel × Pool) : Channel × Pool :=
           let y := storeBlock res c seq samples
             ({ x.1 with pe := { x.1.pe with epochIn := pe.epochIn + 1, baseIn := seq } }, x.2)
           ({ y.1.1 with
               stats := { y.1.1.stats with resync := bump y.1.1.stats.resync }
               tru := { y.1.1.tru with window := none, fPrev := none } }, y.1.2)
         ((∀ e ∈ pe.queue, e.epoch = pe.playEpoch) → resync res c seq samples (ch, b) = stored (ch, b))
           ∧ (∀ e rest, pe.queue = e :: rest → pe.epochIn ≠ pe.playEpoch → (∀ x ∈ e :: rest, x.epoch = pe.epochIn) →
               resync res c seq samples (ch, b)
                 = stored ({ ch with pe := { pe with playEpoch := pe.epochIn, nextPlay := e.seq } }, b))
           ∧ ∀ (old new : List QEntry) (e : QEntry), pe.queue = old ++ e :: new → old ≠ [] → pe.epochIn ≠ pe.playEpoch →
               (∀ x ∈ old, x.epoch = pe.playEpoch) → (∀ x ∈ e :: new, x.epoch = pe.epochIn) →
               resync res c seq samples (ch, b)
                 = stored
                     ({ ch with
                         pe := { pe with queue := e :: new, playEpoch := pe.epochIn, nextPlay := e.seq }
                         stats := { ch.stats with epochDrop := bumpBy ch.stats.epochDrop old.length } },
                       b.giveBackN res c old.length))

/-- A channel tick (R50, R53, R59, R95, R97): when LAM has taken the last sample, the PLAYED path is judged over the
finished block; a DRAINING channel with nothing queued ends its drain with DRAIN_DONE EMPTY, and otherwise the tick of
the channel and its pool makes another block current. Before that moment nothing changes. That the finished block is
judged first is the model's choice (log 15). -/
def Obligations.ChannelTickTaken : Prop :=
  ∀ (s : State) (c : Chan) (m : Option IntervalMeasure),
    let ch := s.chan c
    (ch.state = .idle ∨ ch.pe.tickDue = false → exec (.channelTick c m) s = .next s)
      ∧ (ch.state ≠ .idle → ch.pe.tickDue = true →
          let judged : State :=
            match ch.pe.current with
            | none => s
            | some b => s.playedInterval c (judgeInterval m b.samples) b.samples.length s.timebase
          (ch.state = .draining → ch.pe.queue = [] →
              exec (.channelTick c m) s
                = .next ((judged.toIdle c).offerTo ch.holder ⟨.drainDone .empty, some ch.loop, some c, s.timebase⟩))
            ∧ (ch.state ≠ .draining ∨ ch.pe.queue ≠ [] →
                let after := tickBlock s.reserves c s.live.global.silenceLevel (judged.chan c, judged.pool)
                exec (.channelTick c m) s = .next { judged.modChan c fun _ => after.1 with pool := after.2 }
                  ∧ after.1.pe.tickDue = false ∧ ∃ block, after.1.pe.current = some ⟨block, 0⟩))

/-- A tick in PRIMING (R51, R52): below the priming target a block of silence that counts nothing; at or above it
playing begins with the first entry in queue order, without a correction, and after the slip in VOICE. A PLAYING tick,
in RUN and PARKED alike, and a DRAINING one (R53, R57, R59, R74 to R77): the first tick of a drain begun in PRIMING
makes no correction; otherwise in VOICE below silence_level a positive pending correction plays silence without a take
and a negative one skips the number at next_play; in DATA last played is played again below the band and the oldest
entry is skipped above it; otherwise the block is taken. A VOICE block is then slipped, and a missing block with the
queue empty returns the channel to PRIMING, but never while DRAINING. -/
def Obligations.TicksTaken : Prop :=
  (∀ (res : PerChan Nat) (c : Chan) (level : Nat) (ch : Channel) (b : Pool),
     ch.state ≠ .draining → ch.pe.playState = .priming →
     let pe := ch.pe
     let target :=
       match ch.mode with
       | .data => ch.settings.dataDepth
       | .voice => if pe.afterOpen then ch.settings.depthStart else ch.tru.target
     (pe.queue.length < target →
         tickBlock res c level (ch, b)
           = ({ ch with
                 pe :=
                   { pe with
                     current := some ⟨silence, 0⟩, tickDue := false, outputPeak := 0, freshRun := false } }, b))
       ∧ ∀ (e : QEntry) (rest : List QEntry), pe.queue = e :: rest → target ≤ (e :: rest).length →
           let taken : Channel :=
             { ch with
               pe :=
                 { pe with
                   queue := rest, playEpoch := e.epoch, nextPlay := e.seq + 1, playState := .playing,
                   afterOpen := false, missing := 0, lastPlayed := e.samples, lastPeak := e.peak }
               tru := if e.epoch = pe.playEpoch then ch.tru else { ch.tru with window := none, fPrev := none } }
           let slipped := if ch.mode = .voice then taken.slip e.samples else (e.samples, taken)
           tickBlock res c level (ch, b)
             = ({ slipped.2 with
                   pe :=
                     { slipped.2.pe with
                       current := some ⟨slipped.1, 0⟩, tickDue := false, outputPeak := e.peak,
                       freshRun := false } }, b.giveBack res c))
    ∧ (∀ (res : PerChan Nat) (c : Chan) (level : Nat) (ch : Channel) (b : Pool),
         ch.state = .draining ∨ ch.pe.playState = .playing →
         let pe := ch.pe
         let quiet : Prop := pe.outputPeak < level
         let q := pe.queue.length
         let low : Prop := 0 < q ∧ q + ch.settings.dataSlack < ch.settings.dataDepth
         let high : Prop := ch.settings.dataDepth + ch.settings.dataSlack < q
         let finish (r : TickBlock × ChanPool) : ChanPool :=
           let x := r.2.1
           let primed : Channel :=
             if x.state ≠ .draining ∧ r.1.missed = true ∧ x.pe.queue = [] ∧ (x.mode = .data ∨ 4 ≤ x.pe.missing) then
               { x with pe := { x.pe with playState := .priming } }
             else x
           let slipped := if x.mode = .voice then primed.slip r.1.samples else (r.1.samples, primed)
           ({ slipped.2 with
               pe :=
                 { slipped.2.pe with
                   current := some ⟨slipped.1, 0⟩, tickDue := false, outputPeak := r.1.peak, freshRun := false } }, r.2.2)
         let skipped (e? : Option QEntry) : ChanPool :=
           let x : Channel :=
             { ch with
               tru := { ch.tru with corr := ch.tru.corr + 1 }
               stats := { ch.stats with corrSkip := bump ch.stats.corrSkip } }
           match e? with
           | none => ({ x with pe := { pe with nextPlay := pe.nextPlay + 1 } }, b)
           | some e =>
             ({ x with
                 pe :=
                   { pe with
                     nextPlay := pe.nextPlay + 1
                     queue := pe.queue.eraseP fun y => y.epoch == e.epoch && y.seq == e.seq } }, b.giveBack res c)
         let tick := tickBlock res c level (ch, b)
         let judges : Prop := pe.freshRun = false
         (¬judges → tick = finish (takeBlock res c (ch, b)))
           ∧ (judges → ch.mode = .voice → ¬quiet ∨ ch.tru.corr = 0 → tick = finish (takeBlock res c (ch, b)))
           ∧ (judges → ch.mode = .voice → quiet → 0 < ch.tru.corr →
               tick = finish (⟨silence, 0, true, false⟩,
                 ({ ch with
                     tru := { ch.tru with corr := ch.tru.corr - 1 }
                     stats := { ch.stats with corrInsert := bump ch.stats.corrInsert } }, b)))
           ∧ (judges → ch.mode = .voice → quiet → ch.tru.corr < 0 →
               tick = finish (takeBlock res c
                 (skipped (pe.queue.find? fun e => e.epoch == pe.playEpoch && e.seq == pe.nextPlay))))
           ∧ (judges → ch.mode = .data → low →
               tick = finish (⟨pe.lastPlayed, pe.lastPeak, true, false⟩,
                 ({ ch with stats := { ch.stats with dataRepeat := bump ch.stats.dataRepeat } }, b)))
           ∧ (∀ e rest, judges → ch.mode = .data → high → pe.queue = e :: rest →
               tick = finish (takeBlock res c
                 ({ ch with
                     pe := { pe with playEpoch := e.epoch, nextPlay := e.seq + 1, queue := rest }
                     tru := if e.epoch = pe.playEpoch then ch.tru else { ch.tru with window := none, fPrev := none }
                     stats := { ch.stats with dataSkip := bump ch.stats.dataSkip } }, b.giveBack res c)))
           ∧ (judges → ch.mode = .data → ¬low → ¬high → tick = finish (takeBlock res c (ch, b))))

/-- The take (R54, R55, R56): the entry of the playing epoch at next_play; with that epoch exhausted, the first entry of
the newer one, with a restart of the windows; otherwise a missing block, in DATA silence, in VOICE last played scaled by
3/4, 2/4, 1/4 and then silence. -/
def Obligations.TakeFindsOrMisses : Prop :=
  ∀ (res : PerChan Nat) (c : Chan) (ch : Channel) (b : Pool),
    let pe := ch.pe
    let took (e : QEntry) (q : List QEntry) (x : Channel) : TickBlock × ChanPool :=
      (⟨e.samples, e.peak, false, false⟩,
        ({ x with
            pe :=
              { x.pe with
                queue := q, lastPlayed := e.samples, lastPeak := e.peak, missing := 0, nextPlay := e.seq + 1 } },
          b.giveBack res c))
    let n := min 65535 (pe.missing + 1)
    let moved : Playout := { pe with missing := n, nextPlay := pe.nextPlay + 1 }
    let scaled := pe.lastPlayed.map fun v => saturate ((v.toInt * ((4 : Int) - n)).tdiv 4)
    let k := ch.stats
    let absent : Prop := ∀ e ∈ pe.queue, ¬(e.epoch = pe.playEpoch ∧ e.seq = pe.nextPlay)
    let missing : Prop := absent ∧ (pe.queue = [] ∨ ∃ e ∈ pe.queue, e.epoch = pe.playEpoch)
    (∀ before e after, pe.queue = before ++ e :: after → e.epoch = pe.playEpoch → e.seq = pe.nextPlay →
        (∀ x ∈ before, ¬(x.epoch = pe.playEpoch ∧ x.seq = pe.nextPlay)) →
        takeBlock res c (ch, b) = took e (before ++ after) ch)
      ∧ (∀ e rest, pe.queue = e :: rest → (∀ x ∈ e :: rest, x.epoch ≠ pe.playEpoch) →
          takeBlock res c (ch, b)
            = took e rest
                { ch with
                  pe := { pe with playEpoch := e.epoch }
                  tru := { ch.tru with window := none, fPrev := none } })
      ∧ (missing → ch.mode = .data →
          takeBlock res c (ch, b)
            = (⟨silence, 0, false, true⟩, ({ ch with pe := moved, stats := { k with dataGap := bump k.dataGap } }, b)))
      ∧ (missing → ch.mode = .voice → n ≤ 3 →
          takeBlock res c (ch, b)
            = (⟨scaled, pe.lastPeak * (4 - n) / 4, false, true⟩,
                ({ ch with pe := moved, stats := { k with concealed := bump k.concealed } }, b)))
      ∧ (missing → ch.mode = .voice → 4 ≤ n →
          takeBlock res c (ch, b)
            = (⟨silence, 0, false, true⟩,
                ({ ch with pe := moved, stats := { k with silentFill := bump k.silentFill } }, b)))

/-! ### Timing recovery (R62 to R72) -/

/-- The measurement window (R62 to R69): the first block handed over opens it, a block inside its span joins it, and a
block whose span reaches W_open closes it, which sets the target from the jitter and the guard, the pending correction
from the target and the entry count, and the baseline; the drift estimate moves toward the measured drift when there is
a baseline, the span is below four times W_open and the drift is at most 1000 ppm, and the window is reported rejected
when it fails one of the last two. A block is handed over with the channel's settings and its entry count, and a
rejected window is counted (R67, R68). That the closing block itself opens the next window (R65), where the last
sentence of R62 has the next primary of the message open it, is the model's choice (log 43). -/
def Obligations.WindowsMeasured : Prop :=
  (∀ (ch : Channel) (stamp now : Word),
     let r := ch.tru.take ch.settings ch.pe.queue.length stamp now
     ch.handToTru stamp now
       = { ch with
           tru := r.1
           stats := if r.2 then { ch.stats with windowReject := bump ch.stats.windowReject } else ch.stats })
    ∧ ∀ (set : ChannelSettings) (q : Nat) (stamp now : Word) (t : Timing),
    let transit := now - stamp
    let opened : Option Window := some ⟨stamp, transit, set.window, 0, 0⟩
    (t.window = none → t.take set q stamp now = ({ t with window := opened }, false))
      ∧ ∀ w, t.window = some w →
          let span := (stamp - w.w0).toInt
          let rel := (transit - w.t0).toInt
          let floor := w.t0 + BitVec.ofInt 32 w.minRel
          let target := clampNat set.depthMin set.depthMax (ceilDiv ((w.maxRel - w.minRel).toNat + set.guard) 80)
          let closed (est : Int) : Timing :=
            { t with
              window := opened, target := target, closedSinceOpen := true,
              corr := clampInt (-4) 4 ((target : Int) - q), est := est, fPrev := some floor }
          (span < w.span →
              t.take set q stamp now
                = ({ t with window := some { w with minRel := min w.minRel rel, maxRel := max w.maxRel rel } }, false))
            ∧ ((w.span : Int) ≤ span → t.fPrev = none → t.take set q stamp now = (closed t.est, false))
            ∧ ∀ f, (w.span : Int) ≤ span → t.fPrev = some f →
                let d := roundDiv ((f - floor).toInt * 1000000) span.toNat
                (4 * (w.span : Int) ≤ span ∨ 1000 < d.natAbs → t.take set q stamp now = (closed t.est, true))
                  ∧ (span < 4 * (w.span : Int) → d.natAbs ≤ 1000 →
                      t.take set q stamp now
                        = (closed (clampInt (-1000) 1000 (t.est + roundDiv (d - t.est) (2 ^ set.smoothing))), false))

/-- The slip (R72): the accumulator moves by 80 times the estimate; at 1,000,000 the block loses its last sample, at
-1,000,000 its last sample is played twice. The arithmetic of the spec (00_scope.md, R150): a quotient to the nearest
whole number with halves away from zero, a quotient rounded upward, saturation to a sample, a gain, a counter that stops
at 4,294,967,295, and the peak of a block (R47). -/
def Obligations.SlipsAndRounding : Prop :=
  (∀ (block : List Sample) (last : Sample) (ch : Channel),
     let acc := ch.tru.acc + 80 * ch.tru.est
     (1000000 ≤ acc →
         ch.slip (block ++ [last])
           = (block,
               { ch with
                 tru := { ch.tru with acc := acc - 1000000 }
                 stats := { ch.stats with slipDrop := bump ch.stats.slipDrop } }))
       ∧ (acc ≤ -1000000 →
           ch.slip (block ++ [last])
             = (block ++ [last, last],
                 { ch with
                   tru := { ch.tru with acc := acc + 1000000 }
                   stats := { ch.stats with slipRepeat := bump ch.stats.slipRepeat } }))
       ∧ (-1000000 < acc → acc < 1000000 →
           ch.slip (block ++ [last]) = (block ++ [last], { ch with tru := { ch.tru with acc := acc } })))
    ∧ ((∀ (a : Int) (b : Nat), 0 < b →
           let q := roundDiv a b
           2 * (a - b * q).natAbs ≤ b ∧ (2 * (a - b * q).natAbs = b → a.natAbs ≤ b * q.natAbs))
         ∧ (∀ a b : Nat, 0 < b → a ≤ b * ceilDiv a b ∧ b * ceilDiv a b < a + b)
         ∧ (∀ v : Int, (saturate v).toInt = max (-32768) (min 32767 v))
         ∧ (∀ (x : Sample) (gain : Nat), (applyGain x gain).toInt = max (-32768) (min 32767 (roundDiv (x.toInt * gain) 256)))
         ∧ (∀ (k : Word) (n : Nat), (bumpBy k n).toNat = min (k.toNat + n) 4294967295 ∧ bump k = bumpBy k 1)
         ∧ ∀ samples : List Sample,
             (∀ v ∈ samples, v.toInt.natAbs ≤ peakOf samples)
               ∧ (samples ≠ [] → ∃ v ∈ samples, v.toInt.natAbs = peakOf samples))

/-! ### Uplink framing (R80 to R83) -/

/-- The close of a loop block (R80 to R83): it goes once to each attached channel, in ascending order, whose first block
time has been reached, and each builds one block with its next uplink seq, its stamp, and silence for a MUTED channel or
a suppressed digit or else the saturated sum of the line sample and the bridge; its LOOP path is then judged. With no
closed block waiting nothing changes. The ascending order of the detections, the block taken, which SAMPLE_TIME latched,
and the samples of a channel that has left, which stand under the voice flag it had, are the model's (logs 24, 22, 19).
A block put into the history ring (R83): into an empty slot while there is one; otherwise over the oldest entry, and
when that one is unsent history_lost counts and the send pointer moves to the number after it. -/
def Obligations.UplinkBlocksBuiltAndKept : Prop :=
  (∀ (s : State) (l : Loop) (m : Option IntervalMeasure),
     ((s.loop l).closed = none → exec (.loopBlockClose l m) s = .next s)
       ∧ ∀ blk, (s.loop l).closed = some blk →
           exec (.loopBlockClose l m) s
               = .next ((Chan.all.filter fun c => (s.chan c).attachedTo l).foldl (State.closeForChannel blk m)
                   (s.modLoop l fun x => { x with closed := none }))
             ∧ ∀ (t : State) (c : Chan),
                 let ch := t.chan c
                 let e : HEntry := ⟨ch.uf.nextSeq, blk.start + ch.uf.stampOffset, uplinkSamples t c blk⟩
                 let path := if ch.voice = .voiced then blk.mix.map (·.u) else silence
                 (∀ first, ch.uf.firstBlock = some first → reached blk.start first = false →
                     State.closeForChannel blk m t c = t)
                   ∧ ((∀ first, ch.uf.firstBlock = some first → reached blk.start first = true) →
                       State.closeForChannel blk m t c
                         = (t.modChan c fun ch =>
                             ({ ch with
                               uf := { ch.uf with nextSeq := ch.uf.nextSeq + 1, firstBlock := none } }).putHistory
                               e).loopInterval c (judgeInterval m path) 80 blk.next)
                   ∧ (ch.voice = .muted → uplinkSamples t c blk = silence)
                   ∧ (ch.settings.suppressDigits = true → (t.loop ch.loop).dtmf.present = true →
                       uplinkSamples t c blk = silence)
                   ∧ (ch.voice = .voiced → ch.settings.suppressDigits = false ∨ (t.loop ch.loop).dtmf.present = false →
                       (∀ d, d ≠ c → ∀ x ∈ blk.mix, ∀ o, x.outs.get d = some o →
                         o.left.getD (t.chan d).voice = .muted) →
                       uplinkSamples t c blk = blk.mix.map (·.u))
                   ∧ ∀ d, ch.voice = .voiced →
                       ch.settings.suppressDigits = false ∨ (t.loop ch.loop).dtmf.present = false →
                       d ≠ c →
                       (∀ k, k ≠ c → k ≠ d → ∀ x ∈ blk.mix, x.outs.get k = none) →
                       uplinkSamples t c blk
                         = blk.mix.map fun x =>
                             saturate (x.u.toInt +
                               match x.outs.get d with
                               | some o => if o.left.getD (t.chan d).voice = .voiced then o.sample.toInt else 0
                               | none => 0))
    ∧ (∀ (ch : Channel) (e : HEntry),
         let uf := ch.uf
         (uf.ring.length < uf.ringSize → ch.putHistory e = { ch with uf := { uf with ring := uf.ring ++ [e] } })
           ∧ ∀ oldest rest, uf.ring = oldest :: rest → uf.ringSize ≤ uf.ring.length →
               ((oldest.seq - uf.sendPtr).toInt < 0 → ch.putHistory e = { ch with uf := { uf with ring := rest ++ [e] } })
                 ∧ (0 ≤ (oldest.seq - uf.sendPtr).toInt →
                     ch.putHistory e
                       = { ch with
                           uf := { uf with ring := rest ++ [e], sendPtr := oldest.seq + 1 }
                           stats := { ch.stats with historyLost := bump ch.stats.historyLost } }))

/-! ### The loop: feed, hook, digits (R107 to R125) -/

/-- POLARITY and GAIN from the port that speaks for the loop (R109, R152): stored, and nothing else changes; GAIN is
also taken from any port when the loop has no lead. Other requesters are refused NOT_HOLDER, other loops and polarities
BAD_PARAM. That the two gains are read as unsigned is the model's (log 39). -/
def Obligations.PolarityAndGainStored : Prop :=
  ∀ (s : State) (p : Port) (tag : Byte) (l : Loop), s.ready p →
    let speaks : Prop := ∃ c, s.leadOf l = some c ∧ (s.chan c).heldBy p = true
    (∀ d : Polarity,
        let byte : Byte := if d = .normal then 0 else 1
        (speaks → exec (.polarityReq p tag [Loop.byte l, byte]) s
            = .next ((s.modLoop l fun x => { x with polarity := d }).replied p (acceptance tag [])))
          ∧ (¬speaks → exec (.polarityReq p tag [Loop.byte l, byte]) s
              = .next (s.replied p (refusal tag .notHolder))))
      ∧ (∀ a b : Byte, 2 ≤ a.toNat ∨ 2 ≤ b.toNat →
          exec (.polarityReq p tag [a, b]) s = .next (s.replied p (refusal tag .badParam)))
      ∧ (∀ r1 r0 t1 t0 : Byte,
          let rx := min 1024 (half r1 r0).toNat
          let tx := min 1024 (half t1 t0).toNat
          (s.leadOf l = none ∨ speaks →
              exec (.gainReq p tag [Loop.byte l, r1, r0, t1, t0]) s
                = .next (({ s with
                    live :=
                      { s.live with
                        loop := s.live.loop.put l { s.loopSet l with rxGain := rx, txGain := tx } } } : State).replied
                    p (acceptanceOf tag (rx != (half r1 r0).toNat || tx != (half t1 t0).toNat)
                      (nat16 rx ++ nat16 tx))))
            ∧ (s.leadOf l ≠ none → ¬speaks →
                exec (.gainReq p tag [Loop.byte l, r1, r0, t1, t0]) s
                  = .next (s.replied p (refusal tag .notHolder))))
      ∧ ∀ a r1 r0 t1 t0 : Byte, 2 ≤ a.toNat →
          exec (.gainReq p tag [a, r1, r0, t1, t0]) s = .next (s.replied p (refusal tag .badParam))

/-- DENY (R110): from a port with authority, in IDLE and ACTIVE, the loop is DENIED for the duration brought within
100..2000 ms, a BREAK is held as OFFHOOK, the pulse counter is cleared and the detector quiet; in the other feed states
it is refused BUSY, before that NOT_HOLDER, before that BAD_PARAM. The end of a denial (R111): at the deny end a held
OFFHOOK gives ACTIVE and a held ONHOOK gives IDLE with polarity NORMAL, the raw state is judged from there, and no
notice is raised. Before it, and while DENIED, a change of the loop current is not judged (R111); in the other feed
states it is, and a change of the raw state is a raw edge (R112, R113). That it is judged when the change is taken, and
not first at the next sample time, is the model's choice (log 45). -/
def Obligations.DenialsAndCurrents : Prop :=
  (∀ (s : State) (p : Port) (tag d1 d0 : Byte), s.ready p →
     (∀ b : Byte, 2 ≤ b.toNat → exec (.denyReq p tag [b, d1, d0]) s = .next (s.replied p (refusal tag .badParam)))
       ∧ ∀ l : Loop,
           let run : Host.Outcome State Fault Refusal := exec (.denyReq p tag [Loop.byte l, d1, d0]) s
           let mayAct : Prop := s.leadOf l = none ∨ ∃ c, s.leadOf l = some c ∧ (s.chan c).heldBy p = true
           let free : Prop := (s.loop l).feed = .idle ∨ (s.loop l).feed = .active
           let ms := clampNat 100 2000 (half d1 d0).toNat
           (¬mayAct → run = .next (s.replied p (refusal tag .notHolder)))
             ∧ (mayAct → ¬free → run = .next (s.replied p (refusal tag .busy)))
             ∧ (mayAct → free →
                 run = .next ((s.modLoop l fun x =>
                   { x with
                     feed := .denied
                     denyEnd := s.timebase + msSpan ms
                     hook := if x.hook = .brk then .offhook else x.hook
                     pulses := 0
                     dtmf := .quiet }).replied p
                   (acceptanceOf tag (ms != (half d1 d0).toNat) (nat16 ms)))))
    ∧ (∀ (s : State) (l : Loop) (microamps : Int),
         let x := s.loop l
         let judge (current : Int) : RawState :=
           if (s.loopSet l).hookThreshold * 1000 ≤ current.natAbs then .off else .on
         (x.feed ≠ .denied ∨ reached s.timebase x.denyEnd = false → exec (.denyEnd l) s = .next s)
           ∧ (x.feed = .denied → reached s.timebase x.denyEnd = true → x.hook = .offhook →
               exec (.denyEnd l) s
                 = .next (s.modLoop l fun x =>
                     { x with
                       feed := .active, dtmf := .quiet, ringSignal := false,
                       raw := judge x.current, rawEdge := s.timebase }))
           ∧ (x.feed = .denied → reached s.timebase x.denyEnd = true → x.hook = .onhook →
               exec (.denyEnd l) s
                 = .next (s.modLoop l fun x =>
                     { x with
                       feed := .idle, polarity := .normal, pulses := 0, dtmf := .quiet,
                       ringSignal := false, raw := judge x.current, rawEdge := s.timebase }))
           ∧ (x.feed = .denied →
               exec (.loopCurrentChange l microamps) s = .next (s.modLoop l fun x => { x with current := microamps }))
           ∧ (x.feed ≠ .denied → judge microamps = x.raw →
               exec (.loopCurrentChange l microamps) s = .next (s.modLoop l fun x => { x with current := microamps }))
           ∧ (x.feed ≠ .denied → judge microamps ≠ x.raw →
               exec (.loopCurrentChange l microamps) s
                 = .next (s.modLoop l fun x =>
                     { x with current := microamps, raw := judge microamps, rawEdge := s.timebase })))

/-- An off-hook qualified on an on-hook loop (R113, R114, R115, R140, R141, R166): a seizure raises SEIZE and, with no
lead and a program to play, starts the auto dial tone; a ring trip ends the ring as an answer with ANSWERED; a test is
aborted with TEST_DONE before the SEIZE. Before the raw state has persisted hook_qualify, and in DENIED, nothing
changes. That the SEIZE comes before the end of a replaced tone, and that the auto dial tone's requester holds P0, are
the model's choices (logs 17, 38). Breaks (R113, R116): an on-hook qualified on an off-hook loop begins a BREAK at its
raw edge; a return qualified in a BREAK is classified by its length as a dial pulse, an ignored break or a flash, which
ends a digit in progress first and carries the break in ms. -/
def Obligations.HookQualified : Prop :=
  (∀ (s : State) (l : Loop),
     let x := s.loop l
     let set := s.loopSet l
     let lasted : Prop := set.hookQualify * 8 ≤ (s.timebase - x.rawEdge).toNat
     let run : Host.Outcome State Fault Refusal := exec (.hookQualified l) s
     let lifted (y : LoopState) : LoopState :=
       { y with feed := .active, dtmf := .quiet, ringSignal := false, hook := .offhook, pulses := 0 }
     let tone (t : State) : State :=
       if s.leadOf l = none ∧ set.autoDialTone = true ∧ (s.live.programs.get set.dialProgram).segments ≠ [] then
         (t.startTone l .auto .p0 set.dialProgram).modLoop l fun y => { y with autoTone := true }
       else t
     let seized (t : State) : State :=
       tone ((t.modLoop l lifted).routeLoop l ⟨.seize, some l, none, s.timebase⟩)
     (x.feed = .denied ∨ ¬lasted → run = .next s)
       ∧ (lasted → x.hook = .onhook → x.raw = .on → x.feed ≠ .denied → run = .next s)
       ∧ (lasted → x.hook = .onhook → x.raw = .off → x.feed = .idle → run = .next (seized s))
       ∧ (∀ r, lasted → x.hook = .onhook → x.raw = .off → x.feed = .ringing ∨ x.feed = .callerData →
           x.ring = some r →
           let status : CallerState :=
             if r.callerState = .awaitRunEnd ∨ r.callerState = .waiting then .notSent
             else if r.callerState = .sending then .aborted
             else r.callerState
           run = .next ((s.modLoop l fun y => { lifted y with ring := none, tx := none }).routeRing l r.owner r.ownerLost
             ⟨.answered ⟨status, r.rung, r.deferred, r.suppressed, r.bursts⟩, some l, none, s.timebase⟩))
       ∧ (lasted → x.hook = .onhook → x.raw = .off → x.feed = .testing →
           let held := if x.test.phase = .loop then x.test.nRef else 0
           run = .next (seized ((s.modLoop l fun y => { y with test := { y.test with phase := .none } }).offer
             x.test.requester ⟨.testDone .abortedOffhook held 0 x.test.load false, some l, none, s.timebase⟩))))
    ∧ (∀ (s : State) (l : Loop),
         let x := s.loop l
         let set := s.loopSet l
         let lasted : Prop := set.hookQualify * 8 ≤ (s.timebase - x.rawEdge).toNat
         let run : Host.Outcome State Fault Refusal := exec (.hookQualified l) s
         let length := (x.rawEdge - x.breakStart).toNat
         let back (f : LoopState → LoopState) : State := s.modLoop l fun y => f { y with hook := .offhook }
         x.feed ≠ .denied → lasted →
         (x.hook = .offhook → x.raw = .on →
             run = .next (s.modLoop l fun y => { y with hook := .brk, breakStart := y.rawEdge }))
           ∧ (x.hook = .offhook → x.raw = .off → run = .next s)
           ∧ (x.hook = .brk → x.raw = .on → run = .next s)
           ∧ (x.hook = .brk → x.raw = .off → length ≤ set.pulseBreakMax * 8 →
               run = .next (back fun y => { y with pulses := min 255 (y.pulses + 1), makeStart := y.rawEdge }))
           ∧ (x.hook = .brk → x.raw = .off → set.pulseBreakMax * 8 < length → length < set.flashMin * 8 →
               run = .next (back fun y => { y with makeStart := y.rawEdge }))
           ∧ (x.hook = .brk → x.raw = .off → set.pulseBreakMax * 8 < length → set.flashMin * 8 ≤ length →
               length / 8 < 65536 → x.pulses = 0 →
               run = .next ((back id).routeLoop l ⟨.flash (BitVec.ofNat 16 (length / 8)), some l, none, s.timebase⟩))
           ∧ (x.hook = .brk → x.raw = .off → set.pulseBreakMax * 8 < length → set.flashMin * 8 ≤ length →
               length / 8 < 65536 → x.pulses ≠ 0 →
               run = .next (((back id).endRotary l).routeLoop l
                 ⟨.flash (BitVec.ofNat 16 (length / 8)), some l, none, s.timebase⟩)))

/-- The end of a rotary digit (R118, R123, R124, R125): the pulse counter becomes 0; 1 to 10 pulses raise DIGIT with the
digit and the count, which enters the dial buffer when the loop has no lead; 11 or more raise BAD_DIGIT; both stop the
auto dial tone. Before the make has reached interdigit_min, or outside OFFHOOK, nothing changes. -/
def Obligations.RotaryDigitEnds : Prop :=
  ∀ (s : State) (l : Loop),
    let x := s.loop l
    let lasted : Prop := (s.loopSet l).interdigitMin * 8 ≤ (s.timebase - x.makeStart).toNat
    let digit : Byte := BitVec.ofNat 8 (0x30 + x.pulses % 10)
    let stopTone (t : State) : State := if x.autoTone then t.endTone l .digit s.timebase else t
    let count : Half := BitVec.ofNat 16 x.pulses
    (x.pulses = 0 ∨ x.hook ≠ .offhook ∨ ¬lasted → exec (.rotaryDigitEnd l) s = .next s)
      ∧ (x.pulses ≠ 0 → x.hook = .offhook → lasted →
          (x.pulses ≤ 10 → s.leadOf l ≠ none →
              exec (.rotaryDigitEnd l) s
                = .next ((stopTone (s.modLoop l fun y => { y with pulses := 0 })).routeLoop l
                    ⟨.digit digit .pulse count, some l, none, s.timebase⟩))
            ∧ (x.pulses ≤ 10 → s.leadOf l = none → x.dial.length < 32 →
                exec (.rotaryDigitEnd l) s
                  = .next ((stopTone (s.modLoop l fun y =>
                      { y with pulses := 0, dial := y.dial ++ [digit] })).routeLoop l
                      ⟨.digit digit .pulse count, some l, none, s.timebase⟩))
            ∧ (x.pulses ≤ 10 → s.leadOf l = none → 32 ≤ x.dial.length →
                exec (.rotaryDigitEnd l) s
                  = .next ((stopTone (s.modLoop l fun y =>
                      { y with pulses := 0, dialOverflow := true })).routeLoop l
                      ⟨.digit digit .pulse count, some l, none, s.timebase⟩))
            ∧ (11 ≤ x.pulses →
                exec (.rotaryDigitEnd l) s
                  = .next ((stopTone (s.modLoop l fun y => { y with pulses := 0 })).routeLoop l
                      ⟨.badDigit x.pulses, some l, none, s.timebase⟩)))

/-- A hang-up (R117, R18, R25): at break start plus hangup_min a loop still in BREAK becomes IDLE and on-hook with an
empty dial buffer, HANGUP is routed, its tone ends with cause HANGUP, and each DRAINING channel of it ends its drain
with DRAIN_DONE HANGUP. Otherwise nothing changes. The order of these notices after HANGUP is the model's choice (log
16). -/
def Obligations.HangupClearsLoop : Prop :=
  ∀ (s : State) (l : Loop),
    let x := s.loop l
    let reachedEnd : Prop := (s.loopSet l).hangupMin * 8 ≤ (s.timebase - x.breakStart).toNat
    (x.hook ≠ .brk ∨ ¬reachedEnd → exec (.hangup l) s = .next s)
      ∧ (x.hook = .brk → reachedEnd →
          let quiet : State :=
            ((s.routeLoop l ⟨.hangup, some l, none, s.timebase⟩).modLoop l fun y =>
              { y with
                feed := .idle, polarity := .normal, pulses := 0, dtmf := .quiet,
                ringSignal := false, dial := [], dialOverflow := false, hook := .onhook }).endTone l .hangup s.timebase
          let drains := Chan.all.filter fun c => (s.chan c).attachedTo l && (s.chan c).state == .draining
          exec (.hangup l) s
            = .next (drains.foldl
                (fun t c => (t.toIdle c).offerTo (s.chan c).holder
                  ⟨.drainDone .hangup, some l, some c, s.timebase⟩) quiet))

/-- The key judged from what is measured on the line (R120): the crossing of its row and its column, when the levels
pass, and none for a component outside every row or every column. The tone-digit detector in ACTIVE (R121, R122): what
each state does at a key judged and at its time, with the DIGIT of a key whose gap has lasted. Outside ACTIVE it stays
as it is, and the key on the line is kept for the next sample time in ACTIVE, as the model's choice has it (log 36). -/
def Obligations.KeysDetected : Prop :=
  (∀ (m : KeyMeasure) (row col : Nat) (rowHz colHz : Nat) (key : Byte),
     [697, 770, 852, 941][row]? = some rowHz → [1209, 1336, 1477, 1633][col]? = some colHz →
     ([[0x31, 0x32, 0x33, 0x41], [0x34, 0x35, 0x36, 0x42], [0x37, 0x38, 0x39, 0x43],
       [0x2A, 0x30, 0x23, 0x44]] : List (List Byte))[row]?.bind (·[col]?) = some key →
     980 * rowHz ≤ m.rowMilliHz → m.rowMilliHz ≤ 1020 * rowHz → 980 * colHz ≤ m.colMilliHz →
     m.colMilliHz ≤ 1020 * colHz →
     let levels : Prop :=
       m.rowBelow ≤ 30000 ∧ m.colBelow ≤ 30000 ∧ m.colBelow - m.rowBelow ≤ 8000 ∧ m.rowBelow - m.colBelow ≤ 4000
         ∧ m.rowBelow + 15000 ≤ m.restBelow ∧ m.colBelow + 15000 ≤ m.restBelow
     (levels → judgeKey (some m) = some key) ∧ (¬levels → judgeKey (some m) = none) ∧ judgeKey none = none)
    ∧ (∀ m : KeyMeasure,
         ((∀ hz ∈ [697, 770, 852, 941], ¬(980 * hz ≤ m.rowMilliHz ∧ m.rowMilliHz ≤ 1020 * hz)) →
             judgeKey (some m) = none)
           ∧ ((∀ hz ∈ [1209, 1336, 1477, 1633], ¬(980 * hz ≤ m.colMilliHz ∧ m.colMilliHz ≤ 1020 * hz)) →
             judgeKey (some m) = none))
    ∧ (∀ (s : State) (l : Loop) (m : Option KeyMeasure) (k : Byte) (onset gap : Word),
         let x := s.loop l
         let key := judgeKey m
         let now := s.timebase
         let hears (d : Dtmf) : Prop :=
           exec (.dtmfKeyChange l m) s = .next (s.modLoop l fun y => { y with dtmf := d, keyPresent := key })
         let long (since : Word) (ms : Nat) : Prop := ms * 8 ≤ (now - since).toNat
         let fresh : Dtmf :=
           match x.keyPresent with
           | none => .quiet
           | some j => .onset j now
         (x.feed ≠ .active →
             exec (.dtmfKeyChange l m) s = .next (s.modLoop l fun y => { y with keyPresent := key })
               ∧ exec (.dtmfOnsetQualified l) s = .next s
               ∧ exec (.dtmfDigitEnd l) s = .next s)
           ∧ (x.feed = .active →
               (x.dtmf = .quiet → (key = none → hears .quiet) ∧ ∀ j, key = some j → hears (.onset j now))
                 ∧ (x.dtmf = .onset k onset →
                     (key = none → hears .quiet) ∧ (key = some k → hears (.onset k onset))
                       ∧ ∀ j, j ≠ k → key = some j → hears (.onset j now))
                 ∧ (x.dtmf = .held k onset →
                     (key = some k → hears (.held k onset)) ∧ (key ≠ some k → hears (.release k onset now)))
                 ∧ (x.dtmf = .release k onset gap →
                     (key = some k → hears (.held k onset)) ∧ (key ≠ some k → hears (.release k onset gap)))
                 ∧ (x.dtmf = .onset k onset → long onset (s.loopSet l).toneOnMin →
                     exec (.dtmfOnsetQualified l) s = .next (s.modLoop l fun y => { y with dtmf := .held k onset }))
                 ∧ (x.dtmf = .onset k onset → ¬long onset (s.loopSet l).toneOnMin →
                     exec (.dtmfOnsetQualified l) s = .next s)
                 ∧ (x.dtmf = .release k onset gap → ¬long gap (s.loopSet l).toneOffMin →
                     exec (.dtmfDigitEnd l) s = .next s)
                 ∧ (x.dtmf = .release k onset gap → long gap (s.loopSet l).toneOffMin →
                     (gap - onset).toNat / 8 < 65536 →
                     exec (.dtmfDigitEnd l) s
                       = .next ((s.raiseDigit l k .tone (BitVec.ofNat 16 ((gap - onset).toNat / 8))).modLoop l fun y =>
                           { y with dtmf := fresh }))))

/-! ### Ringing and caller data (R129 to R145) -/

/-- RING (R131, R132, R133): on an IDLE loop, and on a TESTING one after its test is aborted with TEST_DONE
ABORTED_RING, the loop rings under a new record with the name as altered, answered CLAMPED when it was altered; refused
LOOP_BUSY in ACTIVE and BUSY in the other feed states, after BAD_PARAM for a period, mask, burst count or caller record
that fails its checks. The checks of a caller record (R133) and its name as stored: the first 15 characters, each
outside the printable range a space. The phase origin of a record that has not started, and the wait end before WAITING,
hold 0 as the model's choice (log 31). -/
def Obligations.RingAnswered : Prop :=
  ((∀ (s : State) (p : Port) (tag a n m1 m0 b count : Byte) (rest : List Byte), s.ready p →
       2 ≤ a.toNat ∨ parseFields count.toNat rest = none →
       exec (.ringReq p tag (a :: n :: m1 :: m0 :: b :: count :: rest)) s = .next (s.replied p (refusal tag .badParam)))
     ∧ ∀ (s : State) (p : Port) (tag n m1 m0 b count : Byte) (l : Loop) (rest : List Byte)
       (fields : List (Byte × List Byte)), s.ready p → parseFields count.toNat rest = some fields →
       let run : Host.Outcome State Fault Refusal :=
         exec (.ringReq p tag (Loop.byte l :: n :: m1 :: m0 :: b :: count :: rest)) s
       let given := callerOf fields
       let stored : CallerRecord := { given with name := given.name.map storedName }
       let good : Prop :=
         1 ≤ n.toNat ∧ n.toNat ≤ 16 ∧ half m1 m0 ≠ 0 ∧ (half m1 m0).toNat < 2 ^ n.toNat ∧ b ≠ 0
           ∧ fieldTypesOk fields = true ∧ given.ok = true
       let record : RingRecord :=
         { owner := p, ownerLost := false, period := n.toNat, mask := half m1 m0, phaseOrigin := 0, started := false,
           burstsLeft := b.toNat, final := false, rang := false, lastAge := none, ringAge := 0, caller := stored,
           callerState := if given.present then .awaitRunEnd else .none, waitEnd := 0, rung := 0, deferred := 0,
           suppressed := 0, bursts := 0 }
       let ringing (t : State) : State := t.modLoop l fun x => { x with feed := .ringing, ring := some record }
       let t := (s.loop l).test
       let held := if t.phase = .loop then t.nRef else 0
       (¬good → run = .next (s.replied p (refusal tag .badParam)))
         ∧ (good → (s.loop l).feed = .active → run = .next (s.replied p (refusal tag .loopBusy)))
         ∧ (good → (s.loop l).feed = .ringing ∨ (s.loop l).feed = .callerData ∨ (s.loop l).feed = .denied →
             run = .next (s.replied p (refusal tag .busy)))
         ∧ (good → (s.loop l).feed = .idle →
             run = .next ((ringing s).replied p (acceptanceOf tag (stored != given) [])))
         ∧ (good → (s.loop l).feed = .testing →
             run = .next ((ringing (((s.counted p).modLoop l fun x =>
                 { x with test := { x.test with phase := .none } }).offer t.requester
                 ⟨.testDone .abortedRing held 0 t.load false, some l, none, s.timebase⟩)).modPort p fun x =>
               { x with queue := x.queue ++ [.reply (acceptanceOf tag (stored != given) [])] })))
    ∧ (∀ r : CallerRecord,
         let withheld (c : List Byte) : Prop := c = [0x50] ∨ c = [0x4F]
         let digit (b : Byte) : Prop := 0x30 ≤ b.toNat ∧ b.toNat ≤ 0x39
         (r.ok = true ↔
             (∀ c, r.time = some c → c.length = 8 ∧ ∀ b ∈ c, digit b)
               ∧ (∀ c, r.number = some c →
                   1 ≤ c.length ∧ c.length ≤ 20 ∧ r.numberWithheld = none
                     ∧ ∀ b ∈ c, digit b ∨ b = 0x2A ∨ b = 0x23 ∨ b = 0x2B)
               ∧ (∀ c, r.numberWithheld = some c → withheld c)
               ∧ (∀ c, r.name = some c → 1 ≤ c.length ∧ c.length ≤ 64 ∧ r.nameWithheld = none)
               ∧ ∀ c, r.nameWithheld = some c → withheld c)
           ∧ (∀ (name : List Byte) (k : Nat) (b : Byte), k < 15 → name[k]? = some b →
               (storedName name)[k]? = some (if 0x20 ≤ b.toNat ∧ b.toNat ≤ 0x7E then b else 0x20))
           ∧ ∀ c : List Byte, (storedName c).length = min 15 c.length)

/-- RING_STOP (R134, R141): from the record's owner the ring ends at once, the loop becomes IDLE with polarity NORMAL,
the reply is queued and RING_DONE STOPPED follows it; refused WRONG_STATE with no record, NOT_HOLDER from another port,
BAD_PARAM for another loop. That a caller record still awaiting the end of its run is reported NOT_SENT is the model's
choice (log 18). Caller data (R142, R144, R145): at the wait end a transmission of the line message begins on an on-hook
RINGING loop; when its last sample has been sent the loop rings on, or with final set the ring is complete. The start
phase is a free value (log 12), and the first sample goes out at the next sample time, as the model's choice has it (log
32). -/
def Obligations.RingStoppedAndCallerDataSent : Prop :=
  (∀ (s : State) (p : Port) (tag : Byte), s.ready p →
     (∀ b : Byte, 2 ≤ b.toNat → exec (.ringStopReq p tag [b]) s = .next (s.replied p (refusal tag .badParam)))
       ∧ ∀ l : Loop,
           let run : Host.Outcome State Fault Refusal := exec (.ringStopReq p tag [Loop.byte l]) s
           ((s.loop l).ring = none → run = .next (s.replied p (refusal tag .wrongState)))
             ∧ ∀ r, (s.loop l).ring = some r →
                 (r.owner ≠ p → run = .next (s.replied p (refusal tag .notHolder)))
                   ∧ (r.owner = p →
                       let status : CallerState :=
                         if r.callerState = .awaitRunEnd ∨ r.callerState = .waiting then .notSent
                         else if r.callerState = .sending then .aborted
                         else r.callerState
                       run = .next (((s.replied p (acceptance tag [])).modLoop l fun x =>
                         { x with
                           ring := none, tx := none, feed := .idle, polarity := .normal, pulses := 0, dtmf := .quiet, ringSignal := false }).routeRing l p r.ownerLost
                         ⟨.ringDone .stopped ⟨status, r.rung, r.deferred, r.suppressed, r.bursts⟩, some l, none,
                           s.timebase⟩)))
    ∧ (∀ (s : State) (l : Loop) (r : RingRecord), (s.loop l).ring = some r →
         let x := s.loop l
         let begins : Prop :=
           r.callerState = .waiting ∧ reached s.timebase r.waitEnd = true ∧ x.feed = .ringing ∧ x.hook = .onhook
         (¬begins → exec (.callerWaitEnd l) s = .next s)
           ∧ (begins →
               exec (.callerWaitEnd l) s
                 = .next (({ s with freeCount := s.freeCount + 1 } : State).modLoop l fun x =>
                     { x with
                       feed := .callerData
                       ring := some { r with callerState := .sending }
                       tx := some ⟨r.caller.lineMessage, 0, Config.freeValue s.freeCount % 524288000⟩ }))
           ∧ (r.callerState ≠ .sending → exec (.callerTransmissionEnd l) s = .next s)
           ∧ ∀ t, x.tx = some t →
               let length := ceilDiv ((360 + 10 * t.message.length) * 8000) 1200
               (t.sent < length → exec (.callerTransmissionEnd l) s = .next s)
                 ∧ (r.callerState = .sending → length ≤ t.sent → r.final = false →
                     exec (.callerTransmissionEnd l) s
                       = .next (s.modLoop l fun x =>
                           { x with feed := .ringing, ring := some { r with callerState := .complete }, tx := none }))
                 ∧ (r.callerState = .sending → length ≤ t.sent → r.final = true →
                     exec (.callerTransmissionEnd l) s
                       = .next ((s.modLoop l fun x =>
                           { x with
                             ring := none, tx := none, feed := .idle, polarity := .normal, pulses := 0, dtmf := .quiet, ringSignal := false }).routeRing l r.owner r.ownerLost
                           ⟨.ringDone .completed ⟨.complete, r.rung, r.deferred, r.suppressed, r.bursts⟩, some l, none,
                             s.timebase⟩)))

/-- The ring supply arbiter (R137): one loop that wants the step is granted it; two within the budget are both granted;
otherwise one is, the loop with the older last rung step, then the one whose ring began earlier, then loop A. -/
def Obligations.SupplyArbiter : Prop :=
  ∀ (budget loadA loadB index : Nat) (a b : RingRecord),
    let grants := arbitrate budget loadA loadB index
    let older (x y : Option Nat) : Prop := (x = none ∧ y ≠ none) ∨ ∃ i j, x = some i ∧ y = some j ∧ j < i
    let first : Prop :=
      older a.lastAge b.lastAge ∨ (¬older b.lastAge a.lastAge ∧ b.ringAge ≤ a.ringAge)
    (a.wants index = true → b.wants index = false →
        grants (some a) (some b) = (true, false) ∧ grants (some a) none = (true, false))
      ∧ (a.wants index = false → b.wants index = true →
          grants (some a) (some b) = (false, true) ∧ grants none (some b) = (false, true))
      ∧ (a.wants index = false → b.wants index = false →
          grants (some a) (some b) = (false, false) ∧ grants (some a) none = (false, false)
            ∧ grants none (some b) = (false, false))
      ∧ grants none none = (false, false)
      ∧ (a.wants index = true → b.wants index = true → loadA + loadB ≤ budget →
          grants (some a) (some b) = (true, true))
      ∧ (a.wants index = true → b.wants index = true → budget < loadA + loadB →
          (first → grants (some a) (some b) = (true, false)) ∧ (¬first → grants (some a) (some b) = (false, true)))

/-- A record through a step boundary (R130, R132, R135, R136, R138, R139): the ending step is closed, a record that has
not started starts, its want is read from its mask, its step is rung, deferred, suppressed or silent with its counters,
and the first silent step after a rung one starts the caller wait. A step boundary (R129, R137, R138, R139): when the
Timebase reaches it the step index moves on, the next boundary is set cadence_step later, each record is turned, the
supply is granted and each record settled with its ring signal, and a ring that is complete ends with RING_DONE
COMPLETED. Before it nothing changes. Loop A's RING_DONE first is the model's choice (log 23). -/
def Obligations.BoundariesSettled : Prop :=
  (∀ (old : Nat) (granted : Bool) (waitEnd : Word) (r : RingRecord),
     let index := (old + 1) % 720720
     let ended : Bool := r.started && (old + 720720 - r.phaseOrigin) % 720720 % r.period + 1 == r.period && r.rang
     let turned : RingRecord :=
       if r.started then
         { r with
           ringAge := r.ringAge + 1
           lastAge := r.lastAge.map (· + 1)
           bursts := if ended then min 65535 (r.bursts + 1) else r.bursts
           burstsLeft := if ended && r.burstsLeft != 255 then r.burstsLeft - 1 else r.burstsLeft
           final := r.final || (ended && r.burstsLeft != 255 && r.burstsLeft - 1 == 0)
           rang := r.rang && !ended }
       else { r with started := true, phaseOrigin := index }
     let own := (index + 720720 - turned.phaseOrigin) % 720720 % r.period
     let busy : Bool := turned.callerState == .waiting || turned.callerState == .sending
     let flagged := turned.mask.getLsbD own
     let wants : Bool := flagged && !turned.final && !busy
     let settled : RingRecord :=
       if wants && granted then
         { turned with rung := min 65535 (turned.rung + 1), rang := true, lastAge := some 0 }
       else if wants then { turned with deferred := min 65535 (turned.deferred + 1) }
       else if flagged && !turned.final && busy then { turned with suppressed := min 65535 (turned.suppressed + 1) }
       else turned
     (r.closeStep old).start index = turned
       ∧ turned.wants index = wants
       ∧ turned.settleStep index granted = settled
       ∧ settled.settleCaller turned.wasRung granted waitEnd
         = if settled.callerState = .awaitRunEnd ∧ turned.lastAge = some 1 ∧ granted = false then
             { settled with callerState := .waiting, waitEnd := waitEnd }
           else settled)
    ∧ (∀ s : State,
         (reached s.timebase s.nextBoundary = false → exec .stepBoundary s = .next s)
           ∧ (reached s.timebase s.nextBoundary = true →
               let index := (s.stepIndex + 1) % 720720
               let waitEnd := s.nextBoundary + msSpan s.live.global.callerDelay
               let turned (l : Loop) : Option RingRecord :=
                 (s.loop l).ring.map fun r => (r.closeStep s.stepIndex).start index
               let load (l : Loop) : Nat := (s.loop l).test.load.getD s.live.global.assumedLoad
               let grants := arbitrate s.live.global.ringBudget (load .a) (load .b) index (turned .a) (turned .b)
               let granted (l : Loop) : Bool := if l = .a then grants.1 else grants.2
               let settled (l : Loop) : LoopState :=
                 match turned l with
                 | none => s.loop l
                 | some r =>
                   { s.loop l with
                     ring := some ((r.settleStep index (granted l)).settleCaller r.wasRung (granted l) waitEnd)
                     ringSignal := granted l }
               let complete (t : State) (l : Loop) : State :=
                 match (t.loop l).ring with
                 | some r =>
                   if r.final = true ∧ r.callerState ≠ .waiting ∧ r.callerState ≠ .sending then
                     (t.modLoop l fun x =>
                       { x with
                         ring := none, tx := none, feed := .idle, polarity := .normal, pulses := 0, dtmf := .quiet, ringSignal := false }).routeRing l r.owner r.ownerLost
                       ⟨.ringDone .completed
                         ⟨if r.callerState = .awaitRunEnd then .notSent else r.callerState, r.rung, r.deferred,
                           r.suppressed, r.bursts⟩, some l, none, s.timebase⟩
                   else t
                 | none => t
               exec .stepBoundary s
                 = .next (complete (complete
                     { s with
                       stepIndex := index
                       nextBoundary := s.nextBoundary + msSpan s.live.global.cadenceStep
                       loops := ⟨settled .a, settled .b⟩ } .a) .b)))

/-- The line message (R143): type, length, the fields present in type order, and a checksum that makes the sum of every
byte 0; a record that passes its checks gives a message of 6 to 52 bytes. The bits and the length of a caller
transmission (R144): 240 alternating bits from a space, 120 marks, each byte with a start bit, eight data bits least
significant first and a stop bit; bit k begins at ceil (k * 8000 / 1200), and the last bit ends with the transmission.
-/
def Obligations.LineMessageAndItsBits : Prop :=
  (∀ r : CallerRecord,
     let field (type : Byte) (x : Option (List Byte)) : List Byte :=
       match x with
       | none => []
       | some c => [type, BitVec.ofNat 8 c.length] ++ c
     let fields :=
       field 0x11 r.time ++ field 0x12 r.number ++ field 0x13 r.numberWithheld ++ field 0x14 r.name
         ++ field 0x15 r.nameWithheld
     (∃ checksum : Byte, r.lineMessage = [0x5A, BitVec.ofNat 8 fields.length] ++ fields ++ [checksum])
       ∧ r.lineMessage.foldl (· + ·) 0 = 0
       ∧ (r.ok = true → r.present = true →
           6 ≤ r.stored.lineMessage.length ∧ r.stored.lineMessage.length ≤ 52))
    ∧ (∀ (message : List Byte),
         (∀ k, k < 240 → txBit message k = (k % 2 == 1))
           ∧ (∀ k, 240 ≤ k → k < 360 → txBit message k = true)
           ∧ (∀ (i : Nat) (b : Byte), message[i]? = some b →
               txBit message (360 + 10 * i) = false
                 ∧ (∀ j, j < 8 → txBit message (361 + 10 * i + j) = b.getLsbD j)
                 ∧ txBit message (369 + 10 * i) = true)
           ∧ (∀ n k : Nat, txBitIndex n = k ↔ ceilDiv (k * 8000) 1200 ≤ n ∧ n < ceilDiv ((k + 1) * 8000) 1200)
           ∧ txLength message = ceilDiv ((360 + 10 * message.length) * 8000) 1200)

/-! ### Loop audio (R150 to R160) -/

/-- TONE from a port with authority (R157, R156, R160): a program that is not empty starts as a REQUESTED tone, the tone
it replaces ends REPLACED, and the reply comes before its TONE_DONE; refused BAD_PARAM for another loop, NOT_HOLDER
without authority, then BAD_PARAM for an empty program or none. TONE_STOP (R159): BAD_PARAM for a loop other than A or
B, NOT_HOLDER without authority, WRONG_STATE when the player is IDLE; otherwise OK, and the tone of any kind ends with
cause STOPPED after the reply. -/
def Obligations.TonesAnswered : Prop :=
  (∀ (s : State) (p : Port) (tag n : Byte), s.ready p →
     (∀ b : Byte, 2 ≤ b.toNat → exec (.toneReq p tag [b, n]) s = .next (s.replied p (refusal tag .badParam)))
       ∧ ∀ l : Loop,
           let run : Host.Outcome State Fault Refusal := exec (.toneReq p tag [Loop.byte l, n]) s
           let mayAct : Prop := s.leadOf l = none ∨ ∃ c, s.leadOf l = some c ∧ (s.chan c).heldBy p = true
           (¬mayAct → run = .next (s.replied p (refusal tag .notHolder)))
             ∧ (mayAct → 8 ≤ n.toNat → run = .next (s.replied p (refusal tag .badParam)))
             ∧ ∀ k : Fin 8, mayAct → n.toNat = k.val →
                 ((s.live.programs.get k).segments = [] → run = .next (s.replied p (refusal tag .badParam)))
                   ∧ ((s.live.programs.get k).segments ≠ [] →
                       run = .next (((s.replied p (acceptance tag [])).endTone l .replaced s.timebase).modLoop l fun x =>
                         { x with
                           player := some
                             { kind := .requested, requester := p, number := k, program := s.live.programs.get k,
                               segIndex := 0, segSample := 0, passes := 0, complete := none } })))
    ∧ (∀ (s : State) (p : Port) (tag : Byte), s.ready p →
         (∀ b : Byte, 2 ≤ b.toNat → exec (.toneStopReq p tag [b]) s = .next (s.replied p (refusal tag .badParam)))
           ∧ ∀ l : Loop,
               let run : Host.Outcome State Fault Refusal := exec (.toneStopReq p tag [Loop.byte l]) s
               let mayAct : Prop := s.leadOf l = none ∨ ∃ c, s.leadOf l = some c ∧ (s.chan c).heldBy p = true
               (¬mayAct → run = .next (s.replied p (refusal tag .notHolder)))
                 ∧ (mayAct → (s.loop l).player = none → run = .next (s.replied p (refusal tag .wrongState)))
                 ∧ ∀ t, mayAct → (s.loop l).player = some t →
                     run = .next ((s.replied p (acceptance tag [])).endTone l .stopped s.timebase))

/-- What the end of a tone does (R158, R160, R123, R15): the player becomes IDLE; a REQUESTED tone raises TONE_DONE with
its cause for its requester, an AUTO one clears the auto tone flag, and a PARK_LOST one with a denial pending denies an
ACTIVE loop when it has completed and cancels the denial otherwise. A program that has played its last sample ends
COMPLETED, dated at the following sample time. The player through one sample (R153): within the segment, to the next
segment, to the next pass, or complete at the following sample time; a hold segment and repeat count 0 go on without
end. Every kind of tone starts with a copy of its program and replaces the tone that plays (R156). That TONE_COMPLETE
acts on the moment SAMPLE_TIME latched, and that the passes done stop at 255, are the model's choices (logs 22, 33). -/
def Obligations.TonesAdvanceAndEnd : Prop :=
  (∀ (s : State) (l : Loop) (cause : ToneCause) (moment : Word),
     ((s.loop l).player = none → s.endTone l cause moment = s)
       ∧ (∀ t, (s.loop l).player = some t →
           (t.kind = .requested →
               s.endTone l cause moment
                 = (s.modLoop l fun x => { x with player := none }).offer t.requester
                     ⟨.toneDone t.number cause, some l, none, moment⟩)
             ∧ (t.kind = .auto →
                 s.endTone l cause moment = s.modLoop l fun x => { x with player := none, autoTone := false })
             ∧ (t.kind = .parkLost → (s.loop l).lostDenial = none →
                 s.endTone l cause moment = s.modLoop l fun x => { x with player := none })
             ∧ (∀ ms, t.kind = .parkLost → (s.loop l).lostDenial = some ms →
                 cause ≠ .completed ∨ (s.loop l).feed ≠ .active →
                 s.endTone l cause moment = s.modLoop l fun x => { x with player := none, lostDenial := none })
             ∧ ∀ ms, t.kind = .parkLost → (s.loop l).lostDenial = some ms → cause = .completed →
                 (s.loop l).feed = .active →
                 s.endTone l cause moment
                   = s.modLoop l fun x =>
                       { x with
                         player := none
                         lostDenial := none
                         feed := .denied
                         denyEnd := moment + msSpan ms
                         hook := if x.hook = .brk then .offhook else x.hook
                         pulses := 0
                         dtmf := .quiet })
       ∧ ((∀ t, (s.loop l).player = some t → t.complete = none) → exec (.toneComplete l) s = .next s)
       ∧ ∀ t at_, (s.loop l).player = some t → t.complete = some at_ →
           exec (.toneComplete l) s = .next (s.endTone l .completed at_))
    ∧ (∀ (now : Word) (t : Tone) (g : Segment), t.program.segments[t.segIndex]? = some g → t.complete = none →
         let lastSample : Prop := g.duration ≠ 0 ∧ g.duration * 8 ≤ t.segSample + 1
         let lastSegment : Prop := t.segIndex + 1 = t.program.segments.length
         let passes := min 255 (t.passes + 1)
         (¬lastSample → t.advance now = { t with segSample := t.segSample + 1 })
           ∧ (lastSample → ¬lastSegment → t.advance now = { t with segIndex := t.segIndex + 1, segSample := 0 })
           ∧ (lastSample → lastSegment → t.program.repeats = 0 ∨ t.passes + 1 < t.program.repeats →
               t.advance now = { t with passes := passes, segIndex := 0, segSample := 0 })
           ∧ (lastSample → lastSegment → t.program.repeats ≠ 0 → t.program.repeats ≤ t.passes + 1 →
               t.advance now = { t with passes := passes, complete := some (now + 1) })
           ∧ t.sample? = some (Segment.sample g t.segSample))
    ∧ (∀ (s : State) (l : Loop) (kind : ToneKind) (requester : Port) (n : Fin 8),
         s.startTone l kind requester n
           = (s.endTone l .replaced s.timebase).modLoop l fun x =>
               { x with
                 player := some
                   { kind := kind, requester := requester, number := n, program := s.live.programs.get n,
                     segIndex := 0, segSample := 0, passes := 0, complete := none } })

/-- The samples of a tone (R153): a segment's amplitude is the whole part of 16384 * 10^(-level/20), each component a
sine of its frequency that starts with the segment, and the sample their sum rounded toward zero and saturated. The
samples of a caller transmission (R144): a sine of amplitude 3667 at the phase of the transmitter, rounded to one of its
neighbours, which of them the spec does not say (log 12). The sine before the rounding is known to 2^-39 (log 11). -/
def Obligations.SamplesFollowTheSine : Prop :=
  (∀ level : Nat, level ≤ 45 →
     amplitude level ^ 20 * 10 ^ level ≤ 16384 ^ 20 ∧ 16384 ^ 20 < (amplitude level + 1) ^ 20 * 10 ^ level)
    ∧ (∀ (g : Segment) (n : Nat),
         let part (f : Nat) : ℝ :=
           if f = 0 then 0 else (amplitude g.level : ℝ) * Real.sin (2 * Real.pi * (f : ℝ) * (n : ℝ) / 8000)
         ∃ y : ℝ, |y - (part g.f1 + part g.f2)| ≤ 1 / 2 ^ 39
           ∧ (0 ≤ y → Segment.sample g n = saturate ⌊y⌋) ∧ (y < 0 → Segment.sample g n = saturate ⌈y⌉))
    ∧ (∀ phase : Nat,
         ∃ y : ℝ, |y - 3667 * Real.sin (2 * Real.pi * (phase : ℝ) / 524288000)| ≤ 1 / 2 ^ 39
           ∧ ((txSample phase).toInt = ⌊y⌋ ∨ (txSample phase).toInt = ⌈y⌉))

/-- TONE_DEFINE from any UP port (R154, R153): levels and durations are brought into range and the program is stored and
carried in the reply; BAD_PARAM for a program number outside 0..7, a count above 4, a frequency above 3999 or a hold
before the last segment; BUSY while a tone of that number plays on either loop. That a program without segments keeps
the repeat count given, and that levels are read as unsigned, is the model's (logs 26, 39). -/
def Obligations.ToneDefineStores : Prop :=
  ∀ (s : State) (p : Port) (tag number count repeats : Byte) (rest : List Byte) (segments : List Segment),
    s.ready p → parseSegments count.toNat rest = some segments →
    let run : Host.Outcome State Fault Refusal := exec (.toneDefineReq p tag (number :: count :: repeats :: rest)) s
    let good : Prop :=
      segments.length ≤ 4 ∧ (∀ g ∈ segments, g.f1 ≤ 3999 ∧ g.f2 ≤ 3999) ∧ ∀ g ∈ segments.dropLast, g.duration ≠ 0
    let fitted := segments.map fun g =>
      { g with
        level := min g.level 45
        duration := if g.duration = 0 then 0 else (clampNat 10 10000 g.duration + 5) / 10 * 10 }
    (8 ≤ number.toNat ∨ ¬good → run = .next (s.replied p (refusal tag .badParam)))
      ∧ ∀ k : Fin 8, number.toNat = k.val → good →
          let playing : Prop := ∃ l t, (s.loop l).player = some t ∧ t.number = k
          (playing → run = .next (s.replied p (refusal tag .busy)))
            ∧ (¬playing →
                run = .next (({ s with
                    live :=
                      { s.live with
                        programs := s.live.programs.set k.val ⟨fitted, repeats.toNat⟩ k.isLt } } : State).replied p
                  (acceptanceOf tag (fitted != segments)
                    ([BitVec.ofNat 8 k.val, BitVec.ofNat 8 segments.length, repeats]
                      ++ fitted.flatMap fun g => nat16 g.f1 ++ nat16 g.f2 ++ [BitVec.ofNat 8 g.level]
                          ++ nat16 g.duration))))

/-- A sample time (R150, R151, R80, R50, R144, R153, R112): the Timebase moves on, but for the first sample after a
start-up; each loop's codec is handed the caller transmission's sample, or else the tone's or the saturated sum of its
VOICED channels, with rx_gain; the gained line sample and the channels' outputs join the loop block, whose 80th closes
it; each attached channel moves on, and its tick is due after its block's last sample; in ACTIVE the key on the line is
judged (R120, R121). The model's own are how the Timebase dates a sample and how long a codec sample is kept (logs 1,
25), that a closed block which has not been taken gives way to the next (log 22), that a late channel hands 0 and that a
finished transmission or a complete tone lets the channels' sum pass (log 4), and the sample at which a key that was on
the line before ACTIVE is judged (log 36). -/
def Obligations.SampleAssembled : Prop :=
  ∀ (s : State) (lineA lineB : Sample),
    let now := if s.sampleDue then s.timebase else s.timebase + 1
    let out (c : Chan) : Sample :=
      match (s.chan c).pe.current with
      | none => 0
      | some b => b.samples.getD b.pos 0
    let attached (l : Loop) (c : Chan) : Bool := (s.chan c).state != .idle && (s.chan c).loop == l
    let voiced (l : Loop) (c : Chan) : Int :=
      if attached l c ∧ (s.chan c).voice = .voiced then (out c).toInt else 0
    let tone (l : Loop) : Option Sample :=
      match (s.loop l).player with
      | some t => t.sample?
      | none => none
    let value (l : Loop) : Sample :=
      (tone l).getD (saturate (voiced l .c0 + voiced l .c1 + voiced l .c2 + voiced l .c3))
    let caller (l : Loop) : Option Sample :=
      match (s.loop l).tx with
      | some t => if (s.loop l).feed = .callerData ∧ t.sent < txLength t.message then some (txSample t.phase) else none
      | none => none
    let codec (l : Loop) : Sample := (caller l).getD (applyGain (value l) (s.loopSet l).rxGain)
    let given (l : Loop) (c : Chan) : Option ChanOut := if attached l c then some ⟨out c, none⟩ else none
    let mix (l : Loop) (line : Sample) : MixSample :=
      ⟨applyGain line (s.loopSet l).txGain, ⟨given l .c0, given l .c1, given l .c2, given l .c3⟩⟩
    let played (c : Chan) : Channel :=
      let ch := s.chan c
      if ch.state = .idle then ch
      else
        match ch.pe.current with
        | none => { ch with pe := { ch.pe with tickDue := true } }
        | some b =>
          { ch with
            pe :=
              { ch.pe with
                current := some { b with pos := min (b.pos + 1) b.samples.length }
                tickDue := ch.pe.tickDue || decide (b.samples.length ≤ b.pos + 1) } }
    let loop (l : Loop) (line : Sample) : LoopState :=
      let x := s.loop l
      let start := if x.block = [] then now else x.blockStart
      let full := x.block ++ [mix l line]
      let raw : RawState :=
        if x.feed = .denied then x.raw
        else if (s.loopSet l).hookThreshold * 1000 ≤ x.current.natAbs then .off
        else .on
      let heard : Dtmf :=
        match x.dtmf, x.keyPresent with
        | .quiet, none => .quiet
        | .quiet, some k => .onset k now
        | .onset _ _, none => .quiet
        | .onset k since, some j => if j = k then .onset k since else .onset j now
        | .held k since, key => if key = some k then .held k since else .release k since now
        | .release k since gap, key => if key = some k then .held k since else .release k since gap
      { x with
        codec := codec l
        dtmf := if x.feed = .active then heard else x.dtmf
        player := x.player.map (Tone.advance now)
        tx := x.tx.map fun t =>
          if txLength t.message ≤ t.sent then t
          else
            { t with
              sent := t.sent + 1
              phase := (t.phase + (if txBit t.message (3 * t.sent / 20) then 1200 else 2200) * 65536) % 524288000 }
        blockStart := start
        block := if 80 ≤ full.length then [] else full
        closed := if 80 ≤ full.length then some ⟨start, now + 1, full⟩ else x.closed
        raw := raw
        rawEdge := if raw = x.raw then x.rawEdge else now }
    exec (.sampleTime lineA lineB) s
      = .next
          { s with
            timebase := now
            sampleDue := false
            chans := ⟨played .c0, played .c1, played .c2, played .c3⟩
            loops := ⟨loop .a lineA, loop .b lineB⟩ }

/-! ### Ringer load measurement (R163 to R166) -/

/-- TEST (R163): on an IDLE loop it begins the REF phase for the gate in force and is answered OK; refused LOOP_BUSY in
ACTIVE, BUSY in the other feed states, BAD_PARAM for another loop. The ends of a test's phases (R164, R165, R167): the
REF count is held and the LOOP phase begins; at the end of that one a reference below 256 is REF_FAULT with the load
left as it stood, and otherwise the load is ten times the ratio of the counts to the nearest whole number, halves
upward, at most 99 with OVER; the loop becomes IDLE and TEST_DONE goes to the requester. Counts stop at 65535; before
its phase end nothing changes. -/
def Obligations.LoadTested : Prop :=
  (∀ (s : State) (p : Port) (tag : Byte), s.ready p →
     (∀ b : Byte, 2 ≤ b.toNat → exec (.testReq p tag [b]) s = .next (s.replied p (refusal tag .badParam)))
       ∧ ∀ l : Loop,
           let run : Host.Outcome State Fault Refusal := exec (.testReq p tag [Loop.byte l]) s
           let gate := s.live.global.testGate
           ((s.loop l).feed = .active → run = .next (s.replied p (refusal tag .loopBusy)))
             ∧ ((s.loop l).feed ≠ .active → (s.loop l).feed ≠ .idle → run = .next (s.replied p (refusal tag .busy)))
             ∧ ((s.loop l).feed = .idle →
                 run = .next ((s.modLoop l fun x =>
                   { x with
                     feed := .testing
                     test :=
                       { x.test with
                         phase := .ref
                         requester := p
                         gate := gate
                         gateLength := ceilDiv gate 128
                         phaseEnd := s.timebase + BitVec.ofNat 32 (ceilDiv gate 128)
                         nRef := 0
                         nLoop := 0 } }).replied p (acceptance tag []))))
    ∧ (∀ (s : State) (l : Loop) (count : Nat),
         let t := (s.loop l).test
         let held := min 65535 count
         let ended : Prop := reached s.timebase t.phaseEnd = true
         let load := (20 * held + t.nRef) / (2 * t.nRef)
         let finish (outcome : TestOutcome) (result : Option Nat) (isOver : Bool) : Host.Outcome State Fault Refusal :=
           .next ((s.modLoop l fun x =>
             { x with
               feed := .idle, polarity := .normal, pulses := 0, dtmf := .quiet, ringSignal := false,
               test := { x.test with phase := .none, nLoop := held, load := result } }).offer t.requester
             ⟨.testDone outcome t.nRef held result isOver, some l, none, s.timebase⟩)
         (t.phase ≠ .ref ∨ ¬ended → exec (.refPhaseEnd l count) s = .next s)
           ∧ (t.phase = .ref → ended →
               exec (.refPhaseEnd l count) s
                 = .next (s.modLoop l fun x =>
                     { x with
                       test :=
                         { x.test with
                           phase := .loop
                           nRef := held
                           phaseEnd := x.test.phaseEnd + BitVec.ofNat 32 x.test.gateLength } }))
           ∧ (t.phase ≠ .loop ∨ ¬ended → exec (.loopPhaseEnd l count) s = .next s)
           ∧ (t.phase = .loop → ended → t.nRef < 256 →
               exec (.loopPhaseEnd l count) s = finish .refFault t.load false)
           ∧ (t.phase = .loop → ended → 256 ≤ t.nRef → load ≤ 99 →
               exec (.loopPhaseEnd l count) s = finish .completed (some load) false)
           ∧ (t.phase = .loop → ended → 256 ≤ t.nRef → 99 < load →
               exec (.loopPhaseEnd l count) s = finish .completed (some 99) true))

/-! ### Settings, profiles, start-up (R185 to R195, R34) -/

/-- SET of the global keys and the reserves (R186, R34, R129): the value stored under each key, brought into range; a
reserve is refused WRONG_STATE while any channel is not IDLE and BAD_PARAM when the four would exceed 256, and otherwise
splits the pool again. SET of the per-loop and per-port keys (R186, R187, R112, R119): the value stored under each key,
brought into range; a timing that would break the order of the three breaks, and a value the key cannot take, are
refused BAD_PARAM. SET of the channel template (R186, R187): the value stored under each key, brought into range and
against the other depths; the channels already open stay as they are. -/
def Obligations.SettingsStored : Prop :=
  (∀ (s : State) (p : Port) (tag v3 v2 v1 v0 : Byte), s.ready p →
     let v := (word v3 v2 v1 v0).toNat
     let run (key index : Byte) : Host.Outcome State Fault Refusal :=
       exec (.setReq p tag [key, index, v3, v2, v1, v0]) s
     let reply (n : Nat) : Reply := acceptanceOf tag (n != v) (bytes32 (BitVec.ofNat 32 n))
     let stores (key : Byte) (n : Nat) (f : GlobalSettings → GlobalSettings) : Prop :=
       run key 0 = .next (({ s with live := { s.live with global := f s.live.global } } : State).replied p (reply n))
     let step := (2 * clampNat 50 1000 v + 50) / 100 * 50
     stores 0x01 step (fun g => { g with cadenceStep := step })
       ∧ stores 0x02 (clampNat 10 99 v) (fun g => { g with ringBudget := clampNat 10 99 v })
       ∧ stores 0x03 (min 99 v) (fun g => { g with assumedLoad := min 99 v })
       ∧ stores 0x04 (clampNat 200 1000 v) (fun g => { g with callerDelay := clampNat 200 1000 v })
       ∧ stores 0x05 (clampNat 4096 65535 v) (fun g => { g with testGate := clampNat 4096 65535 v })
       ∧ stores 0x06 (min 32767 v) (fun g => { g with silenceLevel := min 32767 v })
       ∧ stores 0x07 (clampNat 200 1000 v) (fun g => { g with toneDataMin := clampNat 200 1000 v })
       ∧ (∀ c : Chan,
           let key : Byte := 0x08 + Chan.byte c
           let reserve := s.live.global.reserve.put c (min 128 v)
           let open_ : Prop := ∃ d, (s.chan d).state ≠ .idle
           (open_ → run key 0 = .next (s.replied p (refusal tag .wrongState)))
             ∧ (¬open_ → 256 < reserve.total → run key 0 = .next (s.replied p (refusal tag .badParam)))
             ∧ (¬open_ → reserve.total ≤ 256 →
                 run key 0
                   = .next (({ s with
                       live := { s.live with global := { s.live.global with reserve := reserve } }
                       pool := { s.pool with free := reserve, shared := 256 - reserve.total } } : State).replied p
                     (reply (min 128 v)))))
       ∧ ∀ key index : Byte, key = 0x00 ∨ (0x0C ≤ key.toNat ∧ key.toNat < 0x20)
             ∨ (0x30 ≤ key.toNat ∧ key.toNat < 0x40) ∨ (0x42 ≤ key.toNat ∧ key.toNat < 0x60) ∨ 0x6F ≤ key.toNat
             ∨ (index ≠ 0 ∧ (key.toNat < 0x20 ∨ 0x60 ≤ key.toNat)) ∨ 3 ≤ index.toNat
             ∨ (index = 2 ∧ 0x20 ≤ key.toNat ∧ key.toNat < 0x40) →
           run key index = .next (s.replied p (refusal tag .badParam)))
    ∧ (∀ (s : State) (p : Port) (tag v3 v2 v1 v0 : Byte), s.ready p →
         let v := (word v3 v2 v1 v0).toNat
         let run (key index : Byte) : Host.Outcome State Fault Refusal :=
           exec (.setReq p tag [key, index, v3, v2, v1, v0]) s
         let reply (n : Nat) : Reply := acceptanceOf tag (n != v) (bytes32 (BitVec.ofNat 32 n))
         let refused (key index : Byte) : Prop := run key index = .next (s.replied p (refusal tag .badParam))
         (∀ l : Loop,
             let set := s.loopSet l
             let stores (key : Byte) (n : Nat) (f : LoopSettings → LoopSettings) : Prop :=
               run key (Loop.byte l)
                 = .next (({ s with live := { s.live with loop := s.live.loop.put l (f set) } } : State).replied p (reply n))
             let threshold := if v < 9 then 8 else if v < 11 then 10 else if v < 14 then 12 else 15
             stores 0x20 threshold (fun x => { x with hookThreshold := threshold })
               ∧ stores 0x21 (clampNat 10 100 v) (fun x => { x with hookQualify := clampNat 10 100 v })
               ∧ (let n := clampNat 20 150 v
                  if n < set.flashMin ∧ set.flashMin < set.hangupMin then
                    stores 0x22 n (fun x => { x with pulseBreakMax := n })
                  else refused 0x22 (Loop.byte l))
               ∧ (let n := clampNat 100 800 v
                  if set.pulseBreakMax < n ∧ n < set.hangupMin then stores 0x23 n (fun x => { x with flashMin := n })
                  else refused 0x23 (Loop.byte l))
               ∧ (let n := clampNat 300 2000 v
                  if set.pulseBreakMax < set.flashMin ∧ set.flashMin < n then
                    stores 0x24 n (fun x => { x with hangupMin := n })
                  else refused 0x24 (Loop.byte l))
               ∧ stores 0x25 (clampNat 100 1000 v) (fun x => { x with interdigitMin := clampNat 100 1000 v })
               ∧ stores 0x26 (clampNat 20 200 v) (fun x => { x with toneOnMin := clampNat 20 200 v })
               ∧ stores 0x27 (clampNat 20 200 v) (fun x => { x with toneOffMin := clampNat 20 200 v })
               ∧ (v < 2 → stores 0x28 v (fun x => { x with autoDialTone := v == 1 }))
               ∧ (∀ k : Fin 8, v = k.val → stores 0x29 v (fun x => { x with dialProgram := k }))
               ∧ (v < 8 → stores 0x2A v (fun x => { x with offerSet := ⟨v.testBit 0, v.testBit 1, v.testBit 2⟩ }))
               ∧ stores 0x2B (min 1024 v) (fun x => { x with rxGain := min 1024 v })
               ∧ stores 0x2C (min 1024 v) (fun x => { x with txGain := min 1024 v })
               ∧ (v < 2 → stores 0x2D v (fun x => { x with denyOnLoss := v == 1 }))
               ∧ stores 0x2E (clampNat 100 2000 v) (fun x => { x with denyTime := clampNat 100 2000 v })
               ∧ (∀ k : Fin 8, v = k.val → stores 0x2F v (fun x => { x with parkLostProgram := some k }))
               ∧ (v = 255 → stores 0x2F v (fun x => { x with parkLostProgram := none }))
               ∧ (2 ≤ v → refused 0x28 (Loop.byte l) ∧ refused 0x2D (Loop.byte l))
               ∧ (8 ≤ v → refused 0x29 (Loop.byte l) ∧ refused 0x2A (Loop.byte l)
                   ∧ (v ≠ 255 → refused 0x2F (Loop.byte l))))
           ∧ ∀ q : Port,
               let set := s.live.port.get q
               let stores (key : Byte) (n : Nat) (f : PortSettings → PortSettings) : Prop :=
                 run key (Port.byte q)
                   = .next { s.replied p (reply n) with live := { s.live with port := s.live.port.put q (f set) } }
               stores 0x40 (clampNat 20 2000 v) (fun x => { x with silenceTime := clampNat 20 2000 v })
                 ∧ (word v3 v2 v1 v0 &&& 0xFFFFC001#32 = 0#32 →
                     stores 0x41 v (fun x => { x with noticeMask := word v3 v2 v1 v0 }))
                 ∧ (word v3 v2 v1 v0 &&& 0xFFFFC001#32 ≠ 0#32 → refused 0x41 (Port.byte q)))
    ∧ (∀ (s : State) (p : Port) (tag v3 v2 v1 v0 : Byte), s.ready p → ChannelInRange s.live.template →
         let v := (word v3 v2 v1 v0).toNat
         let set := s.live.template
         let run (key : Byte) : Host.Outcome State Fault Refusal := exec (.setReq p tag [key, 0, v3, v2, v1, v0]) s
         let stores (key : Byte) (n : Nat) (new : ChannelSettings) : Prop :=
           run key
             = .next (({ s with live := { s.live with template := new } } : State).replied p
                 (acceptanceOf tag (n != v) (bytes32 (BitVec.ofNat 32 n))))
         let low := clampNat 1 set.depthMax v
         let high := clampNat 2 64 v
         let start := clampNat set.depthMin set.depthMax v
         let span := if v < 24000 then 16000 else if v < 48000 then 32000 else if v < 96000 then 64000 else 128000
         stores 0x60 low { set with depthMin := low, depthStart := clampNat low set.depthMax set.depthStart }
           ∧ stores 0x61 high
               { set with
                 depthMax := high, depthMin := min set.depthMin high, dataDepth := min set.dataDepth high,
                 depthStart := clampNat (min set.depthMin high) high set.depthStart }
           ∧ stores 0x62 start { set with depthStart := start }
           ∧ stores 0x63 (min 800 v) { set with guard := min 800 v }
           ∧ stores 0x64 span { set with window := span }
           ∧ stores 0x65 (min 3 v) { set with smoothing := min 3 v }
           ∧ stores 0x66 (clampNat 2 set.depthMax v) { set with dataDepth := clampNat 2 set.depthMax v }
           ∧ stores 0x67 (clampNat 1 8 v) { set with dataSlack := clampNat 1 8 v }
           ∧ stores 0x68 (clampNat 4 32 v) { set with history := clampNat 4 32 v }
           ∧ stores 0x69 (min 3 v) { set with redundancy := min 3 v }
           ∧ stores 0x6A (clampNat 1 4 v) { set with packet := clampNat 1 4 v }
           ∧ (v < 2 → stores 0x6B v { set with autoData := v == 1 } ∧ stores 0x6C v { set with suppressDigits := v == 1 })
           ∧ (2 ≤ v → run 0x6B = .next (s.replied p (refusal tag .badParam))
               ∧ run 0x6C = .next (s.replied p (refusal tag .badParam)))
           ∧ stores 0x6D (clampNat 100 10000 v) { set with parkTime := clampNat 100 10000 v }
           ∧ stores 0x6E (min 5000 v) { set with drainLimit := min 5000 v })

/-- GET (R188): the live value of the key and index named, and nothing changes; an unknown key or a bad index is refused
BAD_PARAM. INQUIRE (R189, R182, R200): 108 bytes that report the part as it stands, and nothing changes. -/
def Obligations.SettingsReadAndReported : Prop :=
  (∀ (s : State) (p : Port) (tag : Byte), s.ready p →
     let run (key index : Byte) : Host.Outcome State Fault Refusal := exec (.getReq p tag [key, index]) s
     let reads (key index : Byte) (n : Nat) : Prop :=
       run key index = .next (s.replied p (acceptance tag (bytes32 (BitVec.ofNat 32 n))))
     let g := s.live.global
     let t := s.live.template
     let flag (b : Bool) : Nat := if b then 1 else 0
     (reads 0x01 0 g.cadenceStep ∧ reads 0x02 0 g.ringBudget ∧ reads 0x03 0 g.assumedLoad ∧ reads 0x04 0 g.callerDelay
         ∧ reads 0x05 0 g.testGate ∧ reads 0x06 0 g.silenceLevel ∧ reads 0x07 0 g.toneDataMin
         ∧ ∀ c, reads (0x08 + Chan.byte c) 0 (g.reserve.get c))
       ∧ (∀ l : Loop,
           let x := s.loopSet l
           let i := Loop.byte l
           reads 0x20 i x.hookThreshold ∧ reads 0x21 i x.hookQualify ∧ reads 0x22 i x.pulseBreakMax
             ∧ reads 0x23 i x.flashMin ∧ reads 0x24 i x.hangupMin ∧ reads 0x25 i x.interdigitMin
             ∧ reads 0x26 i x.toneOnMin ∧ reads 0x27 i x.toneOffMin ∧ reads 0x28 i (flag x.autoDialTone)
             ∧ reads 0x29 i x.dialProgram.val
             ∧ reads 0x2A i (flag x.offerSet.p0 + 2 * flag x.offerSet.p1 + 4 * flag x.offerSet.p2)
             ∧ reads 0x2B i x.rxGain ∧ reads 0x2C i x.txGain ∧ reads 0x2D i (flag x.denyOnLoss)
             ∧ reads 0x2E i x.denyTime ∧ reads 0x2F i ((x.parkLostProgram.map (·.val)).getD 255))
       ∧ (∀ q : Port, reads 0x40 (Port.byte q) (s.live.port.get q).silenceTime
           ∧ reads 0x41 (Port.byte q) (s.live.port.get q).noticeMask.toNat)
       ∧ (reads 0x60 0 t.depthMin ∧ reads 0x61 0 t.depthMax ∧ reads 0x62 0 t.depthStart ∧ reads 0x63 0 t.guard
           ∧ reads 0x64 0 t.window ∧ reads 0x65 0 t.smoothing ∧ reads 0x66 0 t.dataDepth ∧ reads 0x67 0 t.dataSlack
           ∧ reads 0x68 0 t.history ∧ reads 0x69 0 t.redundancy ∧ reads 0x6A 0 t.packet ∧ reads 0x6B 0 (flag t.autoData)
           ∧ reads 0x6C 0 (flag t.suppressDigits) ∧ reads 0x6D 0 t.parkTime ∧ reads 0x6E 0 t.drainLimit)
       ∧ ∀ key index : Byte, key = 0x00 ∨ (0x0C ≤ key.toNat ∧ key.toNat < 0x20)
             ∨ (0x30 ≤ key.toNat ∧ key.toNat < 0x40) ∨ (0x42 ≤ key.toNat ∧ key.toNat < 0x60) ∨ 0x6F ≤ key.toNat
             ∨ (index ≠ 0 ∧ (key.toNat < 0x20 ∨ 0x60 ≤ key.toNat)) ∨ 3 ≤ index.toNat
             ∨ (index = 2 ∧ 0x20 ≤ key.toNat ∧ key.toNat < 0x40) →
           run key index = .next (s.replied p (refusal tag .badParam)))
    ∧ (∀ (s : State) (p : Port) (tag : Byte), s.ready p →
         let flag (b : Bool) : Byte := if b then 1 else 0
         let loop (l : Loop) : List Byte := [(s.loop l).feed.byte, (s.loop l).hook.byte, flag (s.leadOf l).isSome]
         let chan (c : Chan) : List Byte :=
           let ch := s.chan c
           let holder : Byte := portOrNoneByte (if ch.state = .run ∨ ch.state = .draining then ch.holder else none)
           let left := nat16 (msLeft s.timebase ch.parkDeadline)
           match ch.state with
           | .idle => [0, holder, 0xFF, 0, 0, 0xFF, 0xFF, 0, 0]
           | .parked =>
             [2, holder, Loop.byte ch.loop, flag ch.lead, ch.mode.byte, Port.byte ch.oldHolder, ch.parkCause.byte] ++ left
           | .run => [1, holder, Loop.byte ch.loop, flag ch.lead, ch.mode.byte, 0xFF, 0xFF, 0, 0]
           | .draining => [3, holder, Loop.byte ch.loop, flag ch.lead, ch.mode.byte, 0xFF, 0xFF, 0, 0]
         let port (q : Port) : List Byte :=
           let x := s.port q
           [flag x.up] ++ bytes32 x.badFrames ++ bytes32 x.requestOverrun ++ bytes32 x.notHolderMedia
             ++ bytes32 x.noticesDropped
         let report : List Byte :=
           [0x24, 0x18, 1, 2, 4, 3, 1, 0, 8, 4] ++ loop .a ++ loop .b ++ chan .c0 ++ chan .c1 ++ chan .c2 ++ chan .c3
             ++ port .p0 ++ port .p1 ++ port .p2
             ++ [BitVec.ofNat 8 s.store.start.val, 0, s.store.slot1.byte, s.store.slot2.byte, s.store.slot3.byte]
         exec (.inquireReq p tag []) s = .next (s.replied p (acceptance tag report)) ∧ report.length = 108)

/-- PROFILE_SAVE and the end of its write (R190): the slot is WRITING with a snapshot of the live settings until the
write completes, at 1 to 480 sample times after the acceptance, and is then VALID with SAVE_DONE for the requester;
refused BAD_PARAM for a slot outside 1..3 and BUSY while a write runs. That SAVE_COMPLETE outside that span changes
nothing is the model's choice (log 20). PROFILE_LOAD and PROFILE_START (R192, R35, R193): a VALID slot, or slot 0 with
the factory profile, becomes the live settings and the pool is split under its reserves; refused BAD_PARAM, then BUSY
while a write runs, then WRONG_STATE while a channel is not IDLE or when the slot is not VALID; the start slot is stored
in any state. -/
def Obligations.ProfilesAnswered : Prop :=
  (∀ (s : State) (p : Port) (tag b : Byte), s.ready p →
     let run : Host.Outcome State Fault Refusal := exec (.profileSaveReq p tag [b]) s
     let writing (x : Store) : Store :=
       if b = 1 then { x with slot1 := .writing }
       else if b = 2 then { x with slot2 := .writing }
       else { x with slot3 := .writing }
     (b = 0 ∨ 4 ≤ b.toNat → run = .next (s.replied p (refusal tag .badParam)))
       ∧ (b = 1 ∨ b = 2 ∨ b = 3 → s.store.save.isSome = true → run = .next (s.replied p (refusal tag .busy)))
       ∧ (b = 1 ∨ b = 2 ∨ b = 3 → s.store.save = none →
           run = .next (({ s with
             store := { writing s.store with save := some ⟨b.toNat, s.live, p, s.timebase⟩ } } : State).replied p
               (acceptance tag [])))
       ∧ (s.store.save = none → exec .saveComplete s = .next s)
       ∧ ∀ v, s.store.save = some v → v.slot = 1 ∨ v.slot = 2 ∨ v.slot = 3 →
           let n := (s.timebase - v.accepted).toNat
           let valid (x : Store) : Store :=
             if v.slot = 1 then { x with slot1 := .valid v.snapshot }
             else if v.slot = 2 then { x with slot2 := .valid v.snapshot }
             else { x with slot3 := .valid v.snapshot }
           (n = 0 ∨ 480 < n → exec .saveComplete s = .next s)
             ∧ (1 ≤ n → n ≤ 480 →
                 exec .saveComplete s
                   = .next (({ s with store := { valid s.store with save := none } } : State).offer v.requester
                       ⟨.saveDone v.slot, none, none, s.timebase⟩)))
    ∧ (∀ (s : State) (p : Port) (tag b : Byte), s.ready p →
         let run : Host.Outcome State Fault Refusal := exec (.profileLoadReq p tag [b]) s
         let slot : Slot :=
           if b = 0 then .valid factoryProfile
           else if b = 1 then s.store.slot1
           else if b = 2 then s.store.slot2
           else s.store.slot3
         let open_ : Prop := ∃ d, (s.chan d).state ≠ .idle
         (4 ≤ b.toNat → run = .next (s.replied p (refusal tag .badParam))
             ∧ exec (.profileStartReq p tag [b]) s = .next (s.replied p (refusal tag .badParam)))
           ∧ (b.toNat < 4 → s.store.save.isSome = true → run = .next (s.replied p (refusal tag .busy)))
           ∧ (b.toNat < 4 → s.store.save = none → open_ → run = .next (s.replied p (refusal tag .wrongState)))
           ∧ (b.toNat < 4 → s.store.save = none → ¬open_ → slot = .invalid ∨ slot = .writing →
               run = .next (s.replied p (refusal tag .wrongState)))
           ∧ (∀ g, b.toNat < 4 → s.store.save = none → ¬open_ → slot = .valid g →
               run = .next
                 { s.replied p (acceptance tag []) with
                   live := g
                   pool := { s.pool with free := g.global.reserve, shared := 256 - g.global.reserve.total } })
           ∧ ∀ k : Fin 4, b.toNat = k.val →
               exec (.profileStartReq p tag [b]) s
                 = .next (({ s with store := { s.store with start := k } } : State).replied p (acceptance tag [])))

/-- RESTART and the restart it asks for (R194, R195, R1, R36, R129, R162, R183, R191): refused BUSY while one is pending
or a channel stands in its way; otherwise pending until its reply has been sent, and then a reset that keeps the
Timebase, the live settings, the stored slots and the measured loads. The channel settings after it are free values (log
7); the loop current, the key on the line and the codec's sample are the outside's and stand (logs 10, 36, 25); that
BUSY lasts until the restart is taken is the model's choice (log 28), and so are the fields the spec gives no reset
value, among them a silence end of 0 on every port (log 6), no byte standing as sent (log 40) and nothing held of a
closed measurement window (log 44). The raw state of each loop is judged from its present current, with its edge at the
reset (R127), the loop block in progress runs on through a RESTART (R194) and the measured load stands there (R162); a
start-up clears both. Power-on and the reset line (R193, R191, R195, R1, R36, R129, R162, R183): the Timebase becomes 0,
the start slot's profile, or slot 0's with the fallback flag, becomes the live settings, a write is abandoned with its
slot INVALID, every block is reset and START is placed on every port. The free and the outside's values are as in a
restart (logs 7, 10, 25, 36, 6, 40), and the first sample after a start-up is dated 0 by the model's choice (log 1). -/
def Obligations.RestartsAndStartUps : Prop :=
  let chan (settings : ChannelSettings) : Channel :=
    { state := .idle, holder := none, fallback := none, parkFallback := none, loop := .a, lead := false, voice := .voiced,
      mode := .voice, parkDeadline := 0, parkCause := .portDown, oldHolder := .p0, drainDeadline := 0, notices := [],
      settings := settings, stats := .zero
      pe :=
        { queue := [], anchored := false, epochIn := 0, baseIn := 0, playEpoch := 0, nextPlay := 0, playState := .priming,
          afterOpen := false, missing := 0, lastPlayed := silence, lastPeak := 0, current := none, tickDue := false,
          outputPeak := 0, freshRun := false }
      tru :=
        { window := none, fPrev := none, est := 0, acc := 0, target := 0, corr := 0, closedSinceOpen := false }
      uf :=
        { ringSize := 0, ring := [], nextSeq := 0, stampOffset := 0, firstBlock := none, sendPtr := 0, transfer := none,
          continued := false }
      det := { active := false, loopPath := ⟨none, 0, false⟩, playedPath := ⟨none, 0, false⟩ } }
  let loop (x : LoopState) (threshold : Nat) (now blockStart : Word) (block : List MixSample) (load : Option Nat) :
      LoopState :=
    { feed := .idle, polarity := .normal, denyEnd := 0, current := x.current
      raw := if threshold * 1000 ≤ x.current.natAbs then .off else .on
      rawEdge := now, hook := .onhook, breakStart := 0, makeStart := 0, pulses := 0, dtmf := .quiet
      keyPresent := x.keyPresent, dial := [], dialOverflow := false, autoTone := false, ringSignal := false, ring := none
      tx := none, player := none, lostDenial := none, blockStart := blockStart, block := block, closed := none
      codec := x.codec
      test :=
        { phase := .none, requester := .p0, gate := 0, gateLength := 0, phaseEnd := 0, nRef := 0, nLoop := 0
          load := load } }
  (∀ (s : State) (p : Port) (tag : Byte), s.ready p →
     let blocks (c : Chan) : Prop :=
       (s.chan c).state = .parked
         ∨ ((s.chan c).state = .run ∨ (s.chan c).state = .draining) ∧ (s.chan c).holder ≠ some p
     let run : Host.Outcome State Fault Refusal := exec (.restartReq p tag []) s
     (s.restart ≠ .none ∨ (∃ c, blocks c) → run = .next (s.replied p (refusal tag .busy)))
       ∧ (s.restart = .none → (∀ c, ¬blocks c) →
           run = .next { s.replied p ⟨tag, .ok, [], true⟩ with restart := .pending p })
       ∧ (s.restart ≠ .due → exec .restartTaken s = .next s)
       ∧ (s.restart = .due →
           let abandoned (n : Nat) (x : Slot) : Slot :=
             match s.store.save with
             | some v => if v.slot = n then .invalid else x
             | none => x
           let port : PortState :=
             { up := false, silenceEnd := 0, receiver := .hunt,
               queue := [.notice ⟨.start .restart none false, none, none, s.timebase⟩], outstanding := 0,
               overflowMark := false, dropped := 0, transfer := none, sent := [], lastServed := none, badFrames := 0,
               requestOverrun := 0, notHolderMedia := 0, noticesDropped := 0 }
           let kept (l : Loop) : LoopState :=
             let x := s.loop l
             loop x (s.loopSet l).hookThreshold s.timebase x.blockStart x.block x.test.load
           exec .restartTaken s
             = .next
                 { s with
                   chans :=
                     ⟨chan (freeSettings s.freeCount), chan (freeSettings (s.freeCount + 15)),
                       chan (freeSettings (s.freeCount + 30)), chan (freeSettings (s.freeCount + 45))⟩
                   pool := ⟨⟨0, 0, 0, 0⟩, s.reserves, 256 - s.reserves.total⟩
                   loops := ⟨kept .a, kept .b⟩
                   ports := ⟨port, port, port⟩
                   stepIndex := 0
                   nextBoundary := s.timebase + msSpan s.live.global.cadenceStep
                   store :=
                     { s.store with
                       slot1 := abandoned 1 s.store.slot1
                       slot2 := abandoned 2 s.store.slot2
                       slot3 := abandoned 3 s.store.slot3
                       save := none }
                   restart := .none
                   freeCount := s.freeCount + 60 }))
    ∧ (∀ s : State,
         let abandoned (n : Nat) (x : Slot) : Slot :=
           match s.store.save with
           | some v => if v.slot = n then .invalid else x
           | none => x
         let store : Store :=
           ⟨abandoned 1 s.store.slot1, abandoned 2 s.store.slot2, abandoned 3 s.store.slot3, s.store.start, none⟩
         let named : Slot :=
           if s.store.start = 0 then .valid factoryProfile
           else if s.store.start = 1 then store.slot1
           else if s.store.start = 2 then store.slot2
           else store.slot3
         let started (cause : StartCause) (g : Profile) (slot : Nat) (fallback : Bool) : State :=
           let port : PortState :=
             { up := false, silenceEnd := 0, receiver := .hunt,
               queue := [.notice ⟨.start cause (some slot) fallback, none, none, 0⟩], outstanding := 0, overflowMark := false,
               dropped := 0, transfer := none, sent := [], lastServed := none, badFrames := 0, requestOverrun := 0,
               notHolderMedia := 0, noticesDropped := 0 }
           { timebase := 0
             sampleDue := true
             chans :=
               ⟨chan (freeSettings s.freeCount), chan (freeSettings (s.freeCount + 15)),
                 chan (freeSettings (s.freeCount + 30)), chan (freeSettings (s.freeCount + 45))⟩
             pool := ⟨⟨0, 0, 0, 0⟩, g.global.reserve, 256 - g.global.reserve.total⟩
             loops :=
               ⟨loop (s.loop .a) g.loop.a.hookThreshold 0 0 [] none, loop (s.loop .b) g.loop.b.hookThreshold 0 0 [] none⟩
             ports := ⟨port, port, port⟩
             stepIndex := 0
             nextBoundary := msSpan g.global.cadenceStep
             live := g
             store := store
             restart := .none
             freeCount := s.freeCount + 60
             pending := s.pending }
         (∀ g, named = .valid g →
             exec .powerOn s = .next (started .power g s.store.start.val false)
               ∧ exec .resetLine s = .next (started .line g s.store.start.val false))
           ∧ (named = .invalid ∨ named = .writing →
               exec .powerOn s = .next (started .power factoryProfile 0 true)
                 ∧ exec .resetLine s = .next (started .line factoryProfile 0 true)))
end

