-- ==== Sys2Proof/Laws/State.lean ====
section
/-! SUPPORT. What a state update leaves alone and what it changes: one simp lemma per update, each part true by computation, and the reading of a value just put. -/

namespace Sys2Proof

/-! ### One value for each port, loop, channel -/

/-- The value just put is read back. -/
@[simp] theorem PerPort.get_put_same {α : Type} (x : PerPort α) (i : Port) (v : α) : (x.put i v).get i = v := by
  cases i <;> rfl

/-- The other values stay. -/
theorem PerPort.get_put_ne {α : Type} (x : PerPort α) {i j : Port} (h : j ≠ i) (v : α) : (x.put i v).get j = x.get j := by
  cases i <;> cases j <;> first | rfl | exact absurd rfl h

/-- A value read after a put. -/
theorem PerPort.get_put {α : Type} (x : PerPort α) (i j : Port) (v : α) :
    (x.put i v).get j = if j = i then v else x.get j := by
  cases i <;> cases j <;> rfl

/-- Putting back the value read changes nothing. -/
@[simp] theorem PerPort.put_get {α : Type} (x : PerPort α) (i : Port) : x.put i (x.get i) = x := by
  cases i <;> rfl

/-- The second of two puts at one place stands. -/
@[simp] theorem PerPort.put_put {α : Type} (x : PerPort α) (i : Port) (v w : α) : (x.put i v).put i w = x.put i w := by
  cases i <;> rfl

/-- Two of them with the same values are the same. -/
theorem PerPort.ext_get {α : Type} {x y : PerPort α} (h : ∀ i, x.get i = y.get i) : x = y := by
  cases x
  cases y
  have hp0 := h .p0
  have hp1 := h .p1
  have hp2 := h .p2
  simp only [PerPort.get] at hp0 hp1 hp2
  subst hp0 hp1 hp2
  rfl

/-- The value just put is read back. -/
@[simp] theorem PerLoop.get_put_same {α : Type} (x : PerLoop α) (i : Loop) (v : α) : (x.put i v).get i = v := by
  cases i <;> rfl

/-- The other values stay. -/
theorem PerLoop.get_put_ne {α : Type} (x : PerLoop α) {i j : Loop} (h : j ≠ i) (v : α) : (x.put i v).get j = x.get j := by
  cases i <;> cases j <;> first | rfl | exact absurd rfl h

/-- A value read after a put. -/
theorem PerLoop.get_put {α : Type} (x : PerLoop α) (i j : Loop) (v : α) :
    (x.put i v).get j = if j = i then v else x.get j := by
  cases i <;> cases j <;> rfl

/-- Putting back the value read changes nothing. -/
@[simp] theorem PerLoop.put_get {α : Type} (x : PerLoop α) (i : Loop) : x.put i (x.get i) = x := by
  cases i <;> rfl

/-- The second of two puts at one place stands. -/
@[simp] theorem PerLoop.put_put {α : Type} (x : PerLoop α) (i : Loop) (v w : α) : (x.put i v).put i w = x.put i w := by
  cases i <;> rfl

/-- Two of them with the same values are the same. -/
theorem PerLoop.ext_get {α : Type} {x y : PerLoop α} (h : ∀ i, x.get i = y.get i) : x = y := by
  cases x
  cases y
  have ha := h .a
  have hb := h .b
  simp only [PerLoop.get] at ha hb
  subst ha hb
  rfl

/-- The value just put is read back. -/
@[simp] theorem PerChan.get_put_same {α : Type} (x : PerChan α) (i : Chan) (v : α) : (x.put i v).get i = v := by
  cases i <;> rfl

/-- The other values stay. -/
theorem PerChan.get_put_ne {α : Type} (x : PerChan α) {i j : Chan} (h : j ≠ i) (v : α) : (x.put i v).get j = x.get j := by
  cases i <;> cases j <;> first | rfl | exact absurd rfl h

/-- A value read after a put. -/
theorem PerChan.get_put {α : Type} (x : PerChan α) (i j : Chan) (v : α) :
    (x.put i v).get j = if j = i then v else x.get j := by
  cases i <;> cases j <;> rfl

/-- Putting back the value read changes nothing. -/
@[simp] theorem PerChan.put_get {α : Type} (x : PerChan α) (i : Chan) : x.put i (x.get i) = x := by
  cases i <;> rfl

/-- The second of two puts at one place stands. -/
@[simp] theorem PerChan.put_put {α : Type} (x : PerChan α) (i : Chan) (v w : α) : (x.put i v).put i w = x.put i w := by
  cases i <;> rfl

/-- Two of them with the same values are the same. -/
theorem PerChan.ext_get {α : Type} {x y : PerChan α} (h : ∀ i, x.get i = y.get i) : x = y := by
  cases x
  cases y
  have hc0 := h .c0
  have hc1 := h .c1
  have hc2 := h .c2
  have hc3 := h .c3
  simp only [PerChan.get] at hc0 hc1 hc2 hc3
  subst hc0 hc1 hc2 hc3
  rfl

namespace Machine

/-! ### Updates of the state -/

/-- What `modChan` leaves alone. -/
@[simp] theorem State.modChan_untouched (s : State) (c : Chan) (f : Channel → Channel) :
    (s.modChan c f).timebase = s.timebase ∧ (s.modChan c f).sampleDue = s.sampleDue ∧
      (s.modChan c f).pool = s.pool ∧ (s.modChan c f).loops = s.loops ∧
      (s.modChan c f).ports = s.ports ∧ (s.modChan c f).stepIndex = s.stepIndex ∧
      (s.modChan c f).nextBoundary = s.nextBoundary ∧ (s.modChan c f).live = s.live ∧
      (s.modChan c f).store = s.store ∧ (s.modChan c f).restart = s.restart ∧
      (s.modChan c f).freeCount = s.freeCount ∧ (s.modChan c f).pending = s.pending := by
  simp [State.modChan]

/-- What `modLoop` leaves alone. -/
@[simp] theorem State.modLoop_untouched (s : State) (l : Loop) (f : LoopState → LoopState) :
    (s.modLoop l f).timebase = s.timebase ∧ (s.modLoop l f).sampleDue = s.sampleDue ∧
      (s.modLoop l f).chans = s.chans ∧ (s.modLoop l f).pool = s.pool ∧
      (s.modLoop l f).ports = s.ports ∧ (s.modLoop l f).stepIndex = s.stepIndex ∧
      (s.modLoop l f).nextBoundary = s.nextBoundary ∧ (s.modLoop l f).live = s.live ∧
      (s.modLoop l f).store = s.store ∧ (s.modLoop l f).restart = s.restart ∧
      (s.modLoop l f).freeCount = s.freeCount ∧ (s.modLoop l f).pending = s.pending := by
  simp [State.modLoop]

/-- What `modPort` leaves alone. -/
@[simp] theorem State.modPort_untouched (s : State) (p : Port) (f : PortState → PortState) :
    (s.modPort p f).timebase = s.timebase ∧ (s.modPort p f).sampleDue = s.sampleDue ∧
      (s.modPort p f).chans = s.chans ∧ (s.modPort p f).pool = s.pool ∧
      (s.modPort p f).loops = s.loops ∧ (s.modPort p f).stepIndex = s.stepIndex ∧
      (s.modPort p f).nextBoundary = s.nextBoundary ∧ (s.modPort p f).live = s.live ∧
      (s.modPort p f).store = s.store ∧ (s.modPort p f).restart = s.restart ∧
      (s.modPort p f).freeCount = s.freeCount ∧ (s.modPort p f).pending = s.pending := by
  simp [State.modPort]

/-- What `modPool` leaves alone. -/
@[simp] theorem State.modPool_untouched (s : State) (f : Pool → Pool) :
    (s.modPool f).timebase = s.timebase ∧ (s.modPool f).sampleDue = s.sampleDue ∧
      (s.modPool f).chans = s.chans ∧ (s.modPool f).loops = s.loops ∧
      (s.modPool f).ports = s.ports ∧ (s.modPool f).stepIndex = s.stepIndex ∧
      (s.modPool f).nextBoundary = s.nextBoundary ∧ (s.modPool f).live = s.live ∧
      (s.modPool f).store = s.store ∧ (s.modPool f).restart = s.restart ∧
      (s.modPool f).freeCount = s.freeCount ∧ (s.modPool f).pending = s.pending := by
  simp [State.modPool]

/-- What `modChanPool` leaves alone. -/
@[simp] theorem State.modChanPool_untouched (s : State) (c : Chan) (f : ChanPool → ChanPool) :
    (s.modChanPool c f).timebase = s.timebase ∧ (s.modChanPool c f).sampleDue = s.sampleDue ∧
      (s.modChanPool c f).loops = s.loops ∧ (s.modChanPool c f).ports = s.ports ∧
      (s.modChanPool c f).stepIndex = s.stepIndex ∧ (s.modChanPool c f).nextBoundary = s.nextBoundary ∧
      (s.modChanPool c f).live = s.live ∧ (s.modChanPool c f).store = s.store ∧
      (s.modChanPool c f).restart = s.restart ∧ (s.modChanPool c f).freeCount = s.freeCount ∧
      (s.modChanPool c f).pending = s.pending := by
  simp [State.modChanPool]

/-- What `modLoopSet` leaves alone. -/
@[simp] theorem State.modLoopSet_untouched (s : State) (l : Loop) (f : LoopSettings → LoopSettings) :
    (s.modLoopSet l f).timebase = s.timebase ∧ (s.modLoopSet l f).sampleDue = s.sampleDue ∧
      (s.modLoopSet l f).chans = s.chans ∧ (s.modLoopSet l f).pool = s.pool ∧
      (s.modLoopSet l f).loops = s.loops ∧ (s.modLoopSet l f).ports = s.ports ∧
      (s.modLoopSet l f).stepIndex = s.stepIndex ∧ (s.modLoopSet l f).nextBoundary = s.nextBoundary ∧
      (s.modLoopSet l f).store = s.store ∧ (s.modLoopSet l f).restart = s.restart ∧
      (s.modLoopSet l f).freeCount = s.freeCount ∧ (s.modLoopSet l f).pending = s.pending := by
  simp [State.modLoopSet]

/-- What `putProgram` leaves alone. -/
@[simp] theorem State.putProgram_untouched (s : State) (n : Fin 8) (g : Program) :
    (s.putProgram n g).timebase = s.timebase ∧ (s.putProgram n g).sampleDue = s.sampleDue ∧
      (s.putProgram n g).chans = s.chans ∧ (s.putProgram n g).pool = s.pool ∧
      (s.putProgram n g).loops = s.loops ∧ (s.putProgram n g).ports = s.ports ∧
      (s.putProgram n g).stepIndex = s.stepIndex ∧ (s.putProgram n g).nextBoundary = s.nextBoundary ∧
      (s.putProgram n g).store = s.store ∧ (s.putProgram n g).restart = s.restart ∧
      (s.putProgram n g).freeCount = s.freeCount ∧ (s.putProgram n g).pending = s.pending := by
  simp [State.putProgram]

/-- A free value taken changes the count alone. -/
theorem State.takeFree_eq (s : State) :
    s.takeFree = (Config.freeValue s.freeCount, { s with freeCount := s.freeCount + 1 }) := rfl

/-! ### Reading a channel, a loop or a port after an update -/

/-- The one changed. -/
@[simp] theorem State.chan_modChan_same (s : State) (i : Chan) (f : Channel → Channel) :
    (s.modChan i f).chan i = f (s.chan i) := by
  simp [State.modChan, State.chan]

/-- The others. -/
theorem State.chan_modChan_ne (s : State) {i j : Chan} (h : j ≠ i) (f : Channel → Channel) :
    (s.modChan i f).chan j = s.chan j := by
  simp [State.modChan, State.chan, PerChan.get_put_ne _ h]

/-- The one changed. -/
@[simp] theorem State.loop_modLoop_same (s : State) (i : Loop) (f : LoopState → LoopState) :
    (s.modLoop i f).loop i = f (s.loop i) := by
  simp [State.modLoop, State.loop]

/-- The others. -/
theorem State.loop_modLoop_ne (s : State) {i j : Loop} (h : j ≠ i) (f : LoopState → LoopState) :
    (s.modLoop i f).loop j = s.loop j := by
  simp [State.modLoop, State.loop, PerLoop.get_put_ne _ h]

/-- The one changed. -/
@[simp] theorem State.port_modPort_same (s : State) (i : Port) (f : PortState → PortState) :
    (s.modPort i f).port i = f (s.port i) := by
  simp [State.modPort, State.port]

/-- The others. -/
theorem State.port_modPort_ne (s : State) {i j : Port} (h : j ≠ i) (f : PortState → PortState) :
    (s.modPort i f).port j = s.port j := by
  simp [State.modPort, State.port, PerPort.get_put_ne _ h]

@[simp] theorem State.chan_modLoop (s : State) (l : Loop) (f : LoopState → LoopState) (i : Chan) :
    (s.modLoop l f).chan i = s.chan i := rfl

@[simp] theorem State.chan_modPort (s : State) (p : Port) (f : PortState → PortState) (i : Chan) :
    (s.modPort p f).chan i = s.chan i := rfl

@[simp] theorem State.chan_modPool (s : State) (f : Pool → Pool) (i : Chan) :
    (s.modPool f).chan i = s.chan i := rfl

@[simp] theorem State.loop_modChan (s : State) (c : Chan) (f : Channel → Channel) (i : Loop) :
    (s.modChan c f).loop i = s.loop i := rfl

@[simp] theorem State.loop_modPort (s : State) (p : Port) (f : PortState → PortState) (i : Loop) :
    (s.modPort p f).loop i = s.loop i := rfl

@[simp] theorem State.loop_modPool (s : State) (f : Pool → Pool) (i : Loop) :
    (s.modPool f).loop i = s.loop i := rfl

@[simp] theorem State.port_modChan (s : State) (c : Chan) (f : Channel → Channel) (i : Port) :
    (s.modChan c f).port i = s.port i := rfl

@[simp] theorem State.port_modLoop (s : State) (l : Loop) (f : LoopState → LoopState) (i : Port) :
    (s.modLoop l f).port i = s.port i := rfl

@[simp] theorem State.port_modPool (s : State) (f : Pool → Pool) (i : Port) :
    (s.modPool f).port i = s.port i := rfl

end Machine

end Sys2Proof
end

