-- ==== Sys2Proof/Laws/Frames.lean ====
section
/-! SUPPORT. What each shared operation leaves alone, one simp lemma per operation; provers cite these instead of unfolding the operation. -/

namespace Sys2Proof.Machine

/-- What `offer` leaves alone. -/
@[simp] theorem State.offer_untouched (s : State) (p : Port) (n : Notice) :
    (s.offer p n).timebase = s.timebase ∧ (s.offer p n).sampleDue = s.sampleDue ∧
      (s.offer p n).chans = s.chans ∧ (s.offer p n).pool = s.pool ∧
      (s.offer p n).loops = s.loops ∧ (s.offer p n).stepIndex = s.stepIndex ∧
      (s.offer p n).nextBoundary = s.nextBoundary ∧ (s.offer p n).live = s.live ∧
      (s.offer p n).store = s.store ∧ (s.offer p n).restart = s.restart ∧
      (s.offer p n).freeCount = s.freeCount ∧ (s.offer p n).pending = s.pending := by
  simp [State.offer]

/-- What `offerEach` leaves alone. -/
@[simp] theorem State.offerEach_untouched (s : State) (ps : List Port) (n : Notice) :
    (s.offerEach ps n).timebase = s.timebase ∧ (s.offerEach ps n).sampleDue = s.sampleDue ∧
      (s.offerEach ps n).chans = s.chans ∧ (s.offerEach ps n).pool = s.pool ∧
      (s.offerEach ps n).loops = s.loops ∧ (s.offerEach ps n).stepIndex = s.stepIndex ∧
      (s.offerEach ps n).nextBoundary = s.nextBoundary ∧ (s.offerEach ps n).live = s.live ∧
      (s.offerEach ps n).store = s.store ∧ (s.offerEach ps n).restart = s.restart ∧
      (s.offerEach ps n).freeCount = s.freeCount ∧ (s.offerEach ps n).pending = s.pending := by
  unfold State.offerEach
  induction ps generalizing s with
  | nil => simp
  | cons x rest ih => simp [List.foldl_cons, ih]

/-- What `offerList` leaves alone. -/
@[simp] theorem State.offerList_untouched (s : State) (p : Port) (ns : List Notice) :
    (s.offerList p ns).timebase = s.timebase ∧ (s.offerList p ns).sampleDue = s.sampleDue ∧
      (s.offerList p ns).chans = s.chans ∧ (s.offerList p ns).pool = s.pool ∧
      (s.offerList p ns).loops = s.loops ∧ (s.offerList p ns).stepIndex = s.stepIndex ∧
      (s.offerList p ns).nextBoundary = s.nextBoundary ∧ (s.offerList p ns).live = s.live ∧
      (s.offerList p ns).store = s.store ∧ (s.offerList p ns).restart = s.restart ∧
      (s.offerList p ns).freeCount = s.freeCount ∧ (s.offerList p ns).pending = s.pending := by
  unfold State.offerList
  induction ns generalizing s with
  | nil => simp
  | cons x rest ih => simp [List.foldl_cons, ih]

/-- What `offerTo` leaves alone. -/
@[simp] theorem State.offerTo_untouched (s : State) (p : Option Port) (n : Notice) :
    (s.offerTo p n).timebase = s.timebase ∧ (s.offerTo p n).sampleDue = s.sampleDue ∧
      (s.offerTo p n).chans = s.chans ∧ (s.offerTo p n).pool = s.pool ∧
      (s.offerTo p n).loops = s.loops ∧ (s.offerTo p n).stepIndex = s.stepIndex ∧
      (s.offerTo p n).nextBoundary = s.nextBoundary ∧ (s.offerTo p n).live = s.live ∧
      (s.offerTo p n).store = s.store ∧ (s.offerTo p n).restart = s.restart ∧
      (s.offerTo p n).freeCount = s.freeCount ∧ (s.offerTo p n).pending = s.pending := by
  unfold State.offerTo
  try dsimp only
  (repeat' split) <;> simp

/-- What `routeChannel` leaves alone. -/
@[simp] theorem State.routeChannel_untouched (s : State) (c : Chan) (n : Notice) :
    (s.routeChannel c n).timebase = s.timebase ∧ (s.routeChannel c n).sampleDue = s.sampleDue ∧
      (s.routeChannel c n).pool = s.pool ∧ (s.routeChannel c n).loops = s.loops ∧
      (s.routeChannel c n).stepIndex = s.stepIndex ∧ (s.routeChannel c n).nextBoundary = s.nextBoundary ∧
      (s.routeChannel c n).live = s.live ∧ (s.routeChannel c n).store = s.store ∧
      (s.routeChannel c n).restart = s.restart ∧ (s.routeChannel c n).freeCount = s.freeCount ∧
      (s.routeChannel c n).pending = s.pending := by
  unfold State.routeChannel
  try dsimp only
  (repeat' split) <;> simp

/-- What `routeLoop` leaves alone. -/
@[simp] theorem State.routeLoop_untouched (s : State) (l : Loop) (n : Notice) :
    (s.routeLoop l n).timebase = s.timebase ∧ (s.routeLoop l n).sampleDue = s.sampleDue ∧
      (s.routeLoop l n).pool = s.pool ∧ (s.routeLoop l n).loops = s.loops ∧
      (s.routeLoop l n).stepIndex = s.stepIndex ∧ (s.routeLoop l n).nextBoundary = s.nextBoundary ∧
      (s.routeLoop l n).live = s.live ∧ (s.routeLoop l n).store = s.store ∧
      (s.routeLoop l n).restart = s.restart ∧ (s.routeLoop l n).freeCount = s.freeCount ∧
      (s.routeLoop l n).pending = s.pending := by
  unfold State.routeLoop
  try dsimp only
  (repeat' split) <;> simp

/-- What `raiseLoop` leaves alone. -/
@[simp] theorem State.raiseLoop_untouched (s : State) (l : Loop) (d : NoticeData) :
    (s.raiseLoop l d).timebase = s.timebase ∧ (s.raiseLoop l d).sampleDue = s.sampleDue ∧
      (s.raiseLoop l d).pool = s.pool ∧ (s.raiseLoop l d).loops = s.loops ∧
      (s.raiseLoop l d).stepIndex = s.stepIndex ∧ (s.raiseLoop l d).nextBoundary = s.nextBoundary ∧
      (s.raiseLoop l d).live = s.live ∧ (s.raiseLoop l d).store = s.store ∧
      (s.raiseLoop l d).restart = s.restart ∧ (s.raiseLoop l d).freeCount = s.freeCount ∧
      (s.raiseLoop l d).pending = s.pending := by
  simp [State.raiseLoop]

/-- What `routeRing` leaves alone. -/
@[simp] theorem State.routeRing_untouched (s : State) (l : Loop) (owner : Port) (lost : Bool) (n : Notice) :
    (s.routeRing l owner lost n).timebase = s.timebase ∧ (s.routeRing l owner lost n).sampleDue = s.sampleDue ∧
      (s.routeRing l owner lost n).chans = s.chans ∧ (s.routeRing l owner lost n).pool = s.pool ∧
      (s.routeRing l owner lost n).loops = s.loops ∧ (s.routeRing l owner lost n).stepIndex = s.stepIndex ∧
      (s.routeRing l owner lost n).nextBoundary = s.nextBoundary ∧ (s.routeRing l owner lost n).live = s.live ∧
      (s.routeRing l owner lost n).store = s.store ∧ (s.routeRing l owner lost n).restart = s.restart ∧
      (s.routeRing l owner lost n).freeCount = s.freeCount ∧ (s.routeRing l owner lost n).pending = s.pending := by
  unfold State.routeRing
  try dsimp only
  (repeat' split) <;> simp

/-- What `messageTaken` leaves alone. -/
@[simp] theorem State.messageTaken_untouched (s : State) (p : Port) :
    (s.messageTaken p).timebase = s.timebase ∧ (s.messageTaken p).sampleDue = s.sampleDue ∧
      (s.messageTaken p).chans = s.chans ∧ (s.messageTaken p).pool = s.pool ∧
      (s.messageTaken p).loops = s.loops ∧ (s.messageTaken p).stepIndex = s.stepIndex ∧
      (s.messageTaken p).nextBoundary = s.nextBoundary ∧ (s.messageTaken p).live = s.live ∧
      (s.messageTaken p).store = s.store ∧ (s.messageTaken p).restart = s.restart ∧
      (s.messageTaken p).freeCount = s.freeCount ∧ (s.messageTaken p).pending = s.pending := by
  unfold State.messageTaken
  (repeat' split) <;> simp

/-- What `countBadFrame` leaves alone. -/
@[simp] theorem State.countBadFrame_untouched (s : State) (p : Port) :
    (s.countBadFrame p).timebase = s.timebase ∧ (s.countBadFrame p).sampleDue = s.sampleDue ∧
      (s.countBadFrame p).chans = s.chans ∧ (s.countBadFrame p).pool = s.pool ∧
      (s.countBadFrame p).loops = s.loops ∧ (s.countBadFrame p).stepIndex = s.stepIndex ∧
      (s.countBadFrame p).nextBoundary = s.nextBoundary ∧ (s.countBadFrame p).live = s.live ∧
      (s.countBadFrame p).store = s.store ∧ (s.countBadFrame p).restart = s.restart ∧
      (s.countBadFrame p).freeCount = s.freeCount ∧ (s.countBadFrame p).pending = s.pending := by
  simp [State.countBadFrame]

/-- What `answer` leaves alone. -/
@[simp] theorem State.answer_untouched (s : State) (p : Port) (r : Reply) :
    (s.answer p r).timebase = s.timebase ∧ (s.answer p r).sampleDue = s.sampleDue ∧
      (s.answer p r).chans = s.chans ∧ (s.answer p r).pool = s.pool ∧
      (s.answer p r).loops = s.loops ∧ (s.answer p r).stepIndex = s.stepIndex ∧
      (s.answer p r).nextBoundary = s.nextBoundary ∧ (s.answer p r).live = s.live ∧
      (s.answer p r).store = s.store ∧ (s.answer p r).restart = s.restart ∧
      (s.answer p r).freeCount = s.freeCount ∧ (s.answer p r).pending = s.pending := by
  simp [State.answer]

/-- What `refuse` leaves alone. -/
@[simp] theorem State.refuse_untouched (s : State) (p : Port) (tag : Byte) (code : ReplyCode) :
    (s.refuse p tag code).timebase = s.timebase ∧ (s.refuse p tag code).sampleDue = s.sampleDue ∧
      (s.refuse p tag code).chans = s.chans ∧ (s.refuse p tag code).pool = s.pool ∧
      (s.refuse p tag code).loops = s.loops ∧ (s.refuse p tag code).stepIndex = s.stepIndex ∧
      (s.refuse p tag code).nextBoundary = s.nextBoundary ∧ (s.refuse p tag code).live = s.live ∧
      (s.refuse p tag code).store = s.store ∧ (s.refuse p tag code).restart = s.restart ∧
      (s.refuse p tag code).freeCount = s.freeCount ∧ (s.refuse p tag code).pending = s.pending := by
  simp [State.refuse]

/-- What `accept` leaves alone. -/
@[simp] theorem State.accept_untouched (s : State) (p : Port) (tag : Byte) (results : List Byte) :
    (s.accept p tag results).timebase = s.timebase ∧ (s.accept p tag results).sampleDue = s.sampleDue ∧
      (s.accept p tag results).chans = s.chans ∧ (s.accept p tag results).pool = s.pool ∧
      (s.accept p tag results).loops = s.loops ∧ (s.accept p tag results).stepIndex = s.stepIndex ∧
      (s.accept p tag results).nextBoundary = s.nextBoundary ∧ (s.accept p tag results).live = s.live ∧
      (s.accept p tag results).store = s.store ∧ (s.accept p tag results).restart = s.restart ∧
      (s.accept p tag results).freeCount = s.freeCount ∧ (s.accept p tag results).pending = s.pending := by
  simp [State.accept]

/-- What `acceptClamped` leaves alone. -/
@[simp] theorem State.acceptClamped_untouched (s : State) (p : Port) (tag : Byte) (clamped : Bool) (results : List Byte) :
    (s.acceptClamped p tag clamped results).timebase = s.timebase ∧ (s.acceptClamped p tag clamped results).sampleDue = s.sampleDue ∧
      (s.acceptClamped p tag clamped results).chans = s.chans ∧ (s.acceptClamped p tag clamped results).pool = s.pool ∧
      (s.acceptClamped p tag clamped results).loops = s.loops ∧ (s.acceptClamped p tag clamped results).stepIndex = s.stepIndex ∧
      (s.acceptClamped p tag clamped results).nextBoundary = s.nextBoundary ∧ (s.acceptClamped p tag clamped results).live = s.live ∧
      (s.acceptClamped p tag clamped results).store = s.store ∧ (s.acceptClamped p tag clamped results).restart = s.restart ∧
      (s.acceptClamped p tag clamped results).freeCount = s.freeCount ∧ (s.acceptClamped p tag clamped results).pending = s.pending := by
  simp [State.acceptClamped]

/-- What `countNotHolder` leaves alone. -/
@[simp] theorem State.countNotHolder_untouched (s : State) (p : Port) :
    (s.countNotHolder p).timebase = s.timebase ∧ (s.countNotHolder p).sampleDue = s.sampleDue ∧
      (s.countNotHolder p).chans = s.chans ∧ (s.countNotHolder p).pool = s.pool ∧
      (s.countNotHolder p).loops = s.loops ∧ (s.countNotHolder p).stepIndex = s.stepIndex ∧
      (s.countNotHolder p).nextBoundary = s.nextBoundary ∧ (s.countNotHolder p).live = s.live ∧
      (s.countNotHolder p).store = s.store ∧ (s.countNotHolder p).restart = s.restart ∧
      (s.countNotHolder p).freeCount = s.freeCount ∧ (s.countNotHolder p).pending = s.pending := by
  simp [State.countNotHolder]

/-- What `passLead` leaves alone. -/
@[simp] theorem State.passLead_untouched (s : State) (l : Loop) :
    (s.passLead l).timebase = s.timebase ∧ (s.passLead l).sampleDue = s.sampleDue ∧
      (s.passLead l).pool = s.pool ∧ (s.passLead l).loops = s.loops ∧
      (s.passLead l).ports = s.ports ∧ (s.passLead l).stepIndex = s.stepIndex ∧
      (s.passLead l).nextBoundary = s.nextBoundary ∧ (s.passLead l).live = s.live ∧
      (s.passLead l).store = s.store ∧ (s.passLead l).restart = s.restart ∧
      (s.passLead l).freeCount = s.freeCount ∧ (s.passLead l).pending = s.pending := by
  unfold State.passLead
  try dsimp only
  (repeat' split) <;> simp

/-- A channel that leaves a loop changes its block in progress and its closed block alone. -/
@[simp] theorem LoopState.channelLeaves_untouched (c : Chan) (v : VoiceFlag) (x : LoopState) :
    (x.channelLeaves c v).feed = x.feed ∧ (x.channelLeaves c v).polarity = x.polarity ∧
      (x.channelLeaves c v).denyEnd = x.denyEnd ∧ (x.channelLeaves c v).current = x.current ∧
      (x.channelLeaves c v).raw = x.raw ∧ (x.channelLeaves c v).rawEdge = x.rawEdge ∧
      (x.channelLeaves c v).hook = x.hook ∧ (x.channelLeaves c v).breakStart = x.breakStart ∧
      (x.channelLeaves c v).makeStart = x.makeStart ∧ (x.channelLeaves c v).pulses = x.pulses ∧
      (x.channelLeaves c v).dtmf = x.dtmf ∧ (x.channelLeaves c v).keyPresent = x.keyPresent ∧
      (x.channelLeaves c v).dial = x.dial ∧ (x.channelLeaves c v).dialOverflow = x.dialOverflow ∧
      (x.channelLeaves c v).autoTone = x.autoTone ∧ (x.channelLeaves c v).ringSignal = x.ringSignal ∧
      (x.channelLeaves c v).ring = x.ring ∧ (x.channelLeaves c v).tx = x.tx ∧
      (x.channelLeaves c v).player = x.player ∧ (x.channelLeaves c v).lostDenial = x.lostDenial ∧
      (x.channelLeaves c v).blockStart = x.blockStart ∧ (x.channelLeaves c v).codec = x.codec ∧
      (x.channelLeaves c v).test = x.test := by
  simp [LoopState.channelLeaves]

/-- The key judged at a sample time changes the detector alone, and that in ACTIVE only. -/
theorem LoopState.hearKey_eq (now : Word) (x : LoopState) :
    x.hearKey now = { x with dtmf := if x.feed = .active then x.dtmf.hear now x.keyPresent else x.dtmf } := by
  by_cases h : x.feed = .active <;> simp [LoopState.hearKey, h]

/-- A channel that leaves a loop keeps the length of its blocks. -/
@[simp] theorem LoopState.channelLeaves_lengths (c : Chan) (v : VoiceFlag) (x : LoopState) :
    (x.channelLeaves c v).block.length = x.block.length ∧
      (x.channelLeaves c v).closed.map (·.mix.length) = x.closed.map (·.mix.length) := by
  cases h : x.closed <;> simp [LoopState.channelLeaves, h]

/-- What `toIdle` leaves alone. -/
@[simp] theorem State.toIdle_untouched (s : State) (c : Chan) :
    (s.toIdle c).timebase = s.timebase ∧ (s.toIdle c).sampleDue = s.sampleDue ∧
      (s.toIdle c).stepIndex = s.stepIndex ∧
      (s.toIdle c).nextBoundary = s.nextBoundary ∧ (s.toIdle c).live = s.live ∧
      (s.toIdle c).store = s.store ∧ (s.toIdle c).restart = s.restart ∧
      (s.toIdle c).freeCount = s.freeCount ∧ (s.toIdle c).pending = s.pending := by
  unfold State.toIdle
  dsimp only
  split <;> simp

/-- The loops after `toIdle`: the channel leaves its own. -/
theorem State.toIdle_loop (s : State) (c : Chan) (l : Loop) :
    (s.toIdle c).loop l
      = if l = (s.chan c).loop then (s.loop l).channelLeaves c (s.chan c).voice else s.loop l := by
  have h : (s.toIdle c).loops = s.loops.put (s.chan c).loop
      ((s.loops.get (s.chan c).loop).channelLeaves c (s.chan c).voice) := by
    unfold State.toIdle
    dsimp only
    split <;> simp [State.modLoop]
  rw [State.loop, h, PerLoop.get_put]
  split
  · next e => rw [e]; rfl
  · rfl

/-- What `park` leaves alone. -/
@[simp] theorem State.park_untouched (s : State) (c : Chan) (cause : ParkCause) (old : Port) :
    (s.park c cause old).timebase = s.timebase ∧ (s.park c cause old).sampleDue = s.sampleDue ∧
      (s.park c cause old).pool = s.pool ∧ (s.park c cause old).loops = s.loops ∧
      (s.park c cause old).stepIndex = s.stepIndex ∧ (s.park c cause old).nextBoundary = s.nextBoundary ∧
      (s.park c cause old).live = s.live ∧ (s.park c cause old).store = s.store ∧
      (s.park c cause old).restart = s.restart ∧ (s.park c cause old).freeCount = s.freeCount ∧
      (s.park c cause old).pending = s.pending := by
  simp [State.park]

/-- What `endDrain` leaves alone. -/
@[simp] theorem State.endDrain_untouched (s : State) (c : Chan) (reason : DrainReason) :
    (s.endDrain c reason).timebase = s.timebase ∧ (s.endDrain c reason).sampleDue = s.sampleDue ∧
      (s.endDrain c reason).stepIndex = s.stepIndex ∧
      (s.endDrain c reason).nextBoundary = s.nextBoundary ∧ (s.endDrain c reason).live = s.live ∧
      (s.endDrain c reason).store = s.store ∧ (s.endDrain c reason).restart = s.restart ∧
      (s.endDrain c reason).freeCount = s.freeCount ∧ (s.endDrain c reason).pending = s.pending := by
  simp [State.endDrain]

/-- The loops after `endDrain`: the channel leaves its own. -/
theorem State.endDrain_loop (s : State) (c : Chan) (reason : DrainReason) (l : Loop) :
    (s.endDrain c reason).loop l
      = if l = (s.chan c).loop then (s.loop l).channelLeaves c (s.chan c).voice else s.loop l := by
  rw [← State.toIdle_loop]
  unfold State.endDrain State.offerTo
  dsimp only
  split <;> rfl

/-- What `deny` leaves alone. -/
@[simp] theorem State.deny_untouched (s : State) (l : Loop) (ms : Nat) :
    (s.deny l ms).timebase = s.timebase ∧ (s.deny l ms).sampleDue = s.sampleDue ∧
      (s.deny l ms).chans = s.chans ∧ (s.deny l ms).pool = s.pool ∧
      (s.deny l ms).ports = s.ports ∧ (s.deny l ms).stepIndex = s.stepIndex ∧
      (s.deny l ms).nextBoundary = s.nextBoundary ∧ (s.deny l ms).live = s.live ∧
      (s.deny l ms).store = s.store ∧ (s.deny l ms).restart = s.restart ∧
      (s.deny l ms).freeCount = s.freeCount ∧ (s.deny l ms).pending = s.pending := by
  simp [State.deny]

/-- What `toneEnded` leaves alone. -/
@[simp] theorem State.toneEnded_untouched (s : State) (l : Loop) (t : Tone) (cause : ToneCause) (moment : Word) :
    (s.toneEnded l t cause moment).timebase = s.timebase ∧ (s.toneEnded l t cause moment).sampleDue = s.sampleDue ∧
      (s.toneEnded l t cause moment).chans = s.chans ∧ (s.toneEnded l t cause moment).pool = s.pool ∧
      (s.toneEnded l t cause moment).stepIndex = s.stepIndex ∧ (s.toneEnded l t cause moment).nextBoundary = s.nextBoundary ∧
      (s.toneEnded l t cause moment).live = s.live ∧ (s.toneEnded l t cause moment).store = s.store ∧
      (s.toneEnded l t cause moment).restart = s.restart ∧ (s.toneEnded l t cause moment).freeCount = s.freeCount ∧
      (s.toneEnded l t cause moment).pending = s.pending := by
  unfold State.toneEnded
  try dsimp only
  (repeat' split) <;> simp

/-- What `endTone` leaves alone. -/
@[simp] theorem State.endTone_untouched (s : State) (l : Loop) (cause : ToneCause) (moment : Word) :
    (s.endTone l cause moment).timebase = s.timebase ∧ (s.endTone l cause moment).sampleDue = s.sampleDue ∧
      (s.endTone l cause moment).chans = s.chans ∧ (s.endTone l cause moment).pool = s.pool ∧
      (s.endTone l cause moment).stepIndex = s.stepIndex ∧ (s.endTone l cause moment).nextBoundary = s.nextBoundary ∧
      (s.endTone l cause moment).live = s.live ∧ (s.endTone l cause moment).store = s.store ∧
      (s.endTone l cause moment).restart = s.restart ∧ (s.endTone l cause moment).freeCount = s.freeCount ∧
      (s.endTone l cause moment).pending = s.pending := by
  unfold State.endTone
  try dsimp only
  (repeat' split) <;> simp

/-- What `startTone` leaves alone. -/
@[simp] theorem State.startTone_untouched (s : State) (l : Loop) (kind : ToneKind) (requester : Port) (number : Fin 8) :
    (s.startTone l kind requester number).timebase = s.timebase ∧ (s.startTone l kind requester number).sampleDue = s.sampleDue ∧
      (s.startTone l kind requester number).chans = s.chans ∧ (s.startTone l kind requester number).pool = s.pool ∧
      (s.startTone l kind requester number).stepIndex = s.stepIndex ∧ (s.startTone l kind requester number).nextBoundary = s.nextBoundary ∧
      (s.startTone l kind requester number).live = s.live ∧ (s.startTone l kind requester number).store = s.store ∧
      (s.startTone l kind requester number).restart = s.restart ∧ (s.startTone l kind requester number).freeCount = s.freeCount ∧
      (s.startTone l kind requester number).pending = s.pending := by
  simp [State.startTone]

/-- What `toneDetected` leaves alone. -/
@[simp] theorem State.toneDetected_untouched (s : State) (c : Chan) (path : TonePath) (band : Option Band) (time : Word) :
    (s.toneDetected c path band time).timebase = s.timebase ∧ (s.toneDetected c path band time).sampleDue = s.sampleDue ∧
      (s.toneDetected c path band time).pool = s.pool ∧ (s.toneDetected c path band time).loops = s.loops ∧
      (s.toneDetected c path band time).stepIndex = s.stepIndex ∧ (s.toneDetected c path band time).nextBoundary = s.nextBoundary ∧
      (s.toneDetected c path band time).live = s.live ∧ (s.toneDetected c path band time).store = s.store ∧
      (s.toneDetected c path band time).restart = s.restart ∧ (s.toneDetected c path band time).freeCount = s.freeCount ∧
      (s.toneDetected c path band time).pending = s.pending := by
  unfold State.toneDetected
  try dsimp only
  (repeat' split) <;> simp

/-- What `loopInterval` leaves alone. -/
@[simp] theorem State.loopInterval_untouched (s : State) (c : Chan) (band : Option Band) (length : Nat) (time : Word) :
    (s.loopInterval c band length time).timebase = s.timebase ∧ (s.loopInterval c band length time).sampleDue = s.sampleDue ∧
      (s.loopInterval c band length time).pool = s.pool ∧ (s.loopInterval c band length time).loops = s.loops ∧
      (s.loopInterval c band length time).stepIndex = s.stepIndex ∧ (s.loopInterval c band length time).nextBoundary = s.nextBoundary ∧
      (s.loopInterval c band length time).live = s.live ∧ (s.loopInterval c band length time).store = s.store ∧
      (s.loopInterval c band length time).restart = s.restart ∧ (s.loopInterval c band length time).freeCount = s.freeCount ∧
      (s.loopInterval c band length time).pending = s.pending := by
  unfold State.loopInterval
  try dsimp only
  (repeat' split) <;> simp

/-- What `playedInterval` leaves alone. -/
@[simp] theorem State.playedInterval_untouched (s : State) (c : Chan) (band : Option Band) (length : Nat) (time : Word) :
    (s.playedInterval c band length time).timebase = s.timebase ∧ (s.playedInterval c band length time).sampleDue = s.sampleDue ∧
      (s.playedInterval c band length time).pool = s.pool ∧ (s.playedInterval c band length time).loops = s.loops ∧
      (s.playedInterval c band length time).stepIndex = s.stepIndex ∧ (s.playedInterval c band length time).nextBoundary = s.nextBoundary ∧
      (s.playedInterval c band length time).live = s.live ∧ (s.playedInterval c band length time).store = s.store ∧
      (s.playedInterval c band length time).restart = s.restart ∧ (s.playedInterval c band length time).freeCount = s.freeCount ∧
      (s.playedInterval c band length time).pending = s.pending := by
  unfold State.playedInterval
  try dsimp only
  (repeat' split) <;> simp

/-- What `dataHint` leaves alone. -/
@[simp] theorem State.dataHint_untouched (s : State) (c : Chan) :
    (s.dataHint c).timebase = s.timebase ∧ (s.dataHint c).sampleDue = s.sampleDue ∧
      (s.dataHint c).pool = s.pool ∧ (s.dataHint c).loops = s.loops ∧
      (s.dataHint c).stepIndex = s.stepIndex ∧ (s.dataHint c).nextBoundary = s.nextBoundary ∧
      (s.dataHint c).live = s.live ∧ (s.dataHint c).store = s.store ∧
      (s.dataHint c).restart = s.restart ∧ (s.dataHint c).freeCount = s.freeCount ∧
      (s.dataHint c).pending = s.pending := by
  unfold State.dataHint
  try dsimp only
  (repeat' split) <;> simp

/-- What `cutTransfer` leaves alone. -/
@[simp] theorem State.cutTransfer_untouched (s : State) (p : Port) :
    (s.cutTransfer p).timebase = s.timebase ∧ (s.cutTransfer p).sampleDue = s.sampleDue ∧
      (s.cutTransfer p).pool = s.pool ∧ (s.cutTransfer p).loops = s.loops ∧
      (s.cutTransfer p).ports = s.ports ∧ (s.cutTransfer p).stepIndex = s.stepIndex ∧
      (s.cutTransfer p).nextBoundary = s.nextBoundary ∧ (s.cutTransfer p).live = s.live ∧
      (s.cutTransfer p).store = s.store ∧ (s.cutTransfer p).restart = s.restart ∧
      (s.cutTransfer p).freeCount = s.freeCount ∧ (s.cutTransfer p).pending = s.pending := by
  unfold State.cutTransfer
  try dsimp only
  (repeat' split) <;> simp

/-- What `testDone` leaves alone. -/
@[simp] theorem State.testDone_untouched (s : State) (l : Loop) (outcome : TestOutcome) (nRef nLoop : Nat) (isOver : Bool) :
    (s.testDone l outcome nRef nLoop isOver).timebase = s.timebase ∧ (s.testDone l outcome nRef nLoop isOver).sampleDue = s.sampleDue ∧
      (s.testDone l outcome nRef nLoop isOver).chans = s.chans ∧ (s.testDone l outcome nRef nLoop isOver).pool = s.pool ∧
      (s.testDone l outcome nRef nLoop isOver).loops = s.loops ∧ (s.testDone l outcome nRef nLoop isOver).stepIndex = s.stepIndex ∧
      (s.testDone l outcome nRef nLoop isOver).nextBoundary = s.nextBoundary ∧ (s.testDone l outcome nRef nLoop isOver).live = s.live ∧
      (s.testDone l outcome nRef nLoop isOver).store = s.store ∧ (s.testDone l outcome nRef nLoop isOver).restart = s.restart ∧
      (s.testDone l outcome nRef nLoop isOver).freeCount = s.freeCount ∧ (s.testDone l outcome nRef nLoop isOver).pending = s.pending := by
  simp [State.testDone]

/-- What `abortTest` leaves alone. -/
@[simp] theorem State.abortTest_untouched (s : State) (l : Loop) (outcome : TestOutcome) :
    (s.abortTest l outcome).timebase = s.timebase ∧ (s.abortTest l outcome).sampleDue = s.sampleDue ∧
      (s.abortTest l outcome).chans = s.chans ∧ (s.abortTest l outcome).pool = s.pool ∧
      (s.abortTest l outcome).stepIndex = s.stepIndex ∧ (s.abortTest l outcome).nextBoundary = s.nextBoundary ∧
      (s.abortTest l outcome).live = s.live ∧ (s.abortTest l outcome).store = s.store ∧
      (s.abortTest l outcome).restart = s.restart ∧ (s.abortTest l outcome).freeCount = s.freeCount ∧
      (s.abortTest l outcome).pending = s.pending := by
  simp [State.abortTest]

/-- What `finishRing` leaves alone. -/
@[simp] theorem State.finishRing_untouched (s : State) (l : Loop) (r : RingRecord) (reason : RingReason) :
    (s.finishRing l r reason).timebase = s.timebase ∧ (s.finishRing l r reason).sampleDue = s.sampleDue ∧
      (s.finishRing l r reason).chans = s.chans ∧ (s.finishRing l r reason).pool = s.pool ∧
      (s.finishRing l r reason).stepIndex = s.stepIndex ∧ (s.finishRing l r reason).nextBoundary = s.nextBoundary ∧
      (s.finishRing l r reason).live = s.live ∧ (s.finishRing l r reason).store = s.store ∧
      (s.finishRing l r reason).restart = s.restart ∧ (s.finishRing l r reason).freeCount = s.freeCount ∧
      (s.finishRing l r reason).pending = s.pending := by
  simp [State.finishRing]

/-- What `ringTrip` leaves alone. -/
@[simp] theorem State.ringTrip_untouched (s : State) (l : Loop) :
    (s.ringTrip l).timebase = s.timebase ∧ (s.ringTrip l).sampleDue = s.sampleDue ∧
      (s.ringTrip l).chans = s.chans ∧ (s.ringTrip l).pool = s.pool ∧
      (s.ringTrip l).stepIndex = s.stepIndex ∧ (s.ringTrip l).nextBoundary = s.nextBoundary ∧
      (s.ringTrip l).live = s.live ∧ (s.ringTrip l).store = s.store ∧
      (s.ringTrip l).restart = s.restart ∧ (s.ringTrip l).freeCount = s.freeCount ∧
      (s.ringTrip l).pending = s.pending := by
  unfold State.ringTrip
  dsimp only
  split <;> simp

/-- What `startRing` leaves alone. -/
@[simp] theorem State.startRing_untouched (s : State) (p : Port) (tag : Byte) (o : RingParams) :
    (s.startRing p tag o).timebase = s.timebase ∧ (s.startRing p tag o).sampleDue = s.sampleDue ∧
      (s.startRing p tag o).chans = s.chans ∧ (s.startRing p tag o).pool = s.pool ∧
      (s.startRing p tag o).stepIndex = s.stepIndex ∧ (s.startRing p tag o).nextBoundary = s.nextBoundary ∧
      (s.startRing p tag o).live = s.live ∧ (s.startRing p tag o).store = s.store ∧
      (s.startRing p tag o).restart = s.restart ∧ (s.startRing p tag o).freeCount = s.freeCount ∧
      (s.startRing p tag o).pending = s.pending := by
  simp [State.startRing]

/-- What `stopAutoTone` leaves alone. -/
@[simp] theorem State.stopAutoTone_untouched (s : State) (l : Loop) :
    (s.stopAutoTone l).timebase = s.timebase ∧ (s.stopAutoTone l).sampleDue = s.sampleDue ∧
      (s.stopAutoTone l).chans = s.chans ∧ (s.stopAutoTone l).pool = s.pool ∧
      (s.stopAutoTone l).stepIndex = s.stepIndex ∧ (s.stopAutoTone l).nextBoundary = s.nextBoundary ∧
      (s.stopAutoTone l).live = s.live ∧ (s.stopAutoTone l).store = s.store ∧
      (s.stopAutoTone l).restart = s.restart ∧ (s.stopAutoTone l).freeCount = s.freeCount ∧
      (s.stopAutoTone l).pending = s.pending := by
  unfold State.stopAutoTone
  try dsimp only
  (repeat' split) <;> simp

/-- What `raiseDigit` leaves alone. -/
@[simp] theorem State.raiseDigit_untouched (s : State) (l : Loop) (digit : Byte) (method : DigitMethod) (count : Half) :
    (s.raiseDigit l digit method count).timebase = s.timebase ∧ (s.raiseDigit l digit method count).sampleDue = s.sampleDue ∧
      (s.raiseDigit l digit method count).pool = s.pool ∧ (s.raiseDigit l digit method count).stepIndex = s.stepIndex ∧
      (s.raiseDigit l digit method count).nextBoundary = s.nextBoundary ∧ (s.raiseDigit l digit method count).live = s.live ∧
      (s.raiseDigit l digit method count).store = s.store ∧ (s.raiseDigit l digit method count).restart = s.restart ∧
      (s.raiseDigit l digit method count).freeCount = s.freeCount ∧ (s.raiseDigit l digit method count).pending = s.pending := by
  unfold State.raiseDigit
  dsimp only
  split <;> simp

/-- What `endRotary` leaves alone. -/
@[simp] theorem State.endRotary_untouched (s : State) (l : Loop) :
    (s.endRotary l).timebase = s.timebase ∧ (s.endRotary l).sampleDue = s.sampleDue ∧
      (s.endRotary l).pool = s.pool ∧ (s.endRotary l).stepIndex = s.stepIndex ∧
      (s.endRotary l).nextBoundary = s.nextBoundary ∧ (s.endRotary l).live = s.live ∧
      (s.endRotary l).store = s.store ∧ (s.endRotary l).restart = s.restart ∧
      (s.endRotary l).freeCount = s.freeCount ∧ (s.endRotary l).pending = s.pending := by
  unfold State.endRotary
  dsimp only
  split <;> simp

/-- What `autoDialTone` leaves alone. -/
@[simp] theorem State.autoDialTone_untouched (s : State) (l : Loop) :
    (s.autoDialTone l).timebase = s.timebase ∧ (s.autoDialTone l).sampleDue = s.sampleDue ∧
      (s.autoDialTone l).chans = s.chans ∧ (s.autoDialTone l).pool = s.pool ∧
      (s.autoDialTone l).stepIndex = s.stepIndex ∧ (s.autoDialTone l).nextBoundary = s.nextBoundary ∧
      (s.autoDialTone l).live = s.live ∧ (s.autoDialTone l).store = s.store ∧
      (s.autoDialTone l).restart = s.restart ∧ (s.autoDialTone l).freeCount = s.freeCount ∧
      (s.autoDialTone l).pending = s.pending := by
  unfold State.autoDialTone
  dsimp only
  split <;> simp

/-- What `seize` leaves alone. -/
@[simp] theorem State.seize_untouched (s : State) (l : Loop) :
    (s.seize l).timebase = s.timebase ∧ (s.seize l).sampleDue = s.sampleDue ∧
      (s.seize l).pool = s.pool ∧ (s.seize l).stepIndex = s.stepIndex ∧
      (s.seize l).nextBoundary = s.nextBoundary ∧ (s.seize l).live = s.live ∧
      (s.seize l).store = s.store ∧ (s.seize l).restart = s.restart ∧
      (s.seize l).freeCount = s.freeCount ∧ (s.seize l).pending = s.pending := by
  simp [State.seize]

/-- What `answerOffhook` leaves alone. -/
@[simp] theorem State.answerOffhook_untouched (s : State) (l : Loop) :
    (s.answerOffhook l).timebase = s.timebase ∧ (s.answerOffhook l).sampleDue = s.sampleDue ∧
      (s.answerOffhook l).pool = s.pool ∧ (s.answerOffhook l).stepIndex = s.stepIndex ∧
      (s.answerOffhook l).nextBoundary = s.nextBoundary ∧ (s.answerOffhook l).live = s.live ∧
      (s.answerOffhook l).store = s.store ∧ (s.answerOffhook l).restart = s.restart ∧
      (s.answerOffhook l).freeCount = s.freeCount ∧ (s.answerOffhook l).pending = s.pending := by
  unfold State.answerOffhook
  try dsimp only
  (repeat' split) <;> simp

/-- What `flash` leaves alone. -/
@[simp] theorem State.flash_untouched (s : State) (l : Loop) (length : Nat) :
    (s.flash l length).timebase = s.timebase ∧ (s.flash l length).sampleDue = s.sampleDue ∧
      (s.flash l length).pool = s.pool ∧ (s.flash l length).stepIndex = s.stepIndex ∧
      (s.flash l length).nextBoundary = s.nextBoundary ∧ (s.flash l length).live = s.live ∧
      (s.flash l length).store = s.store ∧ (s.flash l length).restart = s.restart ∧
      (s.flash l length).pending = s.pending := by
  unfold State.flash
  simp only [msField]
  (repeat' split) <;> simp [State.takeFree_eq]

/-- What `endBreak` leaves alone. -/
@[simp] theorem State.endBreak_untouched (s : State) (l : Loop) :
    (s.endBreak l).timebase = s.timebase ∧ (s.endBreak l).sampleDue = s.sampleDue ∧
      (s.endBreak l).pool = s.pool ∧ (s.endBreak l).stepIndex = s.stepIndex ∧
      (s.endBreak l).nextBoundary = s.nextBoundary ∧ (s.endBreak l).live = s.live ∧
      (s.endBreak l).store = s.store ∧ (s.endBreak l).restart = s.restart ∧
      (s.endBreak l).pending = s.pending := by
  unfold State.endBreak
  dsimp only
  (repeat' split) <;> simp

/-- The drains of a list of channels ended leave the rest alone. -/
theorem endDrains_untouched (s : State) (cs : List Chan) (reason : DrainReason) :
    let t := cs.foldl (fun t c => State.endDrain t c reason) s
    (t).timebase = s.timebase ∧ (t).sampleDue = s.sampleDue ∧
      (t).stepIndex = s.stepIndex ∧
      (t).nextBoundary = s.nextBoundary ∧ (t).live = s.live ∧
      (t).store = s.store ∧ (t).restart = s.restart ∧
      (t).freeCount = s.freeCount ∧ (t).pending = s.pending := by
  induction cs generalizing s with
  | nil => simp
  | cons c rest ih =>
    have h := ih (s.endDrain c reason)
    simpa using h

/-- What `hangUp` leaves alone. -/
@[simp] theorem State.hangUp_untouched (s : State) (l : Loop) :
    (s.hangUp l).timebase = s.timebase ∧ (s.hangUp l).sampleDue = s.sampleDue ∧
      (s.hangUp l).stepIndex = s.stepIndex ∧ (s.hangUp l).nextBoundary = s.nextBoundary ∧
      (s.hangUp l).live = s.live ∧ (s.hangUp l).store = s.store ∧
      (s.hangUp l).restart = s.restart ∧ (s.hangUp l).freeCount = s.freeCount ∧
      (s.hangUp l).pending = s.pending := by
  unfold State.hangUp
  dsimp only
  simp [endDrains_untouched]

/-- What `parkLost` leaves alone. -/
@[simp] theorem State.parkLost_untouched (s : State) (l : Loop) :
    (s.parkLost l).timebase = s.timebase ∧ (s.parkLost l).sampleDue = s.sampleDue ∧
      (s.parkLost l).chans = s.chans ∧ (s.parkLost l).pool = s.pool ∧
      (s.parkLost l).stepIndex = s.stepIndex ∧ (s.parkLost l).nextBoundary = s.nextBoundary ∧
      (s.parkLost l).live = s.live ∧ (s.parkLost l).store = s.store ∧
      (s.parkLost l).restart = s.restart ∧ (s.parkLost l).freeCount = s.freeCount ∧
      (s.parkLost l).pending = s.pending := by
  unfold State.parkLost
  dsimp only
  (repeat' split) <;> simp

/-- What `expirePark` leaves alone. -/
@[simp] theorem State.expirePark_untouched (s : State) (c : Chan) :
    (s.expirePark c).timebase = s.timebase ∧ (s.expirePark c).sampleDue = s.sampleDue ∧
      (s.expirePark c).stepIndex = s.stepIndex ∧ (s.expirePark c).nextBoundary = s.nextBoundary ∧
      (s.expirePark c).live = s.live ∧ (s.expirePark c).store = s.store ∧
      (s.expirePark c).restart = s.restart ∧ (s.expirePark c).freeCount = s.freeCount ∧
      (s.expirePark c).pending = s.pending := by
  unfold State.expirePark
  dsimp only
  split <;> simp

/-- What `completeRing` leaves alone. -/
@[simp] theorem State.completeRing_untouched (s : State) (l : Loop) :
    (s.completeRing l).timebase = s.timebase ∧ (s.completeRing l).sampleDue = s.sampleDue ∧
      (s.completeRing l).chans = s.chans ∧ (s.completeRing l).pool = s.pool ∧
      (s.completeRing l).stepIndex = s.stepIndex ∧ (s.completeRing l).nextBoundary = s.nextBoundary ∧
      (s.completeRing l).live = s.live ∧ (s.completeRing l).store = s.store ∧
      (s.completeRing l).restart = s.restart ∧ (s.completeRing l).freeCount = s.freeCount ∧
      (s.completeRing l).pending = s.pending := by
  unfold State.completeRing
  try dsimp only
  (repeat' split) <;> simp

/-- What `finishTest` leaves alone. -/
@[simp] theorem State.finishTest_untouched (s : State) (l : Loop) (nLoop : Nat) :
    (s.finishTest l nLoop).timebase = s.timebase ∧ (s.finishTest l nLoop).sampleDue = s.sampleDue ∧
      (s.finishTest l nLoop).chans = s.chans ∧ (s.finishTest l nLoop).pool = s.pool ∧
      (s.finishTest l nLoop).stepIndex = s.stepIndex ∧ (s.finishTest l nLoop).nextBoundary = s.nextBoundary ∧
      (s.finishTest l nLoop).live = s.live ∧ (s.finishTest l nLoop).store = s.store ∧
      (s.finishTest l nLoop).restart = s.restart ∧ (s.finishTest l nLoop).freeCount = s.freeCount ∧
      (s.finishTest l nLoop).pending = s.pending := by
  simp [State.finishTest]

/-- What `beginMedia` leaves alone. -/
@[simp] theorem State.beginMedia_untouched (s : State) (p : Port) (c : Chan) :
    (s.beginMedia p c).timebase = s.timebase ∧ (s.beginMedia p c).sampleDue = s.sampleDue ∧
      (s.beginMedia p c).pool = s.pool ∧ (s.beginMedia p c).loops = s.loops ∧
      (s.beginMedia p c).stepIndex = s.stepIndex ∧ (s.beginMedia p c).nextBoundary = s.nextBoundary ∧
      (s.beginMedia p c).live = s.live ∧ (s.beginMedia p c).store = s.store ∧
      (s.beginMedia p c).restart = s.restart ∧ (s.beginMedia p c).freeCount = s.freeCount ∧
      (s.beginMedia p c).pending = s.pending := by
  simp [State.beginMedia]

/-- What `chooseMessage` leaves alone. -/
@[simp] theorem State.chooseMessage_untouched (s : State) (p : Port) :
    (s.chooseMessage p).timebase = s.timebase ∧ (s.chooseMessage p).sampleDue = s.sampleDue ∧
      (s.chooseMessage p).pool = s.pool ∧ (s.chooseMessage p).loops = s.loops ∧
      (s.chooseMessage p).stepIndex = s.stepIndex ∧ (s.chooseMessage p).nextBoundary = s.nextBoundary ∧
      (s.chooseMessage p).live = s.live ∧ (s.chooseMessage p).store = s.store ∧
      (s.chooseMessage p).restart = s.restart ∧ (s.chooseMessage p).freeCount = s.freeCount ∧
      (s.chooseMessage p).pending = s.pending := by
  unfold State.chooseMessage
  (repeat' split) <;> simp

/-- What `completeTransfer` leaves alone. -/
@[simp] theorem State.completeTransfer_untouched (s : State) (p : Port) :
    (s.completeTransfer p).timebase = s.timebase ∧ (s.completeTransfer p).sampleDue = s.sampleDue ∧
      (s.completeTransfer p).pool = s.pool ∧ (s.completeTransfer p).loops = s.loops ∧
      (s.completeTransfer p).stepIndex = s.stepIndex ∧ (s.completeTransfer p).nextBoundary = s.nextBoundary ∧
      (s.completeTransfer p).live = s.live ∧ (s.completeTransfer p).store = s.store ∧
      (s.completeTransfer p).freeCount = s.freeCount ∧ (s.completeTransfer p).pending = s.pending := by
  unfold State.completeTransfer
  (repeat' split) <;> simp

/-- With no transfer in progress a port sends the fill byte (R170). -/
theorem PortState.sendByte_idle (x : PortState) (h : x.transfer = none) : x.sendByte = { x with sent := [0x00] } := by
  simp [PortState.sendByte, h, fillByte]

/-- In a transfer a port sends the next byte of the message (R170). -/
theorem PortState.sendByte_next (x : PortState) (t : Transfer) (b : Byte) (h : x.transfer = some t)
    (hb : t.frame[t.position]? = some b) :
    x.sendByte = { x with sent := [b], transfer := some { t with position := t.position + 1 } } := by
  simp only [PortState.sendByte, h, hb]

/-- A port all of whose message has been sent waits for the completion (log 40). -/
theorem PortState.sendByte_done (x : PortState) (t : Transfer) (h : x.transfer = some t)
    (hb : t.frame[t.position]? = none) : x.sendByte = x := by
  simp only [PortState.sendByte, h, hb]

/-- A port that sends a byte changes its sent bytes and its transfer's position alone. -/
theorem PortState.sendByte_frame (x : PortState) :
    x.sendByte = { x with sent := x.sendByte.sent, transfer := x.sendByte.transfer }
      ∧ x.sendByte.transfer.map Transfer.what = x.transfer.map Transfer.what
      ∧ x.sendByte.transfer.map Transfer.frame = x.transfer.map Transfer.frame := by
  unfold PortState.sendByte
  split
  · simp
  · rename_i h
    cases x
    cases h
    dsimp only
    split <;> simp

/-- A port that sends the rest of its message changes its sent bytes alone. -/
theorem PortState.sendRest_frame (x : PortState) : x.sendRest = { x with sent := x.sendRest.sent } := by
  unfold PortState.sendRest
  split <;> rfl

/-- Every message starts with the sync byte (13.1). -/
@[simp] theorem frame_head (kind : Byte) (body : List Byte) : (frame kind body)[0]? = some 0xA7 := rfl

/-- What `judgePlayed` leaves alone. -/
@[simp] theorem State.judgePlayed_untouched (s : State) (c : Chan) (m : Option IntervalMeasure) :
    (s.judgePlayed c m).timebase = s.timebase ∧ (s.judgePlayed c m).sampleDue = s.sampleDue ∧
      (s.judgePlayed c m).pool = s.pool ∧ (s.judgePlayed c m).loops = s.loops ∧
      (s.judgePlayed c m).stepIndex = s.stepIndex ∧ (s.judgePlayed c m).nextBoundary = s.nextBoundary ∧
      (s.judgePlayed c m).live = s.live ∧ (s.judgePlayed c m).store = s.store ∧
      (s.judgePlayed c m).restart = s.restart ∧ (s.judgePlayed c m).freeCount = s.freeCount ∧
      (s.judgePlayed c m).pending = s.pending := by
  unfold State.judgePlayed
  try dsimp only
  (repeat' split) <;> simp

/-- What `chooseBlock` leaves alone. -/
@[simp] theorem State.chooseBlock_untouched (s : State) (c : Chan) :
    (s.chooseBlock c).timebase = s.timebase ∧ (s.chooseBlock c).sampleDue = s.sampleDue ∧
      (s.chooseBlock c).stepIndex = s.stepIndex ∧
      (s.chooseBlock c).nextBoundary = s.nextBoundary ∧ (s.chooseBlock c).live = s.live ∧
      (s.chooseBlock c).store = s.store ∧ (s.chooseBlock c).restart = s.restart ∧
      (s.chooseBlock c).freeCount = s.freeCount ∧ (s.chooseBlock c).pending = s.pending := by
  unfold State.chooseBlock
  dsimp only
  split <;> simp

/-- What `routeMedia` leaves alone. -/
@[simp] theorem State.routeMedia_untouched (s : State) (p : Port) (m : MediaMsg) :
    (s.routeMedia p m).timebase = s.timebase ∧ (s.routeMedia p m).sampleDue = s.sampleDue ∧
      (s.routeMedia p m).loops = s.loops ∧ (s.routeMedia p m).stepIndex = s.stepIndex ∧
      (s.routeMedia p m).nextBoundary = s.nextBoundary ∧ (s.routeMedia p m).live = s.live ∧
      (s.routeMedia p m).store = s.store ∧ (s.routeMedia p m).restart = s.restart ∧
      (s.routeMedia p m).freeCount = s.freeCount ∧ (s.routeMedia p m).pending = s.pending := by
  unfold State.routeMedia
  try dsimp only
  (repeat' split) <;> simp

/-- What `takeDial` leaves alone. -/
@[simp] theorem State.takeDial_untouched (s : State) (l : Loop) (lead take : Bool) :
    (s.takeDial l lead take).timebase = s.timebase ∧ (s.takeDial l lead take).sampleDue = s.sampleDue ∧
      (s.takeDial l lead take).chans = s.chans ∧ (s.takeDial l lead take).pool = s.pool ∧
      (s.takeDial l lead take).stepIndex = s.stepIndex ∧ (s.takeDial l lead take).nextBoundary = s.nextBoundary ∧
      (s.takeDial l lead take).live = s.live ∧ (s.takeDial l lead take).store = s.store ∧
      (s.takeDial l lead take).restart = s.restart ∧ (s.takeDial l lead take).freeCount = s.freeCount ∧
      (s.takeDial l lead take).pending = s.pending := by
  unfold State.takeDial
  dsimp only
  (repeat' split) <;> simp

/-- What `openChannel` leaves alone. -/
@[simp] theorem State.openChannel_untouched (s : State) (p : Port) (tag : Byte) (o : OpenParams) (c : Chan) (pool : Pool) :
    (s.openChannel p tag o c pool).timebase = s.timebase ∧ (s.openChannel p tag o c pool).sampleDue = s.sampleDue ∧
      (s.openChannel p tag o c pool).stepIndex = s.stepIndex ∧ (s.openChannel p tag o c pool).nextBoundary = s.nextBoundary ∧
      (s.openChannel p tag o c pool).live = s.live ∧ (s.openChannel p tag o c pool).store = s.store ∧
      (s.openChannel p tag o c pool).restart = s.restart ∧ (s.openChannel p tag o c pool).freeCount = s.freeCount ∧
      (s.openChannel p tag o c pool).pending = s.pending := by
  simp [State.openChannel]

/-- What `claim` leaves alone. -/
@[simp] theorem State.claim_untouched (s : State) (p : Port) (tag : Byte) (c : Chan) :
    (s.claim p tag c).timebase = s.timebase ∧ (s.claim p tag c).sampleDue = s.sampleDue ∧
      (s.claim p tag c).pool = s.pool ∧ (s.claim p tag c).loops = s.loops ∧
      (s.claim p tag c).stepIndex = s.stepIndex ∧ (s.claim p tag c).nextBoundary = s.nextBoundary ∧
      (s.claim p tag c).live = s.live ∧ (s.claim p tag c).store = s.store ∧
      (s.claim p tag c).restart = s.restart ∧ (s.claim p tag c).freeCount = s.freeCount ∧
      (s.claim p tag c).pending = s.pending := by
  simp [State.claim]

/-- What `handoff` leaves alone. -/
@[simp] theorem State.handoff_untouched (s : State) (p : Port) (tag : Byte) (c : Chan) (target : Port) :
    (s.handoff p tag c target).timebase = s.timebase ∧ (s.handoff p tag c target).sampleDue = s.sampleDue ∧
      (s.handoff p tag c target).pool = s.pool ∧ (s.handoff p tag c target).loops = s.loops ∧
      (s.handoff p tag c target).stepIndex = s.stepIndex ∧ (s.handoff p tag c target).nextBoundary = s.nextBoundary ∧
      (s.handoff p tag c target).live = s.live ∧ (s.handoff p tag c target).store = s.store ∧
      (s.handoff p tag c target).restart = s.restart ∧ (s.handoff p tag c target).freeCount = s.freeCount ∧
      (s.handoff p tag c target).pending = s.pending := by
  simp [State.handoff]

/-- What `closeWithDrain` leaves alone. -/
@[simp] theorem State.closeWithDrain_untouched (s : State) (p : Port) (tag : Byte) (c : Chan) :
    (s.closeWithDrain p tag c).timebase = s.timebase ∧ (s.closeWithDrain p tag c).sampleDue = s.sampleDue ∧
      (s.closeWithDrain p tag c).stepIndex = s.stepIndex ∧
      (s.closeWithDrain p tag c).nextBoundary = s.nextBoundary ∧ (s.closeWithDrain p tag c).live = s.live ∧
      (s.closeWithDrain p tag c).store = s.store ∧ (s.closeWithDrain p tag c).restart = s.restart ∧
      (s.closeWithDrain p tag c).freeCount = s.freeCount ∧ (s.closeWithDrain p tag c).pending = s.pending := by
  unfold State.closeWithDrain
  try dsimp only
  (repeat' split) <;> simp

end Sys2Proof.Machine
end

