-- ==== Sys2Proof/WellFormed.lean ====
section
/-! DEFINITION. Which commands are well formed: a message fits a frame and has the form its kind requires, broken bytes hold no message, measured figures lie in their ranges. -/

namespace Sys2Proof

/-- The largest length field of a frame: kind and body (R171). -/
def maxLength : Nat := 1395

/-- The length field of a command that is a message: kind and body (R197). -/
def Instr.lengthField : Instr → Option Nat
  | .openReq _ _ params => some (3 + params.length)
  | .claimReq _ _ params => some (3 + params.length)
  | .handoffReq _ _ params => some (3 + params.length)
  | .closeReq _ _ params => some (3 + params.length)
  | .connectReq _ _ params => some (3 + params.length)
  | .setFallbackReq _ _ params => some (3 + params.length)
  | .channelSetReq _ _ params => some (3 + params.length)
  | .statsReq _ _ params => some (3 + params.length)
  | .modeReq _ _ params => some (3 + params.length)
  | .polarityReq _ _ params => some (3 + params.length)
  | .denyReq _ _ params => some (3 + params.length)
  | .toneReq _ _ params => some (3 + params.length)
  | .toneStopReq _ _ params => some (3 + params.length)
  | .toneDefineReq _ _ params => some (3 + params.length)
  | .gainReq _ _ params => some (3 + params.length)
  | .ringReq _ _ params => some (3 + params.length)
  | .ringStopReq _ _ params => some (3 + params.length)
  | .testReq _ _ params => some (3 + params.length)
  | .setReq _ _ params => some (3 + params.length)
  | .getReq _ _ params => some (3 + params.length)
  | .inquireReq _ _ params => some (3 + params.length)
  | .profileSaveReq _ _ params => some (3 + params.length)
  | .profileLoadReq _ _ params => some (3 + params.length)
  | .profileStartReq _ _ params => some (3 + params.length)
  | .restartReq _ _ params => some (3 + params.length)
  | .unknownRequestCode _ _ _ params => some (3 + params.length)
  | .mediaIn _ body => some (1 + body.length)
  | .keep _ body => some (1 + body.length)
  | _ => none

/-- A command that is a message fits a frame (R171). -/
def Instr.fits (i : Instr) : Bool :=
  match i.lengthField with
  | none => true
  | some n => decide (n ≤ maxLength)

/-- Measured figures of an interval lie in their ranges: a frequency below 4000 Hz, at most 81 samples filled. -/
def intervalOk (m : Option IntervalMeasure) : Bool :=
  match m with
  | none => true
  | some x => decide (x.milliHz ≤ 4000000) && decide (x.occupancy ≤ 81)

/-- Measured figures of a key lie in their ranges. -/
def keyOk (m : Option KeyMeasure) : Bool :=
  match m with
  | none => true
  | some x => decide (x.rowMilliHz ≤ 4000000) && decide (x.colMilliHz ≤ 4000000)

/-- A command's own form: the body a message kind requires (R172, R198), a code the part does not know (R175), bytes
that hold no valid message for a receiver in HUNT (R171), measured figures in range. -/
def Instr.form : Instr → Bool
  | .mediaIn _ body => (Machine.parseMedia body).isSome
  | .keep _ body => body.isEmpty
  | .unknownRequestCode _ _ code _ => !Machine.knownCodes.contains code
  | .badFrame _ bytes => !(Machine.Receiver.takeAll .hunt bytes).2.2
  | .dtmfKeyChange _ m => keyOk m
  | .channelTick _ m => intervalOk m
  | .loopBlockClose _ m => intervalOk m
  | _ => true

/-- A command is well formed. -/
def Instr.wf (i : Instr) : Bool := i.fits && i.form

end Sys2Proof
end

