-- ==== Sys2Proof/Laws/PerInstr.lean ====
section
/-! SUPPORT. The family FitsFrame: a well-formed command that is a message fits a frame; one lemma per constructor. -/

namespace Sys2Proof.Laws.FitsFrame

/-- A well-formed command that is a message has a length field of 1 to 1395 (R171). -/
def Statement (i : Instr) : Prop := i.wf = true → ∀ n, i.lengthField = some n → 1 ≤ n ∧ n ≤ 1395

/-- A message of length `n` that fits a frame. -/
theorem of_length {i : Instr} {n : Nat} (h : i.lengthField = some n) (hn : 1 ≤ n) : Statement i := by
  intro hwf m hm
  rw [h] at hm
  cases hm
  simp only [Instr.wf, Instr.fits, h, Bool.and_eq_true, decide_eq_true_eq] at hwf
  exact ⟨hn, hwf.1⟩

/-- A command that is no message. -/
theorem of_none {i : Instr} (h : i.lengthField = none) : Statement i := by
  intro _ n hn
  rw [h] at hn
  cases hn

theorem openReq (p : Port) (tag : Byte) (params : List Byte) : Statement (.openReq p tag params) := of_length rfl (by omega)

theorem claimReq (p : Port) (tag : Byte) (params : List Byte) : Statement (.claimReq p tag params) := of_length rfl (by omega)

theorem handoffReq (p : Port) (tag : Byte) (params : List Byte) : Statement (.handoffReq p tag params) := of_length rfl (by omega)

theorem closeReq (p : Port) (tag : Byte) (params : List Byte) : Statement (.closeReq p tag params) := of_length rfl (by omega)

theorem connectReq (p : Port) (tag : Byte) (params : List Byte) : Statement (.connectReq p tag params) := of_length rfl (by omega)

theorem setFallbackReq (p : Port) (tag : Byte) (params : List Byte) : Statement (.setFallbackReq p tag params) := of_length rfl (by omega)

theorem channelSetReq (p : Port) (tag : Byte) (params : List Byte) : Statement (.channelSetReq p tag params) := of_length rfl (by omega)

theorem statsReq (p : Port) (tag : Byte) (params : List Byte) : Statement (.statsReq p tag params) := of_length rfl (by omega)

theorem modeReq (p : Port) (tag : Byte) (params : List Byte) : Statement (.modeReq p tag params) := of_length rfl (by omega)

theorem polarityReq (p : Port) (tag : Byte) (params : List Byte) : Statement (.polarityReq p tag params) := of_length rfl (by omega)

theorem denyReq (p : Port) (tag : Byte) (params : List Byte) : Statement (.denyReq p tag params) := of_length rfl (by omega)

theorem toneReq (p : Port) (tag : Byte) (params : List Byte) : Statement (.toneReq p tag params) := of_length rfl (by omega)

theorem toneStopReq (p : Port) (tag : Byte) (params : List Byte) : Statement (.toneStopReq p tag params) := of_length rfl (by omega)

theorem toneDefineReq (p : Port) (tag : Byte) (params : List Byte) : Statement (.toneDefineReq p tag params) := of_length rfl (by omega)

theorem gainReq (p : Port) (tag : Byte) (params : List Byte) : Statement (.gainReq p tag params) := of_length rfl (by omega)

theorem ringReq (p : Port) (tag : Byte) (params : List Byte) : Statement (.ringReq p tag params) := of_length rfl (by omega)

theorem ringStopReq (p : Port) (tag : Byte) (params : List Byte) : Statement (.ringStopReq p tag params) := of_length rfl (by omega)

theorem testReq (p : Port) (tag : Byte) (params : List Byte) : Statement (.testReq p tag params) := of_length rfl (by omega)

theorem setReq (p : Port) (tag : Byte) (params : List Byte) : Statement (.setReq p tag params) := of_length rfl (by omega)

theorem getReq (p : Port) (tag : Byte) (params : List Byte) : Statement (.getReq p tag params) := of_length rfl (by omega)

theorem inquireReq (p : Port) (tag : Byte) (params : List Byte) : Statement (.inquireReq p tag params) := of_length rfl (by omega)

theorem profileSaveReq (p : Port) (tag : Byte) (params : List Byte) : Statement (.profileSaveReq p tag params) := of_length rfl (by omega)

theorem profileLoadReq (p : Port) (tag : Byte) (params : List Byte) : Statement (.profileLoadReq p tag params) := of_length rfl (by omega)

theorem profileStartReq (p : Port) (tag : Byte) (params : List Byte) : Statement (.profileStartReq p tag params) := of_length rfl (by omega)

theorem restartReq (p : Port) (tag : Byte) (params : List Byte) : Statement (.restartReq p tag params) := of_length rfl (by omega)

theorem unknownRequestCode (p : Port) (tag : Byte) (code : Byte) (params : List Byte) : Statement (.unknownRequestCode p tag code params) := of_length rfl (by omega)

theorem mediaIn (p : Port) (body : List Byte) : Statement (.mediaIn p body) := of_length rfl (by omega)

theorem keep (p : Port) (body : List Byte) : Statement (.keep p body) := of_length rfl (by omega)

theorem badFrame (p : Port) (bytes : List Byte) : Statement (.badFrame p bytes) := of_none rfl

theorem powerOn : Statement (.powerOn) := of_none rfl

theorem resetLine : Statement (.resetLine) := of_none rfl

theorem restartTaken : Statement (.restartTaken) := of_none rfl

theorem silenceTimerExpiry (p : Port) : Statement (.silenceTimerExpiry p) := of_none rfl

theorem parkExpiry (c : Chan) : Statement (.parkExpiry c) := of_none rfl

theorem drainDeadline (c : Chan) : Statement (.drainDeadline c) := of_none rfl

theorem denyEnd (l : Loop) : Statement (.denyEnd l) := of_none rfl

theorem loopCurrentChange (l : Loop) (microamps : Int) : Statement (.loopCurrentChange l microamps) := of_none rfl

theorem hookQualified (l : Loop) : Statement (.hookQualified l) := of_none rfl

theorem hangup (l : Loop) : Statement (.hangup l) := of_none rfl

theorem rotaryDigitEnd (l : Loop) : Statement (.rotaryDigitEnd l) := of_none rfl

theorem dtmfKeyChange (l : Loop) (m : Option KeyMeasure) : Statement (.dtmfKeyChange l m) := of_none rfl

theorem dtmfOnsetQualified (l : Loop) : Statement (.dtmfOnsetQualified l) := of_none rfl

theorem dtmfDigitEnd (l : Loop) : Statement (.dtmfDigitEnd l) := of_none rfl

theorem stepBoundary : Statement (.stepBoundary) := of_none rfl

theorem callerWaitEnd (l : Loop) : Statement (.callerWaitEnd l) := of_none rfl

theorem callerTransmissionEnd (l : Loop) : Statement (.callerTransmissionEnd l) := of_none rfl

theorem refPhaseEnd (l : Loop) (count : Nat) : Statement (.refPhaseEnd l count) := of_none rfl

theorem loopPhaseEnd (l : Loop) (count : Nat) : Statement (.loopPhaseEnd l count) := of_none rfl

theorem saveComplete : Statement (.saveComplete) := of_none rfl

theorem channelTick (c : Chan) (m : Option IntervalMeasure) : Statement (.channelTick c m) := of_none rfl

theorem loopBlockClose (l : Loop) (m : Option IntervalMeasure) : Statement (.loopBlockClose l m) := of_none rfl

theorem toneComplete (l : Loop) : Statement (.toneComplete l) := of_none rfl

theorem messageBegin (p : Port) : Statement (.messageBegin p) := of_none rfl

theorem transferComplete (p : Port) : Statement (.transferComplete p) := of_none rfl

theorem sampleTime (lineA : Sample) (lineB : Sample) : Statement (.sampleTime lineA lineB) := of_none rfl

end Sys2Proof.Laws.FitsFrame
end

