-- ==== Sys2Proof/Laws/Requests.lean ====
section
/-! SUPPORT. How a request on a ready port reaches its owner, and how the owner's effect commutes with the taking of the request. -/

namespace Sys2Proof.Machine

/-- A request on a ready port reaches its owner in the counted state (R175). -/
theorem State.request_ready {s : State} {p : Port} (h : s.ready p) (act : State → State) :
    s.request p act = act (s.counted p) := by
  have hup : (s.port p).up = true := h.1
  have ht : s.messageTaken p = s.heard p := by
    unfold State.messageTaken
    simp only [hup, if_true]
    rfl
  have h4 : ¬ 4 ≤ ((s.heard p).port p).outstanding := by
    have := h.2
    simp only [State.heard, State.port_modPort_same]
    omega
  simp only [State.request, ht, h4, if_false]
  congr 1
  simp [State.heard, State.counted, State.modPort]

/-- A ready port's request that is only answered. -/
theorem State.replied_eq (s : State) (p : Port) (r : Reply) : s.replied p r = (s.counted p).answer p r := by
  simp [State.replied, State.counted, State.answer, State.modPort, PortState.replied, PortState.enqueue]

/-- The taking of a request commutes with a change of a channel. -/
theorem State.counted_modChan (s : State) (p : Port) (c : Chan) (f : Channel → Channel) :
    (s.modChan c f).counted p = (s.counted p).modChan c f := rfl

/-- The taking of a request commutes with a change of a loop. -/
theorem State.counted_modLoop (s : State) (p : Port) (l : Loop) (f : LoopState → LoopState) :
    (s.modLoop l f).counted p = (s.counted p).modLoop l f := rfl

/-- What the taking of a request leaves alone. -/
@[simp] theorem State.counted_untouched (s : State) (p : Port) :
    (s.counted p).timebase = s.timebase ∧ (s.counted p).sampleDue = s.sampleDue ∧
      (s.counted p).chans = s.chans ∧ (s.counted p).pool = s.pool ∧
      (s.counted p).loops = s.loops ∧ (s.counted p).stepIndex = s.stepIndex ∧
      (s.counted p).nextBoundary = s.nextBoundary ∧ (s.counted p).live = s.live ∧
      (s.counted p).store = s.store ∧ (s.counted p).restart = s.restart ∧
      (s.counted p).freeCount = s.freeCount ∧ (s.counted p).pending = s.pending := by
  simp [State.counted]

@[simp] theorem State.chan_counted (s : State) (p : Port) (c : Chan) : (s.counted p).chan c = s.chan c := rfl

@[simp] theorem State.loop_counted (s : State) (p : Port) (l : Loop) : (s.counted p).loop l = s.loop l := rfl

@[simp] theorem State.loopSet_counted (s : State) (p : Port) (l : Loop) : (s.counted p).loopSet l = s.loopSet l := rfl

@[simp] theorem State.leadOf_counted (s : State) (p : Port) (l : Loop) : (s.counted p).leadOf l = s.leadOf l := rfl

@[simp] theorem State.attached_counted (s : State) (p : Port) (l : Loop) :
    (s.counted p).attached l = s.attached l := rfl

@[simp] theorem State.speaksFor_counted (s : State) (p q : Port) (l : Loop) :
    (s.counted p).speaksFor l q = s.speaksFor l q := rfl

@[simp] theorem State.authority_counted (s : State) (p q : Port) (l : Loop) :
    (s.counted p).authority l q = s.authority l q := rfl

@[simp] theorem State.reserves_counted (s : State) (p : Port) : (s.counted p).reserves = s.reserves := rfl

@[simp] theorem State.allIdle_counted (s : State) (p : Port) : (s.counted p).allIdle = s.allIdle := rfl

/-- A port is UP after the taking of a request exactly when it was. -/
@[simp] theorem State.up_counted (s : State) (p q : Port) : ((s.counted p).port q).up = (s.port q).up := by
  by_cases h : q = p
  · subst h
    simp [State.counted]
  · simp [State.counted, State.port_modPort_ne _ h]

/-! ### Reading back an encoding (R199) -/

@[simp] theorem Chan.ofByte_byte (c : Chan) : Chan.ofByte (Chan.byte c) = some c := by cases c <;> rfl

@[simp] theorem Loop.ofByte_byte (l : Loop) : Loop.ofByte (Loop.byte l) = some l := by cases l <;> rfl

@[simp] theorem Port.ofByte_byte (p : Port) : Port.ofByte (Port.byte p) = some p := by cases p <;> rfl

@[simp] theorem portOrNone_byte (p : Option Port) : portOrNone (portOrNoneByte p) = some p := by
  cases p with
  | none => rfl
  | some p => cases p <;> rfl

@[simp] theorem flagOf_flagByte (b : Bool) : flagOf (flagByte b) = some b := by cases b <;> rfl

@[simp] theorem Mode.ofByte_byte (m : Mode) : Mode.ofByte m.byte = some m := by cases m <;> rfl

@[simp] theorem VoiceFlag.ofByte_byte (v : VoiceFlag) : VoiceFlag.ofByte v.byte = some v := by cases v <;> rfl

/-- A refusal of a request taken on a ready port only answers (R175). -/
theorem State.refuse_counted (s : State) (p : Port) (tag : Byte) (code : ReplyCode) :
    (s.counted p).refuse p tag code = s.replied p (refusal tag code) := by
  rw [State.replied_eq]; rfl

/-- An acceptance of a request taken on a ready port only answers (R175). -/
theorem State.accept_counted (s : State) (p : Port) (tag : Byte) (r : List Byte) :
    (s.counted p).accept p tag r = s.replied p (acceptance tag r) := by
  rw [State.replied_eq]; rfl

/-- An acceptance that says whether a value was clamped only answers (R175). -/
theorem State.acceptClamped_counted (s : State) (p : Port) (tag : Byte) (b : Bool) (r : List Byte) :
    (s.counted p).acceptClamped p tag b r = s.replied p (acceptanceOf tag b r) := by
  rw [State.replied_eq]; rfl

/-- A byte of 4 or more names no channel. -/
theorem Chan.ofByte_none {b : Byte} (h : 4 ≤ b.toNat) : Chan.ofByte b = none := by
  unfold Chan.ofByte
  split <;> first | omega | rfl

/-- A byte of 3 or more names no port. -/
theorem Port.ofByte_none {b : Byte} (h : 3 ≤ b.toNat) : Port.ofByte b = none := by
  unfold Port.ofByte
  split <;> first | omega | rfl

/-- A byte of 2 or more is no flag. -/
theorem flagOf_none {b : Byte} (h : 2 ≤ b.toNat) : flagOf b = none := by
  unfold flagOf
  split <;> first | omega | rfl

/-- A byte of 2 or more is no voice flag. -/
theorem VoiceFlag.ofByte_none {b : Byte} (h : 2 ≤ b.toNat) : VoiceFlag.ofByte b = none := by
  unfold VoiceFlag.ofByte
  split <;> first | omega | rfl

/-- A byte of 2 or more is no mode. -/
theorem Mode.ofByte_none {b : Byte} (h : 2 ≤ b.toNat) : Mode.ofByte b = none := by
  unfold Mode.ofByte
  split <;> first | omega | rfl

/-- A byte of 2 or more names no loop. -/
theorem Loop.ofByte_none {b : Byte} (h : 2 ≤ b.toNat) : Loop.ofByte b = none := by
  unfold Loop.ofByte
  split <;> first | omega | rfl

/-- A byte of 2 or more is no polarity. -/
theorem Polarity.ofByte_none {b : Byte} (h : 2 ≤ b.toNat) : Polarity.ofByte b = none := by
  unfold Polarity.ofByte
  split <;> first | omega | rfl

end Sys2Proof.Machine
end

