-- ==== Sys2Proof/Tests/Slice0.lean ====
section
/-! SUPPORT. The model's own tests: the checks of WellFormed refuse an ill-formed command each, the spec's worked figures come out, and for every statement a state and operands meet its hypotheses, clause by clause, at a boundary where a clause has one. -/

open Sys2Proof Sys2Proof.Machine

namespace Sys2Proof.Tests

set_option maxRecDepth 8000

/-! ### Well-formed commands -/

theorem test_wf_request : (Instr.inquireReq .p0 1 []).wf = true := by decide

theorem test_wf_message_too_long :
    (Instr.inquireReq .p0 1 (List.replicate 1393 0)).fits = false
      ∧ (Instr.inquireReq .p0 1 (List.replicate 1392 0)).fits = true
      ∧ (Instr.mediaIn .p0 (List.replicate 1395 0)).fits = false := by decide

theorem test_wf_media_of_another_form : (Instr.mediaIn .p0 [0, 0, 1, 0, 0, 0, 0, 0, 0x10]).form = false := by decide

theorem test_wf_keep_with_a_body : (Instr.keep .p0 [0]).form = false := by decide

theorem test_wf_known_code : (Instr.unknownRequestCode .p0 1 0x36 []).form = false := by decide

theorem test_wf_bytes_that_hold_a_message :
    (Instr.badFrame .p0 (frame 0x03 [])).form = false ∧ (Instr.badFrame .p0 [0xA7, 0, 0]).form = true := by decide

theorem test_wf_key_out_of_range : (Instr.dtmfKeyChange .a (some ⟨4000001, 0, 0, 0, 0⟩)).form = false := by decide

theorem test_wf_interval_out_of_range :
    (Instr.channelTick .c0 (some ⟨4000001, 0, 0, 80⟩)).form = false
      ∧ (Instr.loopBlockClose .a (some ⟨2100000, 0, 0, 82⟩)).form = false := by decide

theorem test_no_word_spells_a_command : ∀ n w : Nat, decodeTableWord n w = none := fun _ _ => rfl

/-! ### Small states -/

/-- The state after reset with every port UP and no control entry queued. -/
def base : State :=
  let up (x : PortState) : PortState := { x with up := true, queue := [], silenceEnd := 4000 }
  { State.reset with ports := ⟨up (State.reset.port .p0), up (State.reset.port .p1), up (State.reset.port .p2)⟩ }

/-- The state a command leads to. -/
def after (i : Instr) (s : State) : State :=
  match exec i s with
  | .next t => t
  | _ => s

/-- `base` with channel 0 opened from P0 on loop A in VOICE, its packet size 4. -/
def opened : State := after (.openReq .p0 1 [0, 0, 4, 0xFF, 0, 100, 0, 0, 0, 0, 0, 0, 0]) base

/-- `base` with channel 0 changed. -/
def chan0 (f : Channel → Channel) : State := opened.modChan .c0 f

/-- `base` with loop A changed. -/
def loopA (f : LoopState → LoopState) : State := base.modLoop .a f

/-- `base` with port P0 changed. -/
def port0 (f : PortState → PortState) : State := base.modPort .p0 f

/-- The channel's mark that it is held by P0 in a state. -/
def held (s : ChanState) (ch : Channel) : Channel := { ch with state := s, holder := some .p0 }

/-- A notice that is no START. -/
def hang : Notice := ⟨.hangup, some .a, none, 0⟩

/-- `base` with a HANGUP queued at P0 and its sync byte sent. -/
def midMessage : State := after (.messageBegin .p0) (port0 fun x => { x with queue := [.notice hang] })

/-- `base` with P0 in a transfer of two bytes, some of them sent. -/
def clocked (n : Nat) : State := port0 fun x => { x with transfer := some ⟨.control, [0xA7, 0x00], n⟩ }

/-- A queue entry of silence. -/
def entry (epoch : Byte) (seq : Half) : QEntry := ⟨epoch, seq, silence, 0⟩

/-- A ring record of P0 whose caller state is given. -/
def ring (c : CallerState) (fin : Bool) : RingRecord :=
  ⟨.p0, false, 12, 1, 0, true, 1, fin, false, none, 0, ⟨none, some [0x31], none, none, none⟩, c, 0, 0, 0, 0, 0⟩

/-- A tone of a kind, requested by P1, that plays program 1. -/
def tone (k : ToneKind) (complete : Option Word) : Tone :=
  ⟨k, .p1, 1, factoryPrograms.get 1, 0, 0, 0, complete⟩

/-- P0 with `n` notices queued and its overflow mark. -/
def full (n : Nat) (mark : Bool) : State :=
  port0 fun x => { x with queue := List.replicate n (.notice hang), overflowMark := mark }

theorem base_accounts : PoolAccounts base :=
  ⟨fun c => by cases c <;> rfl, fun c => by cases c <;> rfl, rfl, fun c _ => by cases c <;> exact ⟨rfl, rfl⟩⟩

theorem opened_accounts : PoolAccounts opened :=
  ⟨fun c => by cases c <;> decide, fun c => by cases c <;> decide, by decide,
    fun c h => by cases c <;> revert h <;> decide⟩

theorem factory_fits (g : Profile) : ¬base.store.loads g := by
  rintro (h | h | h | ⟨v, h, _⟩) <;> exact nomatch h

/-! ### Witnesses of the invariants' hypotheses -/

theorem test_meets_StepRunsTheFrontCommand :
    ({ base with pending := [.keep .p0 []] } : State).pending = .keep .p0 [] :: [] := rfl

theorem test_meets_EveryCommandCompletesBesideTheQueue : exec (.keep .p0 []) base = .next (base.heard .p0) := rfl

/-- The step the invariants' witnesses take: it opens a channel. -/
def opening : State := { base with pending := [.openReq .p0 1 [0, 0, 4, 0xFF, 0, 100, 0, 0, 0, 0, 0, 0, 0]] }

theorem test_opening_steps : step opening = .next opened ∧ (opened.chan .c0).state = .run := ⟨rfl, by decide⟩

theorem test_meets_PoolAccountsKept : PoolAccounts opening ∧ opening.everyProfile reservesFit :=
  ⟨⟨fun c => by cases c <;> rfl, fun c => by cases c <;> rfl, rfl, fun c _ => by cases c <;> exact ⟨rfl, rfl⟩⟩,
    by unfold reservesFit; decide, fun g h => absurd h (factory_fits g)⟩

theorem test_meets_QueueLimitsKept :
    (∀ p, QueueLimits (opening.port p)) ∧ (∀ p, TransferSound (opening.port p))
      ∧ (midMessage.port .p0).transfer.isSome = true ∧ ∀ p, TransferSound (midMessage.port p) :=
  ⟨fun p => by cases p <;> exact ⟨by decide, by decide, by decide, by decide, by decide⟩,
    fun p => by cases p <;> exact ⟨(fun _ h => nomatch h), (fun _ _ h => nomatch h), fun _ _ _ _ h => nomatch h⟩,
    by decide, fun p => by
      cases p
      · exact ⟨fun t h => by cases h; decide, (fun _ _ h => by cases h; decide), fun _ _ _ _ h => nomatch h⟩
      all_goals exact ⟨(fun _ h => nomatch h), (fun _ _ h => nomatch h), fun _ _ _ _ h => nomatch h⟩⟩

theorem test_meets_BindingsKept : (∀ c, opening.bound c) ∧ ∀ l, LoopLed opening l :=
  ⟨fun c => by cases c <;> exact ⟨rfl, rfl, rfl, rfl⟩,
    fun l => by cases l <;> exact ⟨by decide, by decide, by decide⟩⟩

theorem test_meets_FeedAgreementKept : ∀ l, FeedAgrees (opening.loop l) := fun l => by
  cases l <;> exact ⟨by decide, by decide, by decide, by decide, by decide, (fun r h => nomatch h), by decide,
    (fun r h => nomatch h), by decide, by decide, ⟨by decide, (fun ⟨_, h, _⟩ => nomatch h)⟩, by decide⟩

theorem test_meets_BoundsKept :
    (∀ c, TimingBounds (opening.chan c).tru) ∧ (∀ c, RingOrdered (opening.chan c).uf)
      ∧ (∀ l, LoopBounds (opening.loop l)) ∧ ∀ c, (opening.chan c).notices.length ≤ 8 :=
  ⟨fun c => by cases c <;> exact ⟨by decide, by decide, by decide⟩,
    fun c => by cases c <;> exact ⟨by decide, trivial⟩,
    fun l => by cases l <;> exact ⟨by decide, by decide, by decide, (fun b h => nomatch h)⟩,
    fun c => by cases c <;> decide⟩

theorem test_meets_PlayoutKept :
    (∀ c, PlayoutSound (opening.chan c).pe) ∧ (∀ c, opening.settingsHeld c) ∧ (∀ c, QueueOrdered (opening.chan c))
      ∧ (∀ (c : Chan) (k : Nat), 1 ≤ k → k ≤ 7 →
          (opening.chan c).pe.epochIn + BitVec.ofNat 8 k ≠ (opening.chan c).pe.playEpoch)
      ∧ ((0 : Byte) + BitVec.ofNat 8 7 ≠ 0 ∧ (249 : Byte) + BitVec.ofNat 8 7 = 0) :=
  ⟨fun c => by
      cases c <;>
        exact ⟨⟨[], [], rfl, by simp, by simp⟩, (fun e h => nomatch h), by decide, (fun b h => nomatch h), by decide⟩,
    (fun c h => by cases c <;> exact absurd rfl h),
    (fun c => by cases c <;> exact ⟨fun _ => rfl, (fun e h => nomatch h), .nil⟩),
    (fun c k h1 h7 => by cases c <;> interval_cases k <;> decide), by decide⟩

theorem test_meets_SettingsKept : opening.everyProfile ProfileInRange ∧ ∀ c, opening.settingsHeld c :=
  ⟨⟨⟨⟨by decide, by decide, by decide, by decide, by decide, by decide, by decide, fun c => by cases c <;> decide,
        by decide⟩,
      fun l => by cases l <;> exact ⟨by decide, by decide, by decide, by decide, by decide, by decide, by decide,
        by decide, by decide, by decide, by decide, by decide⟩,
      fun p => by cases p <;> exact ⟨by decide, by decide⟩,
      ⟨by decide, by decide, by decide, by decide, by decide, by decide, by decide, by decide, by decide, by decide,
        by decide, by decide, by decide⟩,
      fun n => ⟨by revert n; decide, by
          intro x h
          have all : ∀ n : Fin 8, ∀ x ∈ (factoryProfile.programs.get n).segments, x.f1 ≤ 3999 ∧ x.f2 ≤ 3999
              ∧ x.level ≤ 45 ∧ (x.duration = 0 ∨ 10 ≤ x.duration ∧ x.duration ≤ 10000 ∧ x.duration % 10 = 0) := by
            decide
          exact ⟨(all n x h).1, (all n x h).2.1, (all n x h).2.2.1, (all n x h).2.2.2⟩,
        by revert n; decide⟩⟩,
      fun g h => absurd h (factory_fits g)⟩,
    fun c h => by cases c <;> exact absurd rfl h⟩

/-! ### Witnesses of the hypotheses on messages, the queue and the arbiter -/

theorem test_meets_CheckAndMediaLayouts :
    let m (p r : Nat) : MediaOut :=
      ⟨.c3, 65535, 7, true, true, List.replicate p silence, List.replicate r silence⟩
    ((1 ≤ (m 4 3).primaries.length ∧ (m 4 3).primaries.length ≤ 4 ∧ (m 4 3).redundant.length ≤ 3)
        ∧ ∀ b ∈ (m 4 3).primaries ++ (m 4 3).redundant, b.length = 80)
      ∧ ((∀ r, hang.data ≠ .answered r) ∧ (∀ reason r, hang.data ≠ .ringDone reason r)
        ∧ ∀ k, hang.data ≠ .toneDone k .digit ∧ hang.data ≠ .toneDone k .taken)
      ∧ ({ base.port .p0 with sent := [0xA7, 0x00] } : PortState).sent[1]? = some 0x00 :=
  ⟨by decide, ⟨(fun _ h => nomatch h), (fun _ _ h => nomatch h), fun _ => ⟨(fun h => nomatch h), fun h => nomatch h⟩⟩,
    rfl⟩

/-- The frames of an OVERFLOW on P2 with 300 notices dropped and of an ANSWERED on loop B. -/
theorem test_notice_frames :
    (Entry.notice ⟨.overflow .p2 300, none, none, 0x01020304⟩).frame
        = frame 0x83 [0x13, 0xFF, 0xFF, 1, 2, 3, 4, 2, 1, 44]
      ∧ (Entry.notice ⟨.answered ⟨.aborted, 1, 2, 3, 258⟩, some .b, none, 5⟩).frame
        = frame 0x83 [0x06, 1, 0xFF, 0, 0, 0, 5, 3, 0, 1, 0, 2, 0, 3, 1, 2] := by decide

theorem test_meets_FramesAreReceivedWhole :
    bodyValid 0x03 [] = true ∧ bodyValid 0x02 [0x32, 1] = true ∧ bodyValid 0x02 (List.replicate 1394 0) = true := by
  decide

theorem test_meets_RequestOverrunDiscards :
    let s := port0 fun x => { x with outstanding := 4 }
    requestOf (.inquireReq .p0 1 []) = some ⟨.p0, 1, 0x32, []⟩ ∧ (s.port .p0).up = true ∧ 4 ≤ (s.port .p0).outstanding
      ∧ requestOf (.unknownRequestCode .p0 1 0x37 []) = some ⟨.p0, 1, 0x37, []⟩ ∧ (0x37 : Byte) ∉ knownCodes := by
  decide

theorem test_meets_MessageBringsPortUp :
    messagePort (.keep .p0 []) = some .p0 ∧ (State.reset.port .p0).up = false
      ∧ (State.reset.port .p0).overflowMark = false ∧ (State.reset.port .p0).noticeCount < 28 := by decide

theorem test_base_is_ready : base.ready .p0 ∧ base.ready .p1 := by unfold State.ready; decide

theorem test_opened_is_ready : opened.ready .p0 ∧ opened.ready .p1 := by unfold State.ready; decide

theorem test_meets_UnknownAndMisshapenRequests :
    requestOf (.toneStopReq .p0 1 []) = some ⟨.p0, 1, 0x13, []⟩ ∧ paramLength 0x13 = some 1
      ∧ ([] : List Byte).length ≠ 1 ∧ paramLength 0x14 = none ∧ (List.replicate 6 (0 : Byte)).length ≠ 7 * 1
      ∧ (0x00 : Byte) ∉ knownCodes ∧ (0x37 : Byte) ∉ knownCodes := by decide

theorem test_meets_KeepAndBadFrames :
    (base.port .p0).up = true ∧ (base.port .p0).receiver = .hunt ∧ 1395 < (half 0x05 0x74).toNat
      ∧ (1 : Nat) ≤ [(0x03 : Byte)].length ∧ (0 : Half) ≠ crc (nat16 1 ++ [0x03]) ∧ bodyValid 0x00 [] = false
      ∧ bodyValid 0x03 [0] = false := by decide

theorem test_meets_HolderOnlyRequestsRefused :
    4 ≤ (4 : Byte).toNat ∧ (3 : Byte) = Chan.byte .c3 ∧ (opened.chan .c3).heldBy .p0 = false
      ∧ (opened.chan .c0).heldBy .p1 = false := by decide

theorem test_meets_NoticesQueuedAndRouted :
    (∀ c i f, hang.data ≠ .start c i f)
      ∧ (State.reset.port .p0).up = false
      ∧ (hang.data.maskable = true ∧ ((full 27 false).live.port.get .p0).noticeMask.getLsbD hang.data.code.toNat = true)
      ∧ ((full 27 false).port .p0).noticeCount < 28 ∧ ((full 27 false).port .p0).overflowMark = false
      ∧ 28 ≤ ((full 28 false).port .p0).noticeCount
      ∧ ((full 27 true).port .p0).noticeCount < 28 ∧ ((full 27 true).port .p0).overflowMark = true
      ∧ ((opened.chan .c0).state = .run ∧ (opened.chan .c0).holder = some .p0)
      ∧ (let s := chan0 fun ch => { ch with state := .parked, notices := List.replicate 7 hang }
         (s.chan .c0).state = .parked ∧ (s.chan .c0).notices.length < 8)
      ∧ (let s := chan0 fun ch => { ch with state := .parked, notices := List.replicate 8 hang }
         (s.chan .c0).state = .parked ∧ (s.chan .c0).notices = hang :: List.replicate 7 hang)
      ∧ opened.leadOf .a = some .c0 ∧ opened.leadOf .b = none :=
  ⟨(fun _ _ _ h => nomatch h), by decide, by decide, by decide, by decide, by decide, by decide, by decide, by decide,
    by decide, by decide, by decide, by decide⟩

/-- A mask that holds HANGUP back. -/
def maskedBase : State :=
  { base with live := { base.live with port := base.live.port.put .p0 { base.live.port.get .p0 with noticeMask := 0 } } }

theorem test_meets_cleared_mask :
    (maskedBase.port .p0).up = true ∧ hang.data.maskable = true
      ∧ (maskedBase.live.port.get .p0).noticeMask.getLsbD hang.data.code.toNat = false := by decide

/-- Channel 0 with four unsent blocks. -/
def sending : State :=
  chan0 fun ch =>
    { ch with
      uf := { ch.uf with ring := [⟨100, 0, silence⟩, ⟨101, 80, silence⟩, ⟨102, 160, silence⟩, ⟨103, 240, silence⟩] } }

/-- `sending` with P0's queue empty and the channel it served last. -/
def sendingFrom (c : Option Chan) : State := sending.modPort .p0 fun x => { x with queue := [], lastServed := c }

/-- A channel's unsent blocks in a state, as the rule on when a channel is due counts them. -/
def unsentIn (s : State) (c : Chan) : Nat :=
  (s.chan c).uf.ring.countP fun e => decide (0 ≤ (e.seq - (s.chan c).uf.sendPtr).toInt)

/-- Channel 0 in DATA with redundancy 3, two blocks sent and two to send in packets of 2. -/
def copying : State :=
  (sendingFrom none).modChan .c0 fun ch =>
    { ch with
      mode := .data
      settings := { ch.settings with packet := 2, redundancy := 3 }
      uf := { ch.uf with sendPtr := 102 } }

theorem test_template_in_range : ChannelInRange (opened.chan .c0).settings :=
  ⟨by decide, by decide, by decide, by decide, by decide, by decide, by decide, by decide, by decide, by decide, by decide,
    by decide, by decide⟩

theorem test_meets_MessageBeginChooses :
    (((clocked 1).port .p0).transfer = some ⟨.control, [0xA7, 0x00], 1⟩ ∧ ([0xA7, 0x00] : List Byte)[1]? = some 0x00
        ∧ ((clocked 2).port .p0).transfer = some ⟨.control, [0xA7, 0x00], 2⟩ ∧ ([0xA7, 0x00] : List Byte)[2]? = none)
      ∧ ((opened.port .p0).transfer = none ∧ (opened.port .p0).queue.length = 1)
      ∧ ((base.port .p0).queue = [] ∧ ∀ c, (base.chan c).state ≠ .run)
      ∧ (((sendingFrom none).chan .c0).state = .run ∧ ((sendingFrom none).chan .c0).holder = some .p0
        ∧ ((sendingFrom none).port .p0).up = true ∧ ((sendingFrom none).chan .c0).settings.packet = 4
        ∧ unsentIn (sendingFrom none) .c0 = 4 ∧ ((sendingFrom none).chan .c0).uf.transfer = none)
      ∧ (((sendingFrom none).port .p0).queue = [] ∧ ((sendingFrom none).port .p0).lastServed = none
        ∧ ([.c0, .c1, .c2, .c3] : List Chan) = [] ++ .c0 :: [.c1, .c2, .c3])
      ∧ (((sendingFrom (some .c0)).port .p0).lastServed = some .c0
        ∧ ([.c1, .c2, .c3, .c0] : List Chan) = [.c1, .c2, .c3] ++ .c0 :: []
        ∧ ∀ d ∈ ([.c1, .c2, .c3] : List Chan), ((sendingFrom (some .c0)).chan d).state ≠ .run)
      ∧ ((copying.chan .c0).mode = .data ∧ unsentIn copying .c0 = 2 ∧ copying.due .p0 .c0 = true)
      ∧ ((sendingFrom none).settingsHeld .c0 ∧ (sendingFrom (some .c0)).settingsHeld .c0 ∧ copying.settingsHeld .c0) :=
  ⟨by decide, by decide, ⟨by decide, fun c => by cases c <;> decide⟩, by decide, by decide, by decide, by decide,
    (fun _ => ⟨test_template_in_range, by decide, by decide⟩), (fun _ => ⟨test_template_in_range, by decide, by decide⟩),
    fun _ => ⟨⟨by decide, by decide, by decide, by decide, by decide, by decide, by decide, by decide, by decide, by decide,
        by decide, by decide, by decide⟩, by decide, by decide⟩⟩

/-- Three bytes of the START that waits after reset: its sync byte and its length; the rest goes out with the completion,
and then the fill byte. -/
theorem test_start_notice_is_sent :
    let sentOn (s : State) : List Byte := (s.port .p0).sent
    let sync := after (.messageBegin .p0) State.reset
    let high := after (.messageBegin .p0) sync
    let low := after (.messageBegin .p0) high
    let done := after (.transferComplete .p0) low
    sentOn sync = [0xA7] ∧ sentOn high = [0x00] ∧ sentOn low = [0x0B]
      ∧ [0xA7, 0x00, 0x0B] ++ sentOn done = frame 0x83 [0x11, 0xFF, 0xFF, 0, 0, 0, 0, 0, 0, 0]
      ∧ (done.port .p0).queue = [] ∧ sentOn (after (.messageBegin .p0) done) = [0x00] := by decide

/-- After a DOWN in the middle of a message fill bytes follow: no byte of the cut message is sent any more. -/
theorem test_fill_follows_a_cut :
    let cut := after (.silenceTimerExpiry .p0) (midMessage.modPort .p0 fun x => { x with silenceEnd := 0 })
    (cut.port .p0).transfer = none ∧ ((after (.messageBegin .p0) cut).port .p0).sentBits = List.replicate 8 false := by
  decide

/-- In DATA the copies go down from the block before the send pointer to the oldest block held: two of the three asked
for. -/
theorem test_message_begin_copies :
    ((copying.chan .c0).formMedia .c0).first = 102 ∧ ((copying.chan .c0).formMedia .c0).primaries.length = 2
      ∧ ((copying.chan .c0).formMedia .c0).redundant.length = 2 := by decide

theorem test_meets_TransferEnds :
    let control : Transfer := ⟨.control, [0xA7, 0x00], 1⟩
    let media (c : Bool) : Transfer := ⟨.media ⟨.c0, 100, 0, false, false, [silence], []⟩ c, [], 0⟩
    let sent (t : Transfer) (e : Entry) (n : Nat) (mark : Bool) : State := port0 fun x =>
      { x with transfer := some t, queue := e :: List.replicate n (.notice hang), overflowMark := mark }
    let r : Reply := ⟨1, .ok, [], true⟩
    (base.port .p0).transfer = none
      ∧ (((sent control (.reply r) 0 false).port .p0).transfer = some ⟨.control, [0xA7, 0x00], 1⟩
        ∧ ((sent control (.reply r) 0 false).port .p0).queue = .reply r :: [])
      ∧ ((sent control (.notice hang) 0 false).port .p0).overflowMark = false
      ∧ ((sent control (.notice hang) 27 true).port .p0).overflowMark = true
      ∧ (List.replicate 27 (Entry.notice hang)).countP Entry.isNotice < 28
      ∧ (((sent control (.reply r) 28 true).port .p0).queue = .reply r :: List.replicate 28 (.notice hang)
        ∧ ((sent control (.reply r) 28 true).port .p0).overflowMark = true
        ∧ ¬(List.replicate 28 (Entry.notice hang)).countP Entry.isNotice < 28)
      ∧ ((sent (media false) (.notice hang) 0 false).port .p0).transfer = some (media false)
      ∧ ((sent (media true) (.notice hang) 0 false).port .p0).transfer = some (media true) := by decide

theorem test_meets_SilenceExpiryParks :
    (State.reset.port .p0).up = false ∧ reached base.timebase (base.port .p0).silenceEnd = false
      ∧ (let s := port0 fun x => { x with silenceEnd := 0 }
         (s.port .p0).up = true ∧ reached s.timebase (s.port .p0).silenceEnd = true) := by decide

/-! ### Witnesses of the hypotheses on channels -/

/-- `base` with the four channels in RUN: 0 and 1 on loop A, 2 and 3 on loop B. -/
def crowded : State :=
  let on (l : Loop) (ch : Channel) : Channel := { held .run ch with loop := l }
  { base with
    chans := ⟨on .a (base.chan .c0), on .a (base.chan .c1), on .b (base.chan .c2), on .b (base.chan .c3)⟩ }

/-- `base` with no block left for channel 0: its reserve is 0 and the other reserves take the whole pool. -/
def dry : State :=
  { base with
    live := { base.live with global := { base.live.global with reserve := ⟨0, 128, 128, 0⟩ } }
    pool := ⟨⟨0, 0, 0, 0⟩, ⟨0, 128, 128, 0⟩, 0⟩ }

theorem test_crowded_and_dry_accounts : PoolAccounts crowded ∧ PoolAccounts dry :=
  ⟨⟨fun c => by cases c <;> rfl, fun c => by cases c <;> rfl, rfl, fun c _ => by cases c <;> exact ⟨rfl, rfl⟩⟩,
    ⟨fun c => by cases c <;> rfl, fun c => by cases c <;> rfl, rfl, fun c _ => by cases c <;> exact ⟨rfl, rfl⟩⟩⟩

theorem test_meets_OpenAnswered :
    (PoolAccounts base ∧ FeedAgrees (base.loop .a) ∧ base.lowestIdle = some .c0 ∧ (base.attached .a).length < 2
        ∧ base.live.template.history ≤ base.reserves.get .c0 + base.pool.shared)
      ∧ (2 ≤ (2 : Byte).toNat ∧ 5 ≤ (5 : Byte).toNat ∧ 3 ≤ (3 : Byte).toNat ∧ (3 : Byte) ≠ 0xFF)
      ∧ (crowded.ready .p0 ∧ ∀ c, (crowded.chan c).state ≠ .idle)
      ∧ (let s := crowded.modChan .c2 fun ch => { ch with state := .idle }
         s.lowestIdle = some .c2 ∧ 2 ≤ (s.attached .a).length)
      ∧ dry.lowestIdle = some .c0 ∧ (dry.attached .a).length < 2
      ∧ dry.reserves.get .c0 + dry.pool.shared < dry.live.template.history :=
  ⟨⟨base_accounts, test_meets_FeedAgreementKept .a, by decide, by decide, by decide⟩, by decide,
    ⟨by unfold State.ready; decide, fun c => by cases c <;> decide⟩, by decide, by decide, by decide, by decide⟩

theorem test_meets_ClaimAnswered :
    ((chan0 fun ch => { ch with state := .parked, holder := none }).chan .c0).state = .parked
      ∧ 4 ≤ (4 : Byte).toNat ∧ (0 : Byte) = Chan.byte .c0
      ∧ ((opened.chan .c0).state = .run ∧ (opened.chan .c0).holder = some .p0 ∧ (opened.chan .c0).holder ≠ some .p1)
      ∧ (opened.chan .c1).state = .idle ∧ ((chan0 (held .draining)).chan .c0).state = .draining := by decide

theorem test_factory_template_in_range : ChannelInRange base.live.template :=
  ⟨by decide, by decide, by decide, by decide, by decide, by decide, by decide, by decide, by decide, by decide, by decide,
    by decide, by decide⟩

theorem test_meets_HandoffParksChannel :
    (((chan0 (held .draining)).chan .c0).heldBy .p0 = true ∧ ((chan0 (held .draining)).chan .c0).state = .draining)
      ∧ ((opened.chan .c0).heldBy .p0 = true ∧ (opened.chan .c0).state = .run ∧ 3 ≤ (3 : Byte).toNat)
      ∧ (2 : Byte) = Port.byte .p2 ∧ (opened.port .p2).up = true ∧ ChannelInRange (opened.chan .c0).settings
      ∧ ((opened.modPort .p2 fun x => { x with up := false }).port .p2).up = false :=
  ⟨by decide, by decide, by decide, by decide, test_template_in_range, by decide⟩

theorem test_meets_ReturnToIdle :
    PoolAccounts opened ∧ (opened.chan .c0).state ≠ .idle ∧ LoopLed opened (opened.chan .c0).loop :=
  ⟨opened_accounts, by decide, ⟨by decide, by decide, by decide⟩⟩

/-- Channel 0 in RUN on an off-hook loop A with a queue and a drain limit. -/
def closing (q : List QEntry) (limit : Nat) : State :=
  (chan0 fun ch => { ch with pe := { ch.pe with queue := q }, settings := { ch.settings with drainLimit := limit } }).modLoop
    .a fun x => { x with hook := .offhook, feed := .active }

theorem test_meets_CloseFreesOrDrains :
    2 ≤ (2 : Byte).toNat
      ∧ ((opened.chan .c0).heldBy .p0 = true ∧ (opened.loop (opened.chan .c0).loop).hook = .onhook)
      ∧ ((chan0 (held .draining)).chan .c0).heldBy .p0 = true
      ∧ (((closing [] 1).loop ((closing [] 1).chan .c0).loop).hook ≠ .onhook ∧ ((closing [] 1).chan .c0).pe.queue = [])
      ∧ (((closing [entry 0 5] 0).chan .c0).pe.queue ≠ [] ∧ ((closing [entry 0 5] 0).chan .c0).settings.drainLimit = 0)
      ∧ ((closing [entry 0 5] 1).chan .c0).pe.queue = entry 0 5 :: []
      ∧ ((closing [entry 0 5] 1).chan .c0).settings.drainLimit ≠ 0 := by decide

/-- Channel 0 parked as the lead of an off-hook loop A at its deadline, with the loop's park-lost program. -/
def expiring (program : Option (Fin 8)) : State :=
  let s := chan0 fun ch => { ch with state := .parked, holder := none, parkDeadline := 0, lead := true }
  let t := s.modLoop .a fun x => { x with hook := .offhook, feed := .active }
  { t with
    live := { t.live with loop := t.live.loop.put .a { t.live.loop.get .a with parkLostProgram := program } } }

theorem test_meets_DeadlinesEndChannels :
    (opened.chan .c0).state ≠ .parked
      ∧ (let s := chan0 fun ch => { ch with state := .parked, parkDeadline := 1 }
         reached s.timebase (s.chan .c0).parkDeadline = false)
      ∧ (((expiring (some 0)).chan .c0).state = .parked
        ∧ reached (expiring (some 0)).timebase ((expiring (some 0)).chan .c0).parkDeadline = true
        ∧ ((expiring (some 0)).chan .c0).lead = true ∧ ((expiring (some 0)).loop .a).hook = .offhook
        ∧ ((expiring (some 0)).loop .a).feed = .active
        ∧ ((expiring (some 0)).loopSet .a).parkLostProgram = some 0
        ∧ ((expiring (some 0)).live.programs.get 0).segments ≠ [])
      ∧ ((expiring none).loopSet .a).parkLostProgram = none
      ∧ ((expiring (some 7)).live.programs.get 7).segments = []
      ∧ (let s := chan0 fun ch => { held .draining ch with drainDeadline := 1 }
         reached s.timebase (s.chan .c0).drainDeadline = false)
      ∧ (let s := chan0 fun ch => { held .draining ch with drainDeadline := 0 }
         (s.chan .c0).state = .draining ∧ reached s.timebase (s.chan .c0).drainDeadline = true
          ∧ (s.chan .c0).holder = some .p0) := by decide

theorem test_meets_HolderRequestsAnswered :
    (opened.chan .c0).heldBy .p0 = true ∧ 2 ≤ (2 : Byte).toNat ∧ (opened.chan .c0).state = .run
      ∧ (3 ≤ (3 : Byte).toNat ∧ (3 : Byte) ≠ 0xFF) ∧ ((chan0 (held .draining)).chan .c0).state = .draining
      ∧ 4 ≤ (4 : Byte).toNat ∧ (opened.chan .c0).mode = .voice ∧ (opened.chan .c0).mode ≠ .data := by decide

theorem test_meets_ChannelSetAnswered :
    ((opened.chan .c0).heldBy .p0 = true ∧ (opened.chan .c0).state = .run ∧ ChannelInRange (opened.chan .c0).settings)
      ∧ PoolAccounts opened ∧ (word 0 0 0 1).toNat < 2 ∧ 2 ≤ (word 0 0 0 2).toNat
      ∧ ((0x5F : Byte).toNat < 0x60 ∧ 0x6E < (0x6F : Byte).toNat)
      ∧ ((chan0 (held .draining)).chan .c0).heldBy .p0 = true
      ∧ ((chan0 (held .draining)).chan .c0).state = .draining :=
  ⟨⟨by decide, by decide, test_template_in_range⟩, opened_accounts, by decide, by decide, by decide, by decide,
    by decide⟩

/-- An interval at a frequency with a level. -/
def interval (milliHz : Nat) (level : Int) : IntervalMeasure := ⟨milliHz, level, 12000, 60⟩

/-- A block with one sample that is not 0. -/
def sound : List Sample := 1 :: List.replicate 79 0

/-- Channel 0 with a LOOP path record and the auto_data setting. -/
def listening (active : Bool) (r : PathRecord) (auto : Bool) : State :=
  chan0 fun ch =>
    { ch with det := { ch.det with active := active, loopPath := r }, settings := { ch.settings with autoData := auto } }

theorem test_meets_IntervalsJudged :
    ((interval 2050000 45000).levelBelow ≤ 45000 ∧ 12000 ≤ (interval 2050000 45000).restBelow
        ∧ 3 * 80 ≤ 4 * (interval 2050000 45000).occupancy)
      ∧ (2050000 ≤ (interval 2050000 45000).milliHz ∧ (interval 2150000 45000).milliHz ≤ 2150000)
      ∧ (1050000 ≤ (interval 1050000 45000).milliHz ∧ (interval 1150000 45000).milliHz ≤ 1150000)
      ∧ ¬(interval 2050000 45001).levelBelow ≤ 45000
      ∧ ((interval 1049999 0).milliHz < 1050000 ∧ 1150000 < (interval 1150001 0).milliHz
        ∧ (interval 2049999 0).milliHz < 2050000 ∧ 2150000 < (interval 2150001 0).milliHz) := by
  simp [interval]

theorem test_meets_DataTonesDetected :
    (∃ v ∈ sound, v ≠ 0#16) ∧ sound.length = 80
      ∧ ((listening false ⟨none, 0, false⟩ true).chan .c0).det.active = false
      ∧ (let s := listening true ⟨some .answer, 3120, false⟩ false
         (s.chan .c0).det.active = true ∧ (s.chan .c0).settings.autoData = false
          ∧ s.live.global.toneDataMin = 400 ∧ (s.chan .c0).det.loopPath.length = 3120)
      ∧ (let s := chan0 fun ch => { ch with det := { ch.det with playedPath := ⟨some .answer, 3121, false⟩ } }
         (s.chan .c0).det.active = true ∧ (s.chan .c0).det.playedPath.length + 79 = 400 * 8)
      ∧ ((listening true ⟨some .answer, 3120, false⟩ true).chan .c0).settings.autoData = true :=
  ⟨⟨1, by simp [sound], by decide⟩, by decide, by decide, by decide, by decide, by decide⟩

/-! ### Witnesses of the hypotheses on the pool and playout -/

theorem test_meets_PoolGrantsAndReturns :
    let res : PerChan Nat := ⟨1, 0, 0, 0⟩
    ((⟨⟨0, 0, 0, 0⟩, ⟨1, 0, 0, 0⟩, 255⟩ : Pool).held.get .c0 < res.get .c0)
      ∧ (res.get .c0 ≤ (⟨⟨1, 0, 0, 0⟩, ⟨0, 0, 0, 0⟩, 1⟩ : Pool).held.get .c0)
      ∧ (⟨⟨1, 255, 0, 0⟩, ⟨0, 0, 0, 0⟩, 0⟩ : Pool).shared = 0
      ∧ ((1 - 1 : Nat) < res.get .c0 ∧ res.get .c0 ≤ (2 - 1 : Nat))
      ∧ (⟨⟨0, 0, 0, 0⟩, ⟨1, 0, 0, 0⟩, 255⟩ : Pool).free.get .c0 = res.get .c0 - 0
      ∧ ((⟨⟨0, 0, 0, 0⟩, ⟨1, 0, 0, 0⟩, 255⟩ : Pool).grant res .c0).isSome = true := by decide

/-- A media body of one primary for a channel. -/
def mediaBody (c : Byte) (flags : Byte) : List Byte :=
  [c, 0, 100, 0, 0, 0, 0, flags, 0x10] ++ List.replicate 160 0

theorem test_meets_MediaRouted :
    parseMedia [] = none
      ∧ ((parseMedia (mediaBody 4 0)).map (·.chan) = some 4 ∧ 4 ≤ (4 : Byte).toNat)
      ∧ ((parseMedia (mediaBody 0 1)).map fun m => (m.chan == Chan.byte .c0, m.dataHint)) = some (true, true)
      ∧ (base.chan .c0).state = .idle ∧ ((chan0 (held .draining)).chan .c0).state = .draining
      ∧ ((opened.chan .c0).state = .run ∧ (opened.chan .c0).holder ≠ some .p1 ∧ (opened.chan .c0).holder = some .p0)
      ∧ ((listening true ⟨none, 0, false⟩ true).chan .c0).mode = .voice := by decide

/-- A channel whose playing epoch is 0 at number 5, with a queue and an arrival epoch from number 9. -/
def playing (arrival : Byte) (q : List QEntry) : Channel :=
  let ch := opened.chan .c0
  { ch with
    pe :=
      { ch.pe with queue := q, anchored := true, epochIn := arrival, baseIn := 9, nextPlay := 5, playState := .playing,
                   afterOpen := false } }

/-- The distance of an arriving number from the anchor of `playing 0`. -/
def distance (seq : Half) : Int := (seq - (playing 0 []).pe.nextPlay).toInt

theorem test_meets_ArrivalsHandled :
    (opened.chan .c0).pe.anchored = false ∧ (playing 0 []).pe.anchored = true
      ∧ (1024 ≤ distance 1029 ∧ distance 64517 ≤ -1024 ∧ -1024 < distance 64518 ∧ distance 4 < 0)
      ∧ (∃ e ∈ (playing 0 [entry 0 5]).pe.queue, e.epoch = (playing 0 [entry 0 5]).pe.epochIn ∧ e.seq = 5)
      ∧ (((playing 0 []).settings.depthMax : Int) ≤ distance 25 ∧ distance 24 < (playing 0 []).settings.depthMax)
      ∧ (0 ≤ distance 5 ∧ distance 1028 < 1024)
      ∧ ((playing 0 []).pe.playEpoch = (playing 0 []).pe.epochIn ∧ (playing 1 []).pe.playEpoch ≠ (playing 1 []).pe.epochIn)
      ∧ (base.pool.grant base.reserves .c0).isSome = true ∧ dry.pool.grant dry.reserves .c0 = none
      ∧ (∀ e ∈ (playing 0 [entry 0 5]).pe.queue, e.epoch = (playing 0 [entry 0 5]).pe.playEpoch)
      ∧ (∀ x ∈ (playing 1 [entry 1 9]).pe.queue, x.epoch = (playing 1 [entry 1 9]).pe.epochIn)
      ∧ (playing 1 [entry 0 5, entry 1 9]).pe.queue = [entry 0 5] ++ entry 1 9 :: [] := by decide

/-- Channel 0 as `playing` with a tick that is due or not. -/
def ticking (q : List QEntry) (due : Bool) (s : ChanState) : State :=
  chan0 fun _ =>
    let ch := playing 0 q
    { held s ch with pe := { ch.pe with tickDue := due } }

theorem test_meets_ChannelTickTaken :
    (base.chan .c0).state = .idle ∧ ((ticking [] false .run).chan .c0).pe.tickDue = false
      ∧ (((ticking [] true .draining).chan .c0).state ≠ .idle ∧ ((ticking [] true .draining).chan .c0).pe.tickDue = true
        ∧ ((ticking [] true .draining).chan .c0).pe.queue = [])
      ∧ ((ticking [entry 0 5] true .draining).chan .c0).pe.queue ≠ []
      ∧ ((ticking [] true .run).chan .c0).state ≠ .draining := by decide

/-- Channel 0 in PRIMING in a mode, with a queue and a target. -/
def priming (m : Mode) (q : List QEntry) (target : Nat) : Channel :=
  let ch := playing 0 q
  { ch with
    mode := m, pe := { ch.pe with playState := .priming }, tru := { ch.tru with target := target }
    settings := { ch.settings with dataDepth := target } }

theorem test_meets_TicksTaken :
    ((priming .voice [] 1).state ≠ .draining ∧ (priming .voice [] 1).pe.playState = .priming
        ∧ (priming .voice [] 1).pe.queue.length < (priming .voice [] 1).tru.target)
      ∧ ((priming .voice [entry 0 5] 1).pe.queue = entry 0 5 :: []
        ∧ (priming .voice [entry 0 5] 1).tru.target ≤ [entry 0 5].length)
      ∧ ((playing 0 []).state = .run ∧ (playing 0 []).pe.playState = .playing ∧ (playing 0 []).pe.freshRun = false)
      ∧ ((held .draining (playing 0 [])).state = .draining ∧ (held .parked (playing 0 [])).pe.playState = .playing)
      ∧ (let ch := playing 0 []
         ({ ch with pe := { ch.pe with freshRun := true } } : Channel).pe.freshRun ≠ false)
      ∧ ((playing 0 []).mode = .voice ∧ (playing 0 []).tru.corr = 0)
      ∧ ((playing 0 []).pe.outputPeak < 1 ∧ ¬(playing 0 []).pe.outputPeak < 0)
      ∧ (let low (q d : Nat) : Prop := 0 < q ∧ q + 1 < d
         let high (q d : Nat) : Prop := d + 1 < q
         low 1 3 ∧ high 4 2 ∧ ¬low 2 3 ∧ ¬high 4 3) := by
  refine ⟨by decide, by decide, by decide, by decide, by decide, by decide, by decide, by omega⟩

/-- A channel's mode and missing count before a take. -/
def missingAfter (m : Mode) (n : Nat) : Channel :=
  let ch := playing 0 []
  { ch with mode := m, pe := { ch.pe with missing := n } }

theorem test_meets_TakeFindsOrMisses :
    (playing 0 [entry 0 6, entry 0 5, entry 0 7]).pe.queue = [entry 0 6] ++ entry 0 5 :: [entry 0 7]
      ∧ (∀ x ∈ [entry 0 6], ¬(x.epoch = (playing 0 []).pe.playEpoch ∧ x.seq = (playing 0 []).pe.nextPlay))
      ∧ (∀ x ∈ (playing 1 [entry 1 9]).pe.queue, x.epoch ≠ (playing 1 [entry 1 9]).pe.playEpoch)
      ∧ ((missingAfter .data 0).mode = .data ∧ (missingAfter .data 0).pe.queue = [])
      ∧ min 65535 ((missingAfter .voice 2).pe.missing + 1) ≤ 3
      ∧ 4 ≤ min 65535 ((missingAfter .voice 3).pe.missing + 1)
      ∧ (∀ e ∈ (playing 0 [entry 0 6]).pe.queue, ¬(e.epoch = (playing 0 []).pe.playEpoch ∧ e.seq = 5)) := by decide

/-- An open window and, when one is given, a baseline. -/
def measuring (f : Option Word) : Timing :=
  { (opened.chan .c0).tru with window := some ⟨0, 1000, 16000, -3, 5⟩, fPrev := f }

theorem test_meets_WindowsMeasured :
    (opened.chan .c0).tru.window = none ∧ (measuring none).window = some ⟨0, 1000, 16000, -3, 5⟩
      ∧ ((15999 : Word).toInt < (16000 : Nat) ∧ ((16000 : Nat) : Int) ≤ (16000 : Word).toInt)
      ∧ (measuring none).fPrev = none ∧ (measuring (some 997)).fPrev = some 997
      ∧ (4 * ((16000 : Nat) : Int) ≤ (64000 : Word).toInt ∧ (63999 : Word).toInt < 4 * ((16000 : Nat) : Int))
      ∧ (1000 < (roundDiv (17 * 1000000) 16000).natAbs ∧ (roundDiv (16 * 1000000) 16000).natAbs ≤ 1000) := by
  refine ⟨by decide, by decide, by simp, by decide, by decide, by simp, by simp [roundDiv]⟩

theorem test_meets_SlipsAndRounding :
    ((1000000 : Int) ≤ 920000 + 80 * 1000 ∧ (-920000 : Int) + 80 * (-1000) ≤ -1000000)
      ∧ ((-1000000 : Int) < -919999 + 80 * (-1000) ∧ (919999 : Int) + 80 * 1000 < 1000000) ∧ 0 < 1 := by decide

/-! ### Witnesses of the hypotheses on the uplink -/

/-- A closed block of a line sample with what channel 1 gave. -/
def closed (out : Option ChanOut) : ClosedBlock := ⟨80, 160, List.replicate 80 ⟨7, ⟨none, out, none, none⟩⟩⟩

/-- Loop A with a closed block waiting; channel 0 attached, its first block due at a time. -/
def closingBlock (first : Option Word) : State :=
  (chan0 fun ch => { ch with uf := { ch.uf with firstBlock := first } }).modLoop .a fun x =>
    { x with closed := some (closed none) }

theorem test_meets_UplinkBlocksBuiltAndKept :
    (base.loop .a).closed = none ∧ ((closingBlock none).loop .a).closed = some (closed none)
      ∧ reached (closed none).start 81 = false ∧ reached (closed none).start 80 = true
      ∧ ((chan0 fun ch => { ch with voice := .muted }).chan .c0).voice = .muted
      ∧ ((opened.chan .c0).voice = .voiced ∧ (opened.chan .c0).settings.suppressDigits = false
        ∧ (opened.loop .a).dtmf.present = false ∧ (Dtmf.held 0x31 0).present = true)
      ∧ ((∀ x ∈ (closed none).mix, x.outs.get .c1 = none)
        ∧ (∀ x ∈ (closed (some ⟨5, some .muted⟩)).mix, x.outs.get .c1 = some ⟨5, some .muted⟩)
        ∧ (some VoiceFlag.muted).getD (opened.chan .c1).voice = .muted)
      ∧ ((none : Option VoiceFlag).getD (opened.chan .c1).voice = .voiced
        ∧ ∀ x ∈ (closed (some ⟨5, none⟩)).mix, x.outs.get .c1 = some ⟨5, none⟩ ∧ x.outs.get .c2 = none)
      ∧ ((opened.chan .c0).uf.ring.length < (opened.chan .c0).uf.ringSize)
      ∧ (let uf : Framer := { (sending.chan .c0).uf with ringSize := 4 }
         uf.ringSize ≤ uf.ring.length ∧ 0 ≤ ((100 : Half) - uf.sendPtr).toInt ∧ ((100 : Half) - 101).toInt < 0) := by
  decide

/-- A channel that was MUTED while it gave to the block, left, and was opened again VOICED gives the bridge nothing of
what it gave before; one that stayed gives its sample. -/
theorem test_bridge_keeps_the_flag_of_a_channel_that_left :
    bridge opened .c0 ⟨7, ⟨none, some ⟨5, some .muted⟩, none, none⟩⟩ = 0
      ∧ bridge opened .c0 ⟨7, ⟨none, some ⟨5, none⟩, none, none⟩⟩ = 5
      ∧ (let s := (chan0 fun ch => { ch with voice := .muted }).modLoop .a fun x =>
           { x with block := [⟨7, ⟨some ⟨5, none⟩, none, none, none⟩⟩] }
         ((s.toIdle .c0).loop .a).block = [⟨7, ⟨some ⟨5, some .muted⟩, none, none, none⟩⟩]) := by decide

/-! ### Witnesses of the hypotheses on the loop -/

theorem test_meets_PolarityAndGainStored :
    (opened.leadOf .a = some .c0 ∧ (opened.chan .c0).heldBy .p0 = true ∧ (opened.chan .c0).heldBy .p1 = false)
      ∧ base.leadOf .a = none ∧ 2 ≤ (2 : Byte).toNat := by decide

/-- Loop A denied with its deny end and held hook state. -/
def denied (denyEnd : Word) (h : HookState) : State := loopA fun x => { x with feed := .denied, denyEnd := denyEnd, hook := h }

theorem test_meets_DenialsAndCurrents :
    2 ≤ (2 : Byte).toNat ∧ base.leadOf .a = none ∧ (opened.leadOf .a ≠ none ∧ (opened.chan .c0).heldBy .p1 = false)
      ∧ (base.loop .a).feed = .idle ∧ ((denied 0 .onhook).loop .a).feed = .denied
      ∧ reached (denied 1 .onhook).timebase ((denied 1 .onhook).loop .a).denyEnd = false
      ∧ reached (denied 0 .onhook).timebase ((denied 0 .onhook).loop .a).denyEnd = true
      ∧ (((denied 0 .offhook).loop .a).hook = .offhook ∧ ((denied 0 .onhook).loop .a).hook = .onhook)
      ∧ ((base.loop .a).raw = .on ∧ (base.loopSet .a).hookThreshold * 1000 ≤ (-10000 : Int).natAbs
        ∧ ¬(base.loopSet .a).hookThreshold * 1000 ≤ (9999 : Int).natAbs) := by
  refine ⟨by decide, by decide, by decide, by decide, by decide, by decide, by decide, by decide, by decide,
    by simp [show (base.loopSet .a).hookThreshold = 10 from rfl],
    by simp [show (base.loopSet .a).hookThreshold = 10 from rfl]⟩

/-- Loop A with its feed, hook and raw states, a raw edge `ago` sample times back and a break that began `length` before
the edge. -/
def supervised (f : FeedState) (h : HookState) (r : RawState) (ago length : Nat) : State :=
  loopA fun x =>
    { x with
      feed := f, hook := h, raw := r, rawEdge := 0 - BitVec.ofNat 32 ago
      breakStart := 0 - BitVec.ofNat 32 (ago + length) }

theorem test_qualify_time : (base.loopSet .a).hookQualify = 20 ∧ (base.loopSet .a).pulseBreakMax = 90
    ∧ (base.loopSet .a).flashMin = 250 ∧ (base.loopSet .a).hangupMin = 1200 ∧ (base.loopSet .a).interdigitMin = 300 := by
  decide

theorem test_meets_HookQualified :
    (((supervised .denied .onhook .off 160 0).loop .a).feed = .denied
        ∧ ¬20 * 8 ≤ ((0 : Word) - ((supervised .idle .onhook .off 159 0).loop .a).rawEdge).toNat)
      ∧ 20 * 8 ≤ ((0 : Word) - ((supervised .idle .onhook .off 160 0).loop .a).rawEdge).toNat
      ∧ (((supervised .idle .onhook .on 160 0).loop .a).raw = .on ∧ ((supervised .idle .onhook .off 160 0).loop .a).feed = .idle)
      ∧ (let s := (supervised .ringing .onhook .off 160 0).modLoop .a fun x => { x with ring := some (ring .waiting false) }
         (s.loop .a).feed = .ringing ∧ (s.loop .a).ring = some (ring .waiting false))
      ∧ ((supervised .testing .onhook .off 160 0).loop .a).feed = .testing
      ∧ ((supervised .active .offhook .on 160 0).loop .a).hook = .offhook
      ∧ ((supervised .active .brk .off 160 720).loop .a).hook = .brk
      ∧ (let length (n : Nat) : Nat :=
           (((supervised .active .brk .off 160 n).loop .a).rawEdge
             - ((supervised .active .brk .off 160 n).loop .a).breakStart).toNat
         length 720 = 90 * 8 ∧ length 721 = 90 * 8 + 1 ∧ length 1999 = 250 * 8 - 1 ∧ length 2000 = 250 * 8)
      ∧ ((base.loop .a).pulses = 0 ∧ ((loopA fun x => { x with pulses := 1 }).loop .a).pulses ≠ 0) := by decide

/-- Loop A off-hook with pulses counted and a make that began `ago` sample times back. -/
def counting (n ago : Nat) (dial : List Byte) : State :=
  loopA fun x =>
    { x with feed := .active, hook := .offhook, pulses := n, makeStart := 0 - BitVec.ofNat 32 ago, dial := dial }

theorem test_meets_RotaryDigitEnds :
    ((counting 1 2399 []).loop .a).hook = .offhook
      ∧ ¬300 * 8 ≤ ((0 : Word) - ((counting 1 2399 []).loop .a).makeStart).toNat
      ∧ 300 * 8 ≤ ((0 : Word) - ((counting 1 2400 []).loop .a).makeStart).toNat
      ∧ (((counting 10 2400 []).loop .a).pulses ≤ 10 ∧ 11 ≤ ((counting 11 2400 []).loop .a).pulses
        ∧ ((counting 0 2400 []).loop .a).pulses = 0)
      ∧ (counting 1 2400 []).leadOf .a = none ∧ ((opened.modLoop .a fun x => { x with pulses := 1 }).leadOf .a ≠ none)
      ∧ ((counting 1 2400 (List.replicate 31 0x31)).loop .a).dial.length < 32
      ∧ 32 ≤ ((counting 1 2400 (List.replicate 32 0x31)).loop .a).dial.length := by decide

theorem test_meets_HangupClearsLoop :
    (base.loop .a).hook ≠ .brk
      ∧ (((supervised .active .brk .on 9600 0).loop .a).hook = .brk
        ∧ 1200 * 8 ≤ ((0 : Word) - ((supervised .active .brk .on 9600 0).loop .a).breakStart).toNat
        ∧ ¬1200 * 8 ≤ ((0 : Word) - ((supervised .active .brk .on 9599 0).loop .a).breakStart).toNat) := by decide

/-- A row and a column with their levels. -/
def keyAt (row col : Nat) (rowBelow colBelow rest : Int) : KeyMeasure := ⟨row, col, rowBelow, colBelow, rest⟩

theorem test_meets_KeysJudged :
    ([697, 770, 852, 941][3]? = some 941 ∧ [1209, 1336, 1477, 1633][1]? = some 1336)
      ∧ (980 * 941 ≤ (keyAt 922180 1309280 0 0 0).rowMilliHz ∧ (keyAt 959820 1362720 0 0 0).rowMilliHz ≤ 1020 * 941
        ∧ 980 * 1336 ≤ (keyAt 922180 1309280 0 0 0).colMilliHz ∧ (keyAt 959820 1362720 0 0 0).colMilliHz ≤ 1020 * 1336)
      ∧ (let m := keyAt 941000 1336000 22000 30000 45000
         m.rowBelow ≤ 30000 ∧ m.colBelow ≤ 30000 ∧ m.colBelow - m.rowBelow ≤ 8000 ∧ m.rowBelow - m.colBelow ≤ 4000
          ∧ m.rowBelow + 15000 ≤ m.restBelow ∧ m.colBelow + 15000 ≤ m.restBelow)
      ∧ ¬(keyAt 941000 1336000 0 30001 60000).colBelow ≤ 30000
      ∧ (∀ hz ∈ [697, 770, 852, 941],
          ¬(980 * hz ≤ (keyAt 959821 0 0 0 0).rowMilliHz ∧ (keyAt 959821 0 0 0 0).rowMilliHz ≤ 1020 * hz))
      ∧ ∀ hz ∈ [1209, 1336, 1477, 1633],
          ¬(980 * hz ≤ (keyAt 0 1184819 0 0 0).colMilliHz ∧ (keyAt 0 1184819 0 0 0).colMilliHz ≤ 1020 * hz) := by
  simp [keyAt]

/-- Loop A ACTIVE with its detector in a state. -/
def hearing (d : Dtmf) : State := loopA fun x => { x with feed := .active, dtmf := d }

theorem test_detector_times : (base.loopSet .a).toneOnMin = 40 ∧ (base.loopSet .a).toneOffMin = 40 := by decide

theorem test_meets_KeysDetected :
    (base.loop .a).feed ≠ .active ∧ ((hearing .quiet).loop .a).feed = .active
      ∧ ((hearing (.onset 0x31 4294966976)).loop .a).dtmf = .onset 0x31 4294966976
      ∧ (40 * 8 ≤ ((0 : Word) - 4294966976).toNat ∧ ¬40 * 8 ≤ ((0 : Word) - 4294966977).toNat)
      ∧ ((hearing (.held 0x31 5)).loop .a).dtmf = .held 0x31 5
      ∧ ((hearing (.release 0x31 5 4294966976)).loop .a).dtmf = .release 0x31 5 4294966976
      ∧ (((4294966976 : Word) - 4294966656).toNat / 8 < 65536 ∧ ((524287 : Word) - 0).toNat / 8 < 65536) := by decide

/-- A key that is on the line before the feed is ACTIVE waits for the next sample time in ACTIVE, and begins its onset
there. -/
theorem test_key_before_active :
    let m : KeyMeasure := ⟨697000, 1209000, 10000, 10000, 40000⟩
    let early := after (.dtmfKeyChange .a (some m)) base
    (early.loop .a).dtmf = .quiet ∧ (early.loop .a).keyPresent = some 0x31
      ∧ ((after (.sampleTime 0 0) (early.modLoop .a fun x => { x with feed := .active })).loop .a).dtmf = .onset 0x31 0
      ∧ ((after (.sampleTime 0 0) early).loop .a).dtmf = .quiet := by decide

/-! ### Witnesses of the hypotheses on ringing -/

theorem test_meets_RingAnswered :
    (2 ≤ (2 : Byte).toNat ∧ (parseFields 1 []).isNone = true)
      ∧ parseFields 1 [0x12, 1, 0x31] = some [(0x12, [0x31])]
      ∧ (let good (n b : Byte) (m : Half) : Prop :=
           1 ≤ n.toNat ∧ n.toNat ≤ 16 ∧ m ≠ 0 ∧ m.toNat < 2 ^ n.toNat ∧ b ≠ 0
         good 1 1 1 ∧ good 16 255 65535 ∧ ¬good 0 1 1 ∧ ¬good 17 1 1 ∧ ¬good 4 1 16 ∧ ¬good 4 0 1 ∧ ¬good 4 1 0)
      ∧ (fieldTypesOk [(0x12, [0x31])] = true ∧ (callerOf [(0x12, [0x31])]).ok = true
        ∧ fieldTypesOk [(0x16, [0x31])] = false ∧ (callerOf [(0x12, [0x41])]).ok = false)
      ∧ (base.loop .a).feed = .idle ∧ ((hearing .quiet).loop .a).feed = .active
      ∧ ((loopA fun x => { x with feed := .testing }).loop .a).feed = .testing := by decide

theorem test_meets_caller_name : 14 < 15 ∧ (List.replicate 16 (0x41 : Byte))[14]? = some 0x41 := by decide

/-- Loop A in a feed state with a ring record and a transmitter. -/
def ringingA (f : FeedState) (r : RingRecord) (t : Option Transmitter) : State :=
  loopA fun x => { x with feed := f, ring := some r, tx := t }

theorem test_meets_RingStoppedAndCallerDataSent :
    (base.loop .a).ring = none ∧ (ring .waiting false).owner = .p0 ∧ (ring .waiting false).owner ≠ .p1
      ∧ (let s := ringingA .ringing (ring .waiting false) none
         (s.loop .a).ring = some (ring .waiting false) ∧ reached s.timebase (ring .waiting false).waitEnd = true
          ∧ (s.loop .a).feed = .ringing ∧ (s.loop .a).hook = .onhook)
      ∧ reached base.timebase 1 = false ∧ (ring .waiting false).callerState ≠ .sending
      ∧ (let t (n : Nat) : Transmitter := ⟨[0x5A], n, 0⟩
         ((ringingA .callerData (ring .sending true) (some (t 2467))).loop .a).tx = some (t 2467)
          ∧ ceilDiv ((360 + 10 * (t 0).message.length) * 8000) 1200 = 2467 ∧ (t 2466).sent < 2467)
      ∧ ((ring .sending false).final = false ∧ (ring .sending true).final = true) := by decide

theorem test_meets_SupplyArbiter :
    (ring .none false).wants 0 = true ∧ (ring .none false).wants 1 = false ∧ (ring .none true).wants 0 = false
      ∧ (50 + 50 ≤ 100 ∧ 99 < 50 + 50) := by decide

theorem test_meets_BoundariesSettled :
    reached base.timebase base.nextBoundary = false
      ∧ (let s : State := { base with nextBoundary := 0 }
         reached s.timebase s.nextBoundary = true) := by decide

theorem test_meets_LineMessageAndItsBits :
    (let r : CallerRecord := ⟨none, none, some [0x50], none, none⟩
     r.ok = true ∧ r.present = true)
      ∧ (239 < 240 ∧ 240 ≤ 240 ∧ 359 < 360) ∧ ([0x5A] : List Byte)[0]? = some 0x5A := by decide

/-! ### Witnesses of the hypotheses on tones and the load test -/

/-- Loop A with a tone playing. -/
def toning (t : Tone) (denial : Option Nat) : State :=
  loopA fun x => { x with feed := .active, hook := .offhook, player := some t, lostDenial := denial }

theorem test_meets_TonesAnswered :
    2 ≤ (2 : Byte).toNat ∧ base.leadOf .a = none ∧ (opened.chan .c0).heldBy .p1 = false ∧ 8 ≤ (8 : Byte).toNat
      ∧ ((7 : Byte).toNat = (7 : Fin 8).val ∧ (base.live.programs.get 7).segments = []
        ∧ (base.live.programs.get 0).segments ≠ [])
      ∧ (base.loop .a).player = none ∧ ((toning (tone .auto none) none).loop .a).player = some (tone .auto none) := by
  decide

theorem test_meets_TonesAdvanceAndEnd :
    ((tone .requested none).kind = .requested ∧ (tone .auto none).kind = .auto ∧ (tone .parkLost none).kind = .parkLost)
      ∧ ((toning (tone .parkLost none) none).loop .a).lostDenial = none
      ∧ (((toning (tone .parkLost none) (some 800)).loop .a).lostDenial = some 800
        ∧ ((toning (tone .parkLost none) (some 800)).loop .a).feed = .active)
      ∧ (tone .requested (some 9)).complete = some 9 ∧ (base.loop .a).player = none
      ∧ (let g : Segment := ⟨480, 620, 17, 500⟩
         (tone .auto none).program.segments[(tone .auto none).segIndex]? = some g ∧ g.duration ≠ 0
          ∧ ¬g.duration * 8 ≤ 3998 + 1 ∧ g.duration * 8 ≤ 3999 + 1)
      ∧ ((tone .auto none).program.segments.length = 2 ∧ (tone .auto none).program.repeats = 0)
      ∧ (let once : Program := ⟨[⟨480, 0, 17, 10⟩], 2⟩
         once.repeats ≠ 0 ∧ 0 + 1 < once.repeats ∧ once.repeats ≤ 1 + 1) := by decide

/-- The amplitude at the level bounds. -/
theorem test_meets_SamplesFollowTheSine : 45 ≤ 45 ∧ amplitude 0 = 16384 ∧ amplitude 45 = 92 := by decide

theorem test_meets_ToneDefineStores :
    parseSegments 1 [0, 1, 0, 2, 3, 0, 4] = some [⟨1, 2, 3, 4⟩]
      ∧ (parseSegments 5 (List.replicate 35 0)).map List.length = some 5
      ∧ (8 ≤ (8 : Byte).toNat ∧ (7 : Byte).toNat = (7 : Fin 8).val)
      ∧ ((⟨3999, 0, 60, 0⟩ : Segment).f1 ≤ 3999 ∧ ¬(⟨4000, 0, 0, 0⟩ : Segment).f1 ≤ 3999)
      ∧ (∃ g ∈ ([⟨0, 0, 0, 0⟩, ⟨0, 0, 0, 1⟩] : List Segment).dropLast, g.duration = 0)
      ∧ ((toning (tone .auto none) none).loop .a).player = some (tone .auto none) ∧ (tone .auto none).number = 1 := by
  decide

/-- Loop A in a test phase that ends at a time, with its reference count. -/
def testing (p : TestPhase) (phaseEnd : Word) (nRef : Nat) : State :=
  loopA fun x => { x with feed := .testing, test := ⟨p, .p1, 25600, 200, phaseEnd, nRef, 0, none⟩ }

theorem test_meets_LoadTested :
    ((base.loop .a).feed = .idle ∧ ((hearing .quiet).loop .a).feed = .active
        ∧ ((testing .ref 0 0).loop .a).feed ≠ .active ∧ ((testing .ref 0 0).loop .a).feed ≠ .idle)
      ∧ (((testing .ref 0 0).loop .a).test.phase = .ref
        ∧ reached (testing .ref 0 0).timebase ((testing .ref 0 0).loop .a).test.phaseEnd = true
        ∧ reached (testing .ref 1 0).timebase ((testing .ref 1 0).loop .a).test.phaseEnd = false)
      ∧ (((testing .loop 0 255).loop .a).test.nRef < 256 ∧ 256 ≤ ((testing .loop 0 256).loop .a).test.nRef)
      ∧ ((20 * 2559 + 256) / (2 * 256) = 100 ∧ (20 * 2546 + 256) / (2 * 256) = 99) := by decide

/-! ### Witnesses of the hypotheses on settings and resets -/

theorem test_meets_SettingsStored :
    (∃ d, (opened.chan d).state ≠ .idle) ∧ (∀ c, (base.chan c).state = .idle)
      ∧ (256 < (PerChan.put ⟨48, 128, 48, 48⟩ .c0 (min 128 128)).total
        ∧ (PerChan.put ⟨48, 48, 48, 48⟩ .c0 (min 128 112)).total ≤ 256)
      ∧ ((0x0C : Byte).toNat ≥ 0x0C ∧ (0x1F : Byte).toNat < 0x20 ∧ (0x30 : Byte).toNat ≥ 0x30 ∧ (0x3F : Byte).toNat < 0x40
        ∧ (0x42 : Byte).toNat ≥ 0x42 ∧ (0x5F : Byte).toNat < 0x60 ∧ (0x6F : Byte).toNat ≥ 0x6F)
      ∧ ((word 0 0 0 1).toNat < 2 ∧ 2 ≤ (word 0 0 0 2).toNat ∧ (word 0 0 0 7).toNat < 8 ∧ 8 ≤ (word 0 0 0 8).toNat
        ∧ (word 0 0 0 255).toNat = 255)
      ∧ (word 0 0 0x3F 0xFE &&& 0xFFFFC001#32 = 0#32 ∧ word 0 0 0x40 0 &&& 0xFFFFC001#32 ≠ 0#32)
      ∧ ChannelInRange base.live.template :=
  ⟨⟨.c0, by decide⟩, fun c => by cases c <;> rfl, by decide, by decide, by decide, by decide, test_factory_template_in_range⟩

theorem test_meets_SettingsReadAndReported :
    base.ready .p0 ∧ (0x0C : Byte) ≠ 0x00 ∧ 0x6F ≤ (0x6F : Byte).toNat ∧ (1 : Byte) ≠ 0 ∧ 3 ≤ (3 : Byte).toNat :=
  ⟨test_base_is_ready.1, by decide, by decide, by decide, by decide⟩

/-- `base` with a save in progress that was accepted `ago` sample times back. -/
def saving (ago : Nat) : State :=
  { base with
    store := ⟨.invalid, .writing, .valid factoryProfile, 2, some ⟨2, factoryProfile, .p0, 0 - BitVec.ofNat 32 ago⟩⟩ }

theorem test_meets_ProfilesAnswered :
    4 ≤ (4 : Byte).toNat ∧ (saving 1).store.save.isSome = true ∧ base.store.save = none
      ∧ (∃ d, (opened.chan d).state ≠ .idle) ∧ (∀ c, (base.chan c).state = .idle)
      ∧ (base.store.slot1 = .invalid ∧ (saving 1).store.slot2 = .writing
        ∧ (saving 1).store.slot3 = .valid factoryProfile)
      ∧ ((saving 1).store.save.map (·.slot) = some 2 ∧ ((0 : Word) - (0 - BitVec.ofNat 32 1)).toNat = 1
        ∧ ((0 : Word) - (0 - BitVec.ofNat 32 480)).toNat = 480 ∧ ((0 : Word) - (0 - BitVec.ofNat 32 481)).toNat = 481)
      ∧ (3 : Byte).toNat = (3 : Fin 4).val :=
  ⟨by decide, by decide, by decide, ⟨.c0, by decide⟩, fun c => by cases c <;> rfl, ⟨rfl, rfl, rfl⟩, by decide, by decide⟩

theorem test_meets_RestartsAndStartUps :
    (base.restart = .none ∧ ({ base with restart := .due } : State).restart = .due)
      ∧ (∃ c, (opened.chan c).state = .run ∧ (opened.chan c).holder ≠ some .p1)
      ∧ (∀ c, (base.chan c).state = .idle)
      ∧ (({ base with restart := .pending .p0 } : State).restart ≠ .none)
      ∧ (base.store.start = 0 ∧ (saving 1).store.start = 2 ∧ base.store.slot1 = .invalid) :=
  ⟨⟨rfl, rfl⟩, ⟨.c0, by decide⟩, fun c => by cases c <;> rfl, by decide, rfl, rfl, rfl⟩

/-! ### The spec's worked figures -/

/-- The settings and the timing state of the worked case of 04, before its first close. -/
def workedSettings : ChannelSettings :=
  { factoryTemplate with window := 32000, smoothing := 2, guard := 160, depthMin := 2, depthMax := 20 }

/-- TRU in the worked case: an estimate, a baseline and a window opened at stamp 0. -/
def workedTiming (est : Int) (fPrev t0 : Word) (minRel maxRel : Int) : Timing :=
  { (opened.chan .c0).tru with est := est, fPrev := some fPrev, window := some ⟨0, t0, 32000, minRel, maxRel⟩ }

theorem test_worked_window_close :
    let r := (workedTiming 120 1000000 1000120 (-126) 404).take workedSettings 6 32080 1040000
    r.2 = false ∧ r.1.target = 9 ∧ r.1.corr = 3 ∧ r.1.est = 137 ∧ r.1.fPrev = some 999994 := by decide

theorem test_worked_rejected_window :
    let r := (workedTiming 137 999994 1000300 (-340) 180).take workedSettings 11 32000 1040000
    r.2 = true ∧ r.1.target = 9 ∧ r.1.corr = -2 ∧ r.1.est = 137 ∧ r.1.fPrev = some 999960 := by decide

theorem test_worked_half_way_rounding :
    let r := (workedTiming 137 999960 1000010 (-52) 410).take workedSettings 9 32000 1040000
    r.2 = false ∧ r.1.target = 8 ∧ r.1.corr = -1 ∧ r.1.est = 118 ∧ r.1.fPrev = some 999958 := by decide

theorem test_worked_slip :
    let ch := { opened.chan .c0 with tru := { (opened.chan .c0).tru with est := 137, acc := 990000 } }
    (ch.slip silence).1.length = 79 ∧ (ch.slip silence).2.tru.acc = 960 ∧ (ch.slip silence).2.stats.slipDrop = 1 := by
  decide

theorem test_worked_mixing :
    applyGain (saturate (30000 + 12000)) 200 = 25599 ∧ applyGain 20000 400 = 31250 ∧ saturate (31250 + 12000) = 32767
      ∧ applyGain 30000 200 = 23438 ∧ applyGain (BitVec.ofInt 16 (-3)) 128 = BitVec.ofInt 16 (-2) := by decide

theorem test_worked_dial_tone : Segment.sample ⟨350, 440, 13, 0⟩ 10 = 270 := by decide

theorem test_worked_loads :
    testResult 5120 12800 none = (.completed, some 25, false) ∧ testResult 5120 13056 none = (.completed, some 26, false)
      ∧ testResult 5120 52000 none = (.completed, some 99, true) ∧ testResult 200 12800 (some 7) = (.refFault, some 7, false) := by
  decide

theorem test_worked_line_message :
    (⟨some [0x30, 0x33, 0x31, 0x34, 0x31, 0x35, 0x33, 0x30],
        some [0x35, 0x35, 0x35, 0x30, 0x31, 0x32, 0x33, 0x34, 0x35, 0x36], none, none, none⟩ : CallerRecord).lineMessage
      = [0x5A, 22, 0x11, 8, 0x30, 0x33, 0x31, 0x34, 0x31, 0x35, 0x33, 0x30, 0x12, 10, 0x35, 0x35, 0x35, 0x30, 0x31, 0x32,
          0x33, 0x34, 0x35, 0x36, 0xC6]
      ∧ (⟨none, none, some [0x50], none, none⟩ : CallerRecord).lineMessage = [0x5A, 0x03, 0x13, 0x01, 0x50, 0x3F] := by
  decide

theorem test_worked_transmission :
    txLength (List.replicate 25 0) = 4067 ∧ txLength (List.replicate 6 0) = 2800 := by decide

theorem test_worked_supply_conflict :
    let r (age : Option Nat) (own : Nat) : RingRecord :=
      { ring .none false with period := 6, mask := 3, phaseOrigin := own, lastAge := age }
    arbitrate 50 35 20 101 (some (r (some 1) 100)) (some (r none 101)) = (false, true)
      ∧ arbitrate 50 35 20 107 (some (r (some 1) 100)) (some (r (some 5) 101)) = (false, true)
      ∧ arbitrate 55 35 20 101 (some (r (some 1) 100)) (some (r none 101)) = (true, true) := by decide

theorem test_worked_claim_lengths :
    (frame 0x02 [0x2C, 0x02, 0x01]).length = 9 ∧ (frame 0x02 [0x2C, 0x02, 0x01]).take 7 = [0xA7, 0, 4, 0x02, 0x2C, 0x02, 0x01]
      ∧ (Entry.reply ⟨0x2C, .ok, (opened.chan .c0).summary, false⟩).frame.length = 25
      ∧ (MediaOut.frame ⟨.c1, 208, 0, false, true, [silence, silence], []⟩).length = 335 := by decide

/-! ### One command each -/

theorem test_open_reply :
    (opened.port .p0).queue = [.reply ⟨1, .ok, [0, 1, 0, 0], false⟩]
      ∧ (opened.chan .c0).settings.packet = 4 ∧ opened.pool.held = ⟨16, 0, 0, 0⟩ := by decide

theorem test_first_samples :
    (after (.sampleTime 1 2) base).timebase = 0
      ∧ (after (.sampleTime 1 2) (after (.sampleTime 1 2) base)).timebase = 1
      ∧ ((after (.sampleTime 1 2) opened).chan .c0).pe.tickDue = true := by decide

theorem test_first_tick_plays_silence :
    ((after (.channelTick .c0 none) (after (.sampleTime 1 2) opened)).chan .c0).pe.current = some ⟨silence, 0⟩ := by decide

theorem test_reset_sends_start :
    ((after (.messageBegin .p0) State.reset).port .p0).transfer.map (·.frame.length) = some 16 := by decide

end Sys2Proof.Tests
end

namespace Sys2Proof.Machine

/-! ### CLAIM on a ready port (R12, R13) -/

/-- CLAIM runs its body as a request of its port. -/
theorem exec_claimReq (p : Port) (tag : Byte) (params : List Byte) (s : State) :
    exec (.claimReq p tag params) s = .next (s.request p (claimBody p tag params)) := rfl

/-- A CLAIM on a ready port reaches CT in the counted state (R175). -/
theorem exec_claimReq_ready {s : State} {p : Port} (h : s.ready p) (tag : Byte) (params : List Byte) :
    exec (.claimReq p tag params) s = .next (claimBody p tag params (s.counted p)) := by
  rw [exec_claimReq, State.request_ready h]

/-- A number outside 0..3 is refused before any channel is looked at (R3, R12). -/
theorem claimBody_badNumber {b : Byte} (h : 4 ≤ b.toNat) (s : State) (p : Port) (tag : Byte) :
    claimBody p tag [b] s = s.refuse p tag .badParam := by
  simp only [claimBody, Chan.ofByte_none h]

/-- A PARKED channel is claimed by any port (R12). -/
theorem claimBody_parked {s : State} {c : Chan} (h : (s.chan c).state = .parked) (p : Port) (tag : Byte) :
    claimBody p tag [Chan.byte c] s = s.claim p tag c := by
  simp only [claimBody, Chan.ofByte_byte, h]

/-- A channel in RUN is refused to its holder and to every other port, with a code for each (R12). -/
theorem claimBody_run {s : State} {c : Chan} (h : (s.chan c).state = .run) (p : Port) (tag : Byte) :
    claimBody p tag [Chan.byte c] s
      = s.refuse p tag (if (s.chan c).holder = some p then .wrongState else .held) := by
  simp only [claimBody, Chan.ofByte_byte, h]
  split <;> rfl

/-- A channel in IDLE or DRAINING is refused to every port (R12). -/
theorem claimBody_idle_or_draining {s : State} {c : Chan}
    (h : (s.chan c).state = .idle ∨ (s.chan c).state = .draining) (p : Port) (tag : Byte) :
    claimBody p tag [Chan.byte c] s = s.refuse p tag .wrongState := by
  obtain hidle | hdraining := h
  · simp only [claimBody, Chan.ofByte_byte, hidle]
  · simp only [claimBody, Chan.ofByte_byte, hdraining]

/-- An accepted CLAIM rebinds the channel, answers with the summary of the channel as it stood before, and hands over
the notices that were pending (R13). -/
theorem State.claim_counted (s : State) (p : Port) (tag : Byte) (c : Chan) :
    (s.counted p).claim p tag c
      = ((s.modChan c (Channel.claimed p)).replied p (acceptance tag (s.chan c).summary)).offerList p
          (s.chan c).notices := by
  simp only [State.claim, State.chan_counted, ← State.counted_modChan, State.accept_counted]

/-- Settles O23: CT's answer in each state of the channel, taken in the counted state of the ready port. -/
theorem claimAnswered : Obligations.ClaimAnswered := by
  unfold Obligations.ClaimAnswered
  constructor
  · intro s p tag c hready hparked
    rw [exec_claimReq_ready hready, claimBody_parked (by simpa using hparked), State.claim_counted]
    -- the statement writes out `Channel.claimed` and `Channel.summary`
    rfl
  · intro s p tag b hready
    dsimp only
    rw [exec_claimReq_ready hready]
    refine ⟨fun hb => ?badNumber, fun c hc => ?_⟩
    case badNumber => rw [claimBody_badNumber hb, State.refuse_counted]
    subst hc
    refine ⟨fun hrun hholder => ?runHolder, fun hrun hother => ?runOther, fun hstate => ?idleOrDraining⟩
    case runHolder =>
      rw [claimBody_run (by simpa using hrun), State.refuse_counted, State.chan_counted, if_pos hholder]
    case runOther =>
      rw [claimBody_run (by simpa using hrun), State.refuse_counted, State.chan_counted, if_neg hother]
    case idleOrDraining =>
      rw [claimBody_idle_or_draining (by simpa using hstate), State.refuse_counted]

end Sys2Proof.Machine

namespace Sys2Proof.Machine

/-! ### The block pool: grant and return (R28, R29, R31) -/

section
variable {res : PerChan Nat} {c : Chan} {b : Pool}

/-- R29, case 1: below its reserve a channel is served from it. -/
theorem Pool.grant_reserve (h : b.held.get c < res.get c) :
    b.grant res c
      = some { b with free := b.free.put c (b.free.get c - 1), held := b.held.put c (b.held.get c + 1) } :=
  if_pos h

/-- R29, case 2: at or past its reserve a channel draws on the shared part. -/
theorem Pool.grant_shared (h : res.get c ≤ b.held.get c) (hs : 0 < b.shared) :
    b.grant res c = some { b with shared := b.shared - 1, held := b.held.put c (b.held.get c + 1) } := by
  rw [Pool.grant, if_neg (Nat.not_lt.mpr h), if_pos hs]

/-- R29, case 3: at or past its reserve, with the shared part empty, the grant fails. -/
theorem Pool.grant_none (h : res.get c ≤ b.held.get c) (hs : b.shared = 0) : b.grant res c = none := by
  rw [Pool.grant, if_neg (Nat.not_lt.mpr h), if_neg (Nat.not_lt.mpr hs.le)]

/-- A grant that succeeds took its block from the reserve or from the shared part (R29). -/
theorem Pool.grant_some_cases {b' : Pool} (h : b.grant res c = some b') :
    (b.held.get c < res.get c
        ∧ b' = { b with free := b.free.put c (b.free.get c - 1), held := b.held.put c (b.held.get c + 1) })
      ∨ (res.get c ≤ b.held.get c ∧ 0 < b.shared
        ∧ b' = { b with shared := b.shared - 1, held := b.held.put c (b.held.get c + 1) }) := by
  rcases Nat.lt_or_ge (b.held.get c) (res.get c) with hlt | hge
  · rw [Pool.grant_reserve hlt, Option.some.injEq] at h
    exact .inl ⟨hlt, h.symm⟩
  · rcases Nat.eq_zero_or_pos b.shared with hempty | hpos
    · rw [Pool.grant_none hge hempty] at h
      cases h
    · rw [Pool.grant_shared hge hpos, Option.some.injEq] at h
      exact .inr ⟨hge, hpos, h.symm⟩

/-- R31: a block returned by a channel that is then below its reserve refills it. -/
theorem Pool.giveBack_reserve (h : b.held.get c - 1 < res.get c) :
    b.giveBack res c
      = { b with held := b.held.put c (b.held.get c - 1), free := b.free.put c (b.free.get c + 1) } :=
  if_pos h

/-- R31: a block returned by a channel that still holds its reserve goes to the shared part. -/
theorem Pool.giveBack_shared (h : res.get c ≤ b.held.get c - 1) :
    b.giveBack res c = { b with held := b.held.put c (b.held.get c - 1), shared := b.shared + 1 } :=
  if_neg (Nat.not_lt.mpr h)

/-- R28: a return undoes a grant. The reserve's account `hfree` makes its free count positive where the grant lowers it. -/
theorem Pool.giveBack_grant {b' : Pool} (hfree : b.free.get c = res.get c - b.held.get c)
    (h : b.grant res c = some b') : b'.giveBack res c = b := by
  obtain ⟨hlt, rfl⟩ | ⟨hge, hpos, rfl⟩ := Pool.grant_some_cases h
  · have hback : b.free.get c - 1 + 1 = b.free.get c := by omega
    rw [Pool.giveBack_reserve (by simpa using hlt)]
    simp [hback]
  · have hback : b.shared - 1 + 1 = b.shared := by omega
    rw [Pool.giveBack_shared (by simpa using hge)]
    simp [hback]

end

/-- Settles O31: the three cases of a grant, the two of a return, and the return that undoes a grant. -/
theorem poolGrantsAndReturns : Obligations.PoolGrantsAndReturns := by
  unfold Obligations.PoolGrantsAndReturns
  constructor
  · intro res c b
    exact ⟨Pool.grant_reserve, Pool.grant_shared, Pool.grant_none⟩
  · intro res c b
    exact ⟨Pool.giveBack_reserve, Pool.giveBack_shared, fun _ => Pool.giveBack_grant⟩

end Sys2Proof.Machine

namespace Sys2Proof.Machine

/-! ### The ring supply arbiter (R137) -/

/-- One last rung age is older than another (R137, test 1): none is older than any number. -/
theorem olderRung_iff (x y : Option Nat) :
    olderRung x y = true ↔ (x = none ∧ y ≠ none) ∨ ∃ i j, x = some i ∧ y = some j ∧ j < i := by
  cases x <;> cases y <;> simp [olderRung]

/-- Loop A wins a collision by test 1, or on a tie there by tests 2 and 3 together (R137). -/
theorem grantsA_iff (a b : RingRecord) :
    grantsA a b = true
      ↔ olderRung a.lastAge b.lastAge = true
        ∨ (¬olderRung b.lastAge a.lastAge = true ∧ b.ringAge ≤ a.ringAge) := by
  unfold grantsA
  split
  case isTrue hA => simp [hA]
  case isFalse hA =>
    split
    case isTrue hB => simp [hA, hB]
    case isFalse hB => simp [hA, hB]

section
variable (budget loadA loadB index : Nat) (a b : RingRecord)

@[simp] theorem arbitrate_some_none :
    arbitrate budget loadA loadB index (some a) none = (a.wants index, false) := rfl

@[simp] theorem arbitrate_none_some :
    arbitrate budget loadA loadB index none (some b) = (false, b.wants index) := rfl

@[simp] theorem arbitrate_none_none : arbitrate budget loadA loadB index none none = (false, false) := rfl

variable {budget loadA loadB index a b}

/-- Without a collision each loop is granted what it wants, whatever its load (R137). -/
theorem arbitrate_no_collision (h : ¬(a.wants index = true ∧ b.wants index = true ∧ budget < loadA + loadB)) :
    arbitrate budget loadA loadB index (some a) (some b) = (a.wants index, b.wants index) := by
  rw [arbitrate]
  exact if_neg (by simpa [and_assoc] using h)

/-- In a collision one loop is granted the step (R137). -/
theorem arbitrate_collision (ha : a.wants index = true) (hb : b.wants index = true) (hload : budget < loadA + loadB) :
    arbitrate budget loadA loadB index (some a) (some b) = (grantsA a b, !grantsA a b) := by
  simp [arbitrate, ha, hb, hload]

end

/-- Settles O48: no collision unless both loops want the step and their loads pass the budget; then the three tests. -/
theorem supplyArbiter : Obligations.SupplyArbiter := by
  unfold Obligations.SupplyArbiter
  intro budget loadA loadB index a b grants older first
  have hfirst : first ↔ grantsA a b = true := by
    simp only [first, older, grantsA_iff, olderRung_iff]
  refine ⟨fun ha hb => ?onlyA, fun ha hb => ?onlyB, fun ha hb => ?neither, ?noRecords,
    fun ha hb hload => ?within, fun ha hb hload => ?collision⟩
  case onlyA | onlyB | neither => simp [grants, arbitrate_no_collision, ha, hb]
  case noRecords => exact arbitrate_none_none budget loadA loadB index
  case within =>
    have hfits : ¬budget < loadA + loadB := Nat.not_lt.mpr hload
    simp [grants, arbitrate_no_collision, ha, hb, hfits]
  case collision =>
    rw [hfirst]
    simp only [grants, arbitrate_collision ha hb hload]
    exact ⟨fun hwins => by rw [hwins]; rfl, fun hloses => by rw [Bool.eq_false_of_not_eq_true hloses]; rfl⟩

end Sys2Proof.Machine

namespace Sys2Proof.Machine

/-! ### The line message (R143) -/

/-- An absent field is absent from the message (R143). -/
@[simp] theorem lineField_none_length (type : Byte) : (lineField type none).length = 0 := rfl

/-- A field is its type byte, its length byte and its content (R143). -/
@[simp] theorem lineField_some_length (type : Byte) (c : List Byte) :
    (lineField type (some c)).length = c.length + 2 := rfl

/-- A string of bytes followed by the two's complement of its sum adds up to 0 (R143, item 4). -/
theorem sum_append_complement (bytes : List Byte) :
    (bytes ++ [-(bytes.foldl (· + ·) 0)]).foldl (· + ·) 0 = 0 := by
  rw [List.foldl_append]
  exact BitVec.add_right_neg _

theorem CallerRecord.lineMessage_sum (r : CallerRecord) : r.lineMessage.foldl (· + ·) 0 = 0 :=
  sum_append_complement _

/-- Type, length, fields and checksum (R143, items 1 to 4). -/
theorem CallerRecord.lineMessage_layout (r : CallerRecord) :
    ∃ checksum, r.lineMessage = [0x5A, byteOf r.lineFields.length] ++ r.lineFields ++ [checksum] :=
  ⟨_, rfl⟩

theorem CallerRecord.lineMessage_length (r : CallerRecord) : r.lineMessage.length = r.lineFields.length + 3 := by
  obtain ⟨checksum, hlayout⟩ := r.lineMessage_layout
  rw [hlayout]
  simp

/-! ### The lengths of a record that passes its checks (R133) -/

/-- A field that passes an optional test passes it when it is present. -/
theorem test_of_optionOk {x : Option (List Byte)} {test : List Byte → Bool} {c : List Byte}
    (h : optionOk x test = true) (hx : x = some c) : test c = true := by
  subst hx
  exact h

theorem length_of_withheldOk {c : List Byte} (h : withheldOk c = true) : c.length = 1 := by
  simp only [withheldOk, Bool.or_eq_true, beq_iff_eq] at h
  obtain rfl | rfl := h <;> rfl

theorem storedName_length (c : List Byte) : (storedName c).length = min 15 c.length := by
  simp [storedName]

/-- What the checks say of the lengths of the fields, and of which fields exclude each other (R133). -/
structure CallerRecord.Lengths (r : CallerRecord) : Prop where
  time : ∀ c, r.time = some c → c.length = 8
  number : ∀ c, r.number = some c → 1 ≤ c.length ∧ c.length ≤ 20 ∧ r.numberWithheld = none
  numberWithheld : ∀ c, r.numberWithheld = some c → c.length = 1
  name : ∀ c, r.name = some c → 1 ≤ c.length ∧ r.nameWithheld = none
  nameWithheld : ∀ c, r.nameWithheld = some c → c.length = 1

theorem CallerRecord.lengths_of_ok {r : CallerRecord} (h : r.ok = true) : r.Lengths := by
  simp only [CallerRecord.ok, Bool.and_eq_true] at h
  obtain ⟨⟨⟨⟨htime, hnumber⟩, hnumberWithheld⟩, hname⟩, hnameWithheld⟩ := h
  constructor
  case time =>
    intro c hc
    have htest := test_of_optionOk htime hc
    simp only [Bool.and_eq_true, beq_iff_eq] at htest
    obtain ⟨hlength, -⟩ := htest
    exact hlength
  case number =>
    intro c hc
    have htest := test_of_optionOk hnumber hc
    simp only [Bool.and_eq_true, decide_eq_true_eq, Option.isNone_iff_eq_none] at htest
    obtain ⟨⟨⟨hlow, hhigh⟩, -⟩, hother⟩ := htest
    exact ⟨hlow, hhigh, hother⟩
  case name =>
    intro c hc
    have htest := test_of_optionOk hname hc
    simp only [Bool.and_eq_true, decide_eq_true_eq, Option.isNone_iff_eq_none] at htest
    obtain ⟨⟨hlow, -⟩, hother⟩ := htest
    exact ⟨hlow, hother⟩
  case numberWithheld => exact fun c hc => length_of_withheldOk (test_of_optionOk hnumberWithheld hc)
  case nameWithheld => exact fun c hc => length_of_withheldOk (test_of_optionOk hnameWithheld hc)

/-- A field and its withheld form, of which one at most is present, together (R143). -/
theorem lineField_pair_length {x withheld : Option (List Byte)} {most : Nat} (hmost : 1 ≤ most)
    (hx : ∀ c, x = some c → 1 ≤ c.length ∧ c.length ≤ most ∧ withheld = none)
    (hwithheld : ∀ c, withheld = some c → c.length = 1) (typeX typeW : Byte) :
    (lineField typeX x).length + (lineField typeW withheld).length ≤ most + 2
      ∧ (x.isSome = true ∨ withheld.isSome = true →
          3 ≤ (lineField typeX x).length + (lineField typeW withheld).length) := by
  cases x with
  | some c =>
    obtain ⟨hlow, hhigh, rfl⟩ := hx c rfl
    rw [lineField_some_length, lineField_none_length]
    exact ⟨by omega, fun _ => by omega⟩
  | none =>
    cases withheld with
    | none => simp
    | some c =>
      rw [lineField_none_length, lineField_some_length, hwithheld c rfl]
      exact ⟨by omega, fun _ => by decide⟩

/-- A time field, when present, is 8 characters long (R133). -/
theorem lineField_time_length {x : Option (List Byte)} (h : ∀ c, x = some c → c.length = 8) (type : Byte) :
    (lineField type x).length ≤ 10 ∧ (x.isSome = true → 3 ≤ (lineField type x).length) := by
  cases x with
  | none => simp
  | some c => simp [h c rfl]

/-- The fields of a stored record take 3 to 49 bytes: a withheld field alone, or time, number and name (R143). -/
theorem CallerRecord.stored_lineFields_length {r : CallerRecord} (hok : r.ok = true) (hpresent : r.present = true) :
    3 ≤ r.stored.lineFields.length ∧ r.stored.lineFields.length ≤ 49 := by
  have hlengths := CallerRecord.lengths_of_ok hok
  have hname : ∀ c, r.name.map storedName = some c → 1 ≤ c.length ∧ c.length ≤ 15 ∧ r.nameWithheld = none := by
    intro c hc
    obtain ⟨given, hgiven, rfl⟩ := Option.map_eq_some_iff.mp hc
    obtain ⟨hlow, hother⟩ := hlengths.name given hgiven
    rw [storedName_length]
    exact ⟨by omega, by omega, hother⟩
  obtain ⟨htimeMost, htimeLeast⟩ := lineField_time_length hlengths.time 0x11
  obtain ⟨hnumberMost, hnumberLeast⟩ :=
    lineField_pair_length (by decide) hlengths.number hlengths.numberWithheld 0x12 0x13
  obtain ⟨hnameMost, hnameLeast⟩ := lineField_pair_length (by decide) hname hlengths.nameWithheld 0x14 0x15
  simp only [Option.isSome_map] at hnameLeast
  simp only [CallerRecord.present, Bool.or_eq_true] at hpresent
  have hleast : 3 ≤ (lineField 0x11 r.time).length
      ∨ 3 ≤ (lineField 0x12 r.number).length + (lineField 0x13 r.numberWithheld).length
      ∨ 3 ≤ (lineField 0x14 (r.name.map storedName)).length + (lineField 0x15 r.nameWithheld).length := by
    obtain (((htime | hnumber) | hnumberWithheld) | hname) | hnameWithheld := hpresent
    · exact .inl (htimeLeast htime)
    · exact .inr (.inl (hnumberLeast (.inl hnumber)))
    · exact .inr (.inl (hnumberLeast (.inr hnumberWithheld)))
    · exact .inr (.inr (hnameLeast (.inl hname)))
    · exact .inr (.inr (hnameLeast (.inr hnameWithheld)))
  simp only [CallerRecord.stored, CallerRecord.lineFields, List.length_append]
  omega

/-! ### The bits of a caller transmission (R144) -/

theorem txBit_preamble (message : List Byte) {k : Nat} (h : k < 240) : txBit message k = (k % 2 == 1) := if_pos h

theorem txBit_marks (message : List Byte) {k : Nat} (hlow : 240 ≤ k) (hhigh : k < 360) : txBit message k = true := by
  rw [txBit, if_neg (Nat.not_lt.mpr hlow), if_pos hhigh]

/-- Bit `d` of the ten that carry byte `i`. -/
theorem txBit_frame (message : List Byte) (i : Nat) {d : Nat} (hd : d < 10) :
    txBit message (360 + 10 * i + d)
      = if d = 0 then false else if d = 9 then true else (message.getD i 0).getLsbD (d - 1) := by
  have hbyte : (360 + 10 * i + d - 360) / 10 = i := by omega
  have hbit : (360 + 10 * i + d - 360) % 10 = d := by omega
  have hpre : ¬360 + 10 * i + d < 240 := by omega
  have hmarks : ¬360 + 10 * i + d < 360 := by omega
  simp only [txBit, hbyte, hbit, if_neg hpre, if_neg hmarks]

theorem txBit_start (message : List Byte) (i : Nat) : txBit message (360 + 10 * i) = false :=
  txBit_frame message i (d := 0) (by decide)

theorem txBit_stop (message : List Byte) (i : Nat) : txBit message (369 + 10 * i) = true := by
  have hstop := txBit_frame message i (d := 9) (by decide)
  rw [show 369 + 10 * i = 360 + 10 * i + 9 by omega, hstop]
  rfl

/-- The data bits of a byte of the message, least significant first. -/
theorem txBit_data {message : List Byte} {i : Nat} {b : Byte} (hb : message[i]? = some b) {j : Nat} (hj : j < 8) :
    txBit message (361 + 10 * i + j) = b.getLsbD j := by
  have hdata := txBit_frame message i (d := j + 1) (by omega)
  have hfirst : ¬j + 1 = 0 := by omega
  have hlast : ¬j + 1 = 9 := by omega
  rw [show 361 + 10 * i + j = 360 + 10 * i + (j + 1) by omega, hdata, if_neg hfirst, if_neg hlast,
    List.getD_eq_getElem?_getD, hb]
  rfl

/-- A bit lasts 20/3 samples, so bit `k` runs from ceil (20 * k / 3) to the sample before the next bit's first. -/
theorem txBitIndex_eq_iff (n k : Nat) :
    txBitIndex n = k ↔ ceilDiv (k * 8000) 1200 ≤ n ∧ n < ceilDiv ((k + 1) * 8000) 1200 := by
  unfold txBitIndex ceilDiv
  omega

theorem txLength_eq (message : List Byte) :
    txLength message = ceilDiv ((360 + 10 * message.length) * 8000) 1200 := by
  unfold txLength ceilDiv
  omega

/-- Settles O50: the layout, the sum and the length of the line message, then the three parts of its transmission. -/
theorem lineMessageAndItsBits : Obligations.LineMessageAndItsBits := by
  unfold Obligations.LineMessageAndItsBits
  constructor
  case left =>
    intro r field fields
    have hfield : field = lineField := by
      funext type x
      cases x <;> rfl
    have hfields : fields = r.lineFields := by
      simp only [fields, hfield, CallerRecord.lineFields]
    refine ⟨?layout, r.lineMessage_sum, fun hok hpresent => ?length⟩
    case layout =>
      rw [hfields]
      exact r.lineMessage_layout
    case length =>
      obtain ⟨hleast, hmost⟩ := CallerRecord.stored_lineFields_length hok hpresent
      rw [CallerRecord.lineMessage_length]
      omega
  case right =>
    intro message
    exact ⟨fun _ => txBit_preamble message, fun _ => txBit_marks message,
      fun i _ hb => ⟨txBit_start message i, fun _ => txBit_data hb, txBit_stop message i⟩,
      txBitIndex_eq_iff, txLength_eq message⟩

end Sys2Proof.Machine

namespace Sys2Proof.Machine

/-! ### The taking of a valid message (R173, R174) -/

/-- LINK_UP cannot be masked (R173). -/
@[simp] theorem masked_linkUp (mask : Word) (p : Port) : masked mask (.linkUp p) = false := rfl

/-- R178, step 4: an UP port below the cap, with its overflow mark clear, queues a notice it does not mask. -/
theorem PortState.offer_queued {x : PortState} {mask : Word} {n : Notice} (hup : x.up = true)
    (hmask : masked mask n.data = false) (hmark : x.overflowMark = false) (hcount : x.noticeCount < 28) (now : Word)
    (p : Port) : x.offer now p mask n = x.enqueue (.notice n) := by
  have hroom : ¬28 ≤ x.noticeCount := Nat.not_le.mpr hcount
  simp [PortState.offer, hup, hmask, hmark, hroom]

/-- A port made UP, with LINK_UP queued behind what it holds (R173). -/
def State.linkedUp (s : State) (p : Port) : State :=
  s.modPort p fun x =>
    { x with up := true, queue := x.queue ++ [.notice ⟨.linkUp p, none, none, s.timebase⟩] }

@[simp] theorem State.linkedUp_up (s : State) (p : Port) : ((s.linkedUp p).port p).up = true := by
  simp [State.linkedUp]

/-- The LINK_UP offered to a port just made UP is queued (R173, R178). -/
theorem State.offer_linkUp {s : State} {p : Port} (hmark : (s.port p).overflowMark = false)
    (hcount : (s.port p).noticeCount < 28) :
    (s.modPort p fun x => { x with up := true }).offer p ⟨.linkUp p, none, none, s.timebase⟩ = s.linkedUp p := by
  have hoffer (now mask : Word) := PortState.offer_queued (x := { s.port p with up := true }) (mask := mask)
    (n := ⟨.linkUp p, none, none, s.timebase⟩) rfl (masked_linkUp mask p) hmark hcount now p
  simp only [State.port] at hoffer
  simp [State.offer, State.linkedUp, State.modPort, hoffer, PortState.enqueue]

/-- On an UP port the taking restarts the silence timer and no more (R174). -/
theorem State.messageTaken_of_up {s : State} {p : Port} (hup : (s.port p).up = true) :
    s.messageTaken p = s.heard p := by
  simp only [State.messageTaken, hup, if_true, State.heard]

/-- On a DOWN port the taking makes the port UP first (R173). -/
theorem State.messageTaken_of_down {s : State} {p : Port} (hdown : (s.port p).up = false)
    (hmark : (s.port p).overflowMark = false) (hcount : (s.port p).noticeCount < 28) :
    s.messageTaken p = (s.linkedUp p).heard p := by
  simp only [State.messageTaken, hdown, State.offer_linkUp hmark hcount]
  rfl

/-- R173: a valid message is taken on a DOWN port as on the port just made UP. -/
theorem State.messageTaken_linkedUp {s : State} {p : Port} (hdown : (s.port p).up = false)
    (hmark : (s.port p).overflowMark = false) (hcount : (s.port p).noticeCount < 28) :
    s.messageTaken p = (s.linkedUp p).messageTaken p := by
  rw [State.messageTaken_of_down hdown hmark hcount, State.messageTaken_of_up (s.linkedUp_up p)]

/-! ### A valid message acts through its taking alone (R172) -/

/-- A message that comes in on a port is a MEDIA_IN, a KEEP or a request (R172). -/
theorem messagePort_cases {i : Instr} {p : Port} (h : messagePort i = some p) :
    (∃ body, i = .mediaIn p body) ∨ (∃ body, i = .keep p body) ∨ ∃ r, requestOf i = some r ∧ r.port = p := by
  unfold messagePort at h
  split at h
  case h_1 q body => exact .inl ⟨body, by rw [Option.some.inj h]⟩
  case h_2 q body => exact .inr (.inl ⟨body, by rw [Option.some.inj h]⟩)
  case h_3 => exact .inr (.inr (Option.map_eq_some_iff.mp h))

/-- Every request runs a body of its own under the rules of R175; an unknown code's body answers UNKNOWN. -/
theorem exec_of_requestOf {i : Instr} {r : RequestParts} (h : requestOf i = some r)
    (hcode : ∀ p tag code params, i = .unknownRequestCode p tag code params → code ∉ knownCodes) :
    ∃ body : State → State, ∀ s, exec i s = .next (s.request r.port body) := by
  cases i
  case unknownRequestCode p tag code params =>
    cases h
    have hunknown : code ∉ knownCodes := hcode p tag code params rfl
    exact ⟨fun s => s.refuse p tag .unknown, fun s => by simp [exec, execUnknownRequestCode, hunknown]⟩
  -- `cases h` leaves the other requests, whose arm of `exec` names the body
  all_goals cases h
  all_goals exact ⟨_, fun _ => rfl⟩

/-- Requests taken alike are handled alike. -/
theorem State.request_congr {s t : State} {p : Port} (h : s.messageTaken p = t.messageTaken p)
    (act : State → State) : s.request p act = t.request p act := by
  simp only [State.request, h]

/-- A MEDIA_IN whose body has its form is routed from the state in which it was taken (R172). -/
theorem exec_mediaIn_of_parse {body : List Byte} {m : MediaMsg} (h : parseMedia body = some m) (p : Port) (s : State) :
    exec (.mediaIn p body) s = .next ((s.messageTaken p).routeMedia p m) := by
  simp only [exec, execMediaIn, h]

/-- An empty KEEP is only taken (R172). -/
theorem exec_keep_nil (p : Port) (s : State) : exec (.keep p []) s = .next (s.messageTaken p) := rfl

/-- R172: a valid message does the same in two states that its taking makes equal. -/
theorem exec_congr_of_messageTaken {i : Instr} {p : Port} {s t : State} (hport : messagePort i = some p)
    (hmedia : ∀ q body, i = .mediaIn q body → (parseMedia body).isSome = true)
    (hkeep : ∀ q body, i = .keep q body → body = [])
    (hcode : ∀ q tag code params, i = .unknownRequestCode q tag code params → code ∉ knownCodes)
    (htaken : s.messageTaken p = t.messageTaken p) : exec i s = exec i t := by
  obtain ⟨body, rfl⟩ | ⟨body, rfl⟩ | ⟨r, hreq, rfl⟩ := messagePort_cases hport
  · obtain ⟨m, hm⟩ := Option.isSome_iff_exists.mp (hmedia p body rfl)
    rw [exec_mediaIn_of_parse hm, exec_mediaIn_of_parse hm, htaken]
  · obtain rfl := hkeep p body rfl
    rw [exec_keep_nil, exec_keep_nil, htaken]
  · obtain ⟨act, hexec⟩ := exec_of_requestOf hreq hcode
    rw [hexec, hexec, State.request_congr htaken]

/-- Settles O14: the taking of the message is all that tells the DOWN port from the one made UP. -/
theorem messageBringsPortUp : Obligations.MessageBringsPortUp := by
  unfold Obligations.MessageBringsPortUp
  intro s i p hport hmedia hkeep hcode hdown hmark hcount
  exact exec_congr_of_messageTaken hport hmedia hkeep hcode (State.messageTaken_linkedUp hdown hmark hcount)

end Sys2Proof.Machine

namespace Sys2Proof.Machine

/-! ### What a command can do: the moves the part is made of

A command's effect is a run of moves, each of which keeps every invariant of the part by itself. `exec_course` says this
once; the invariants are then proved move by move. -/

/-- What can happen to a port between the taking of a request and its reply, and under every event but a reset and the
port's own DOWN. -/
inductive PortMove : PortState → PortState → Prop
  | aside {x y : PortState} (up : y.up = x.up) (queue : y.queue = x.queue) (outstanding : y.outstanding = x.outstanding)
      (mark : y.overflowMark = x.overflowMark) (transfer : y.transfer = x.transfer) : PortMove x y
  | wake (x : PortState) : PortMove x { x with up := true }
  | offered (x : PortState) (now : Word) (p : Port) (mask : Word) (n : Notice) : PortMove x (x.offer now p mask n)
  | begun {x y : PortState} {t : Transfer} (up : y.up = x.up) (queue : y.queue = x.queue)
      (outstanding : y.outstanding = x.outstanding) (mark : y.overflowMark = x.overflowMark)
      (transfer : y.transfer = some t) (position : t.position = 1) (room : 1 ≤ t.frame.length)
      (control : t.what = .control → x.queue.head?.map Entry.frame = some t.frame)
      (media : ∀ m b, t.what = .media m b → t.frame = m.frame) : PortMove x y
  | byte {x : PortState} {t : Transfer} {b : Byte} (transfer : x.transfer = some t)
      (next : t.frame[t.position]? = some b) :
      PortMove x { x with sent := [b], transfer := some { t with position := t.position + 1 } }
  | left {x : PortState} {e : Entry} {rest : List Entry} (queue : x.queue = e :: rest) (now : Word) (p : Port) :
      PortMove x ((x.leaveQueue e).settleOverflow now p)
  | ended (x : PortState) : PortMove x { x with transfer := none }

/-- What can happen to a channel while its binding, its settings and its blocks stay. -/
inductive ChanMove : Channel → Channel → Prop
  | stats (x : Channel) (st : Stats) : ChanMove x { x with stats := st }
  | det (x : Channel) (d : Detector) : ChanMove x { x with det := d }
  | voice (x : Channel) (v : VoiceFlag) : ChanMove x { x with voice := v }
  | keepNotice (x : Channel) (n : Notice) : ChanMove x (x.keepNotice n)
  | discardNotices (x : Channel) : ChanMove x x.discardNotices
  | toData (x : Channel) : ChanMove x x.toData
  | toVoice (x : Channel) : ChanMove x x.toVoice
  | build (x : Channel) (start : Word) (samples : List Sample) : ChanMove x (x.build start samples)
  | formed (x : Channel) (p : Port) (m : MediaOut) : ChanMove x (x.mediaFormed p m)
  | completed (x : Channel) (m : MediaOut) : ChanMove x (x.mediaCompleted m)
  | cut (x : Channel) : ChanMove x x.mediaCut
  | sampleTaken (x : Channel) : ChanMove x x.sampleTaken

/-- What can happen to the binding of a channel that stays open, on a part whose UP ports are given. -/
inductive Rebind (up : Port → Prop) : Channel → Channel → Prop
  | fallback {x : Channel} (run : x.state = .run) (f : Option Port) : Rebind up x { x with fallback := f }
  | parkFallback {x : Channel} (run : x.state = .run) (f : Option Port) : Rebind up x { x with parkFallback := f }
  | parked {x : Channel} (run : x.state = .run) (old : Port) (cause : ParkCause) (deadline : Word) :
      Rebind up x
        { x with state := .parked, holder := none, oldHolder := old, parkCause := cause, parkDeadline := deadline }
  | claimed {x : Channel} {p : Port} (parked : x.state = .parked) (holder : up p) : Rebind up x (x.claimed p)
  | drained {x : Channel} (run : x.state = .run) (now : Word) : Rebind up x (x.drained now)

/-- What can happen to a channel and the pool together while the channel stays open, but for arriving media. -/
inductive PoolMove (res : PerChan Nat) (c : Chan) : ChanPool → ChanPool → Prop
  | tick {x : ChanPool} (live : x.1.state ≠ .idle) (silenceLevel : Nat) :
      PoolMove res c x (tickBlock res c silenceLevel x)
  | set {x : ChanPool} {k : TemplateKey} {v : Nat} {new : ChannelSettings} (run : x.1.state = .run)
      (key : k ≠ .history) (write : k.write v x.1.settings = some new) :
      PoolMove res c x (applyChannelSet res c k new x)

/-- What the end of its tone does to a loop (R156, R158). -/
def LoopState.toneOver (cause : ToneCause) (moment : Word) (x : LoopState) : LoopState :=
  match x.player with
  | none => x
  | some t =>
    let y := { x with player := none }
    match t.kind with
    | .requested => y
    | .auto => { y with autoTone := false }
    | .parkLost =>
      match y.lostDenial with
      | none => y
      | some ms =>
        let z := { y with lostDenial := none }
        if cause == .completed && y.feed == .active then z.enterDenied moment ms else z

/-- What can happen to a loop, but for a digit put in its dial buffer and a reset. -/
inductive LoopMove : LoopState → LoopState → Prop
  | leaves (x : LoopState) (c : Chan) (v : VoiceFlag) : LoopMove x (x.channelLeaves c v)
  | emptyDial (x : LoopState) : LoopMove x x.emptyDial
  | polarity (x : LoopState) (d : Polarity) : LoopMove x { x with polarity := d }
  | toneOver (x : LoopState) (cause : ToneCause) (moment : Word) : LoopMove x (x.toneOver cause moment)
  | requested {x : LoopState} {t : Tone} (free : x.player = none) (kind : t.kind = .requested) :
      LoopMove x { x with player := some t }
  | auto {x : LoopState} {t : Tone} (free : x.player = none) (kind : t.kind = .auto) :
      LoopMove x { x with player := some t, autoTone := true }
  | parkLost {x : LoopState} {t : Tone} (free : x.player = none) (kind : t.kind = .parkLost) (lost : Option Nat) :
      LoopMove x { x with player := some t, lostDenial := lost }
  | denied {x : LoopState} (feed : x.feed = .idle ∨ x.feed = .active) (start : Word) (ms : Nat) :
      LoopMove x (x.enterDenied start ms)
  | denialEnded {x : LoopState} (feed : x.feed = .denied) (now : Word) (threshold : Nat) :
      LoopMove x (x.denialEnded now threshold)
  | current (x : LoopState) (microamps : Int) (now : Word) (threshold : Nat) :
      LoopMove x (({ x with current := microamps } : LoopState).judge now threshold)
  | counted (x : LoopState) : LoopMove x { x with pulses := 0 }
  | seized {x : LoopState} (feed : x.feed = .idle) : LoopMove x { x.enterActive with hook := .offhook, pulses := 0 }
  | seizedInTest {x : LoopState} (feed : x.feed = .testing) :
      LoopMove x
        { ({ x with test := { x.test with phase := .none } } : LoopState).enterActive with
          hook := .offhook, pulses := 0 }
  | tripped {x : LoopState} (feed : x.feed = .ringing ∨ x.feed = .callerData) :
      LoopMove x { x.dropRing.enterActive with hook := .offhook, pulses := 0 }
  | offhook {x : LoopState} (feed : x.feed = .active ∨ x.feed = .denied) : LoopMove x { x with hook := .offhook }
  | broken {x : LoopState} (hook : x.hook = .offhook) (feed : x.feed ≠ .denied) (since : Word) :
      LoopMove x { x with hook := .brk, breakStart := since }
  | returned {x : LoopState} (hook : x.hook = .brk) : LoopMove x { x with hook := .offhook }
  | pulse {x : LoopState} (hook : x.hook = .brk) (n : Nat) (since : Word) :
      LoopMove x { x with hook := .offhook, pulses := stopAt 255 n, makeStart := since }
  | ignored {x : LoopState} (hook : x.hook = .brk) (since : Word) :
      LoopMove x { x with hook := .offhook, makeStart := since }
  | hungUp {x : LoopState} (hook : x.hook = .brk) : LoopMove x { x.enterIdle.emptyDial with hook := .onhook }
  | key (x : LoopState) (k : Option Byte) (now : Word) :
      LoopMove x (({ x with keyPresent := k } : LoopState).hearKey now)
  | digit {x : LoopState} (feed : x.feed = .active) (d : Dtmf) : LoopMove x { x with dtmf := d }
  | rung {x : LoopState} {r : RingRecord} (feed : x.feed = .idle)
      (caller : r.callerState ≠ .sending ∧ r.callerState ≠ .waiting) :
      LoopMove x { x with feed := .ringing, ring := some r }
  | rungInTest {x : LoopState} {r : RingRecord} (feed : x.feed = .testing)
      (caller : r.callerState ≠ .sending ∧ r.callerState ≠ .waiting) :
      LoopMove x { x with test := { x.test with phase := .none }, feed := .ringing, ring := some r }
  | testBegun {x : LoopState} (feed : x.feed = .idle) (p : Port) (gate : Nat) (now : Word) :
      LoopMove x { x with feed := .testing, test := x.test.begun p gate now }
  | refEnded {x : LoopState} (phase : x.test.phase = .ref) (count : Nat) :
      LoopMove x { x with test := x.test.refEnded count }
  | tested {x : LoopState} (phase : x.test.phase = .loop) (n : Nat) (load : Option Nat) :
      LoopMove x { x.enterIdle with test := { x.test with phase := .none, nLoop := n, load := load } }
  | ringDropped {x : LoopState} (ring : x.ring.isSome = true) : LoopMove x x.dropRing.enterIdle
  | turned (x : LoopState) (index : Nat) : LoopMove x (x.turnStep index)
  | settled {x : LoopState} {index : Nat} {granted : Bool}
      (wanted : granted = true → ∃ r, x.ring = some r ∧ r.wants index = true) (waitEnd : Word) :
      LoopMove x (x.settle index granted waitEnd)
  | transmits {x : LoopState} {r : RingRecord} (ring : x.ring = some r) (feed : x.feed = .ringing)
      (caller : r.callerState = .waiting) (t : Transmitter) :
      LoopMove x { x with feed := .callerData, ring := some { r with callerState := .sending }, tx := some t }
  | transmitted {x : LoopState} {r : RingRecord} (ring : x.ring = some r) (caller : r.callerState = .sending) :
      LoopMove x { x with feed := .ringing, ring := some { r with callerState := .complete }, tx := none }
  | ownerDown (x : LoopState) (p : Port) : LoopMove x (x.ownerDown p)
  | blockTaken (x : LoopState) : LoopMove x { x with closed := none }
  | sampled (x : LoopState) (now : Word) (codec : Sample) (m : MixSample) (threshold : Nat) :
      LoopMove x (x.sampled now codec m threshold)

/-- The part with a channel set up by an OPEN, and the dial buffer of a loop it then leads emptied (R5). -/
def State.setUp (s : State) (p : Port) (o : OpenParams) (c : Chan) (pool : Pool) : State :=
  let lead := (s.attached o.loop).isEmpty
  let t := { s with pool := pool }.modChan c (Channel.opened p o s.live.template (s.nextBlockTime o.loop) lead)
  if lead then t.modLoop o.loop LoopState.emptyDial else t

/-- What the part can do. -/
inductive Move : State → State → Prop
  | aside {s t : State} (chans : t.chans = s.chans) (pool : t.pool = s.pool) (loops : t.loops = s.loops)
      (ports : t.ports = s.ports) (live : t.live = s.live)
      (store : ∀ g, t.store.loads g → s.store.loads g ∨ g = s.live) : Move s t
  | port {s : State} {p : Port} {f : PortState → PortState} (h : PortMove (s.port p) (f (s.port p))) :
      Move s (s.modPort p f)
  | chan {s : State} {c : Chan} {f : Channel → Channel} (h : ChanMove (s.chan c) (f (s.chan c))) : Move s (s.modChan c f)
  | rebind {s : State} {c : Chan} {f : Channel → Channel}
      (h : Rebind (fun p => (s.port p).up = true) (s.chan c) (f (s.chan c))) : Move s (s.modChan c f)
  | pool {s : State} {c : Chan} {f : ChanPool → ChanPool}
      (h : PoolMove s.reserves c (s.chan c, s.pool) (f (s.chan c, s.pool))) : Move s (s.modChanPool c f)
  | loop {s : State} {l : Loop} {f : LoopState → LoopState} (h : LoopMove (s.loop l) (f (s.loop l))) :
      Move s (s.modLoop l f)
  | dial {s : State} {l : Loop} (free : s.leadOf l = none) (digit : Byte) : Move s (s.modLoop l (·.dialDigit digit))
  | toIdle (s : State) (c : Chan) : Move s (s.toIdle c)
  | setUp {s : State} {p : Port} {o : OpenParams} {c : Chan} {b : Pool} (up : (s.port p).up = true)
      (idle : (s.chan c).state = .idle) (two : (s.attached o.loop).length < 2)
      (packet : 1 ≤ o.packet ∧ o.packet ≤ 4)
      (grant : (Pool.grantRing s.reserves c s.live.template.history s.pool).1 = some b) : Move s (s.setUp p o c b)
  | ringRefused {s : State} {c : Chan} {n : Nat} (grant : (Pool.grantRing s.reserves c n s.pool).1 = none) :
      Move s { s with pool := (Pool.grantRing s.reserves c n s.pool).2 }
  | stored {s : State} {k : SettingKey} {v : Nat} {g : Profile} (idle : k.isReserve = true → s.allIdle = true)
      (write : k.write v s.live = some g) :
      Move s { s with live := g, pool := if k.isReserve then s.pool.split g.global.reserve else s.pool }
  | gains {s : State} {l : Loop} {rx tx : Nat} (hrx : rx ≤ 1024) (htx : tx ≤ 1024) :
      Move s (s.modLoopSet l fun x => { x with rxGain := rx, txGain := tx })
  | program {s : State} {n : Fin 8} {g : Program} (ok : ProgramInRange g) : Move s (s.putProgram n g)
  | loaded {s : State} {g : Profile} (idle : s.allIdle = true) (slot : s.store.loads g ∨ g = factoryProfile) :
      Move s (s.loadProfile g)

/-- Any number of moves. -/
abbrev Steps : State → State → Prop := Relation.ReflTransGen Move

/-- A move is a run of one. -/
theorem Move.steps {s t : State} (h : Move s t) : Steps s t := .single h

/-- A request's effect at its owner: moves, one reply, moves. -/
def Answers (p : Port) (s t : State) : Prop := ∃ (a : State) (r : Reply), Steps s a ∧ Steps (a.answer p r) t

/-- A request counted on its port (R175). -/
def State.countRequest (s : State) (p : Port) : State := s.modPort p fun x => { x with outstanding := x.outstanding + 1 }

/-- The part after a reset of any kind, from the state before it. -/
structure FreshFrom (s t : State) : Prop where
  chans : ∀ c, ∃ set, t.chan c = .afterReset set
  ports : ∀ p, ∃ now cause slot fallback, t.port p = .afterReset (startNotice now cause slot fallback)
  loops : ∀ l, ∃ now threshold current key start codec load, ∃ block : List MixSample,
    t.loop l = .afterReset now threshold current key start block codec load
      ∧ (block = [] ∨ block = (s.loop l).block)
  pool : t.pool = .allFree t.reserves
  live : t.live = s.live ∨ t.live = factoryProfile ∨ s.store.loads t.live
  store : ∀ g, t.store.loads g → s.store.loads g

/-- What one command does. -/
inductive Course : State → State → Prop
  | quiet {s t : State} (h : Steps s t) : Course s t
  | request {s a t : State} {p : Port} (taken : Steps s a) (up : (a.port p).up = true)
      (room : (a.port p).outstanding < 4) (answered : Answers p (a.countRequest p) t) : Course s t
  | media {s a : State} {c : Chan} {m : MediaMsg} (taken : Steps s a)
      (same : ∀ d, (a.chan d).state = (s.chan d).state ∧ (a.chan d).pe = (s.chan d).pe
        ∧ (a.chan d).settings = (s.chan d).settings)
      (run : (a.chan c).state = .run) (count : m.arrivals.length ≤ 7)
      (blocks : ∀ x ∈ m.arrivals, x.samples.length = 80) :
      Course s (a.modChanPool c (playMedia a.reserves c a.timebase m))
  | silence {s a t : State} {p : Port} (cut : Steps s a) (parks : Steps (a.modPort p PortState.goDown) t)
      (none : ∀ c, (t.chan c).state = .run → (t.chan c).holder ≠ some p) : Course s t
  | reset {s t : State} (fresh : FreshFrom s t) : Course s t

end Sys2Proof.Machine

namespace Sys2Proof.Machine

/-! ### The shared operations as runs of moves -/

/-- Two changes of one loop are one change. -/
theorem State.modLoop_modLoop (s : State) (l : Loop) (f g : LoopState → LoopState) :
    (s.modLoop l f).modLoop l g = s.modLoop l (fun x => g (f x)) := by
  simp [State.modLoop]

/-- Two changes of one channel are one change. -/
theorem State.modChan_modChan (s : State) (c : Chan) (f g : Channel → Channel) :
    (s.modChan c f).modChan c g = s.modChan c (fun x => g (f x)) := by
  simp [State.modChan]

/-- Two changes of one port are one change. -/
theorem State.modPort_modPort (s : State) (p : Port) (f g : PortState → PortState) :
    (s.modPort p f).modPort p g = s.modPort p (fun x => g (f x)) := by
  simp [State.modPort]

/-- Changes that agree on the loop as it stands are the same change. -/
theorem State.modLoop_congr {s : State} {l : Loop} {f g : LoopState → LoopState} (h : f (s.loop l) = g (s.loop l)) :
    s.modLoop l f = s.modLoop l g := by
  simp only [State.loop] at h
  simp only [State.modLoop, h]

/-- Changes that agree on the port as it stands are the same change. -/
theorem State.modPort_congr {s : State} {p : Port} {f g : PortState → PortState} (h : f (s.port p) = g (s.port p)) :
    s.modPort p f = s.modPort p g := by
  simp only [State.port] at h
  simp only [State.modPort, h]

/-- A change that leaves the channel as it stands is none. -/
theorem State.modChan_id {s : State} {c : Chan} {f : Channel → Channel} (h : f (s.chan c) = s.chan c) :
    s.modChan c f = s := by
  simp only [State.chan] at h
  simp only [State.modChan, h, PerChan.put_get]

/-- Fields of a port that no limit speaks of. -/
theorem State.port_aside_steps {s : State} {p : Port} {f : PortState → PortState}
    (h : ∀ x, (f x).up = x.up ∧ (f x).queue = x.queue ∧ (f x).outstanding = x.outstanding
      ∧ (f x).overflowMark = x.overflowMark ∧ (f x).transfer = x.transfer) : Steps s (s.modPort p f) := by
  obtain ⟨hup, hqueue, hout, hmark, htransfer⟩ := h (s.port p)
  exact (Move.port (.aside hup hqueue hout hmark htransfer)).steps

/-- Parts of the state that no invariant speaks of. -/
theorem State.aside_steps {s t : State} (chans : t.chans = s.chans) (pool : t.pool = s.pool) (loops : t.loops = s.loops)
    (ports : t.ports = s.ports) (live : t.live = s.live) (store : t.store = s.store) : Steps s t :=
  (Move.aside chans pool loops ports live fun _ h => .inl (store ▸ h)).steps

theorem State.offer_steps (s : State) (p : Port) (n : Notice) : Steps s (s.offer p n) :=
  (Move.port (.offered _ _ _ _ _)).steps

theorem State.offerEach_steps (s : State) (ps : List Port) (n : Notice) : Steps s (s.offerEach ps n) := by
  induction ps generalizing s with
  | nil => exact .refl
  | cons p rest ih => exact (s.offer_steps p n).trans (ih _)

theorem State.offerList_steps (s : State) (p : Port) (ns : List Notice) : Steps s (s.offerList p ns) := by
  induction ns generalizing s with
  | nil => exact .refl
  | cons n rest ih => exact (s.offer_steps p n).trans (ih _)

theorem State.offerTo_steps (s : State) (p : Option Port) (n : Notice) : Steps s (s.offerTo p n) := by
  cases p with
  | none => exact .refl
  | some p => exact s.offer_steps p n

theorem State.routeChannel_steps (s : State) (c : Chan) (n : Notice) : Steps s (s.routeChannel c n) := by
  unfold State.routeChannel
  split
  · exact (Move.chan (.keepNotice _ _)).steps
  · exact .refl
  · exact s.offerTo_steps _ n

theorem State.routeLoop_steps (s : State) (l : Loop) (n : Notice) : Steps s (s.routeLoop l n) := by
  unfold State.routeLoop
  split
  · exact s.routeChannel_steps _ n
  · exact s.offerEach_steps _ n

theorem State.raiseLoop_steps (s : State) (l : Loop) (d : NoticeData) : Steps s (s.raiseLoop l d) :=
  s.routeLoop_steps l _

theorem State.routeRing_steps (s : State) (l : Loop) (owner : Port) (lost : Bool) (n : Notice) :
    Steps s (s.routeRing l owner lost n) := by
  unfold State.routeRing
  split
  · exact s.offerEach_steps _ n
  · exact s.offer_steps owner n

theorem State.messageTaken_steps (s : State) (p : Port) : Steps s (s.messageTaken p) := by
  unfold State.messageTaken
  refine .trans ?_ (State.port_aside_steps fun x => ⟨rfl, rfl, rfl, rfl, rfl⟩)
  split
  · exact .refl
  · exact (Move.port (.wake _)).steps.trans (State.offer_steps _ _ _)

/-- The settling of an overflow mark touches the queue, the mark and its count alone. -/
@[simp] theorem PortState.settleOverflow_untouched (now : Word) (p : Port) (x : PortState) :
    (x.settleOverflow now p).up = x.up ∧ (x.settleOverflow now p).outstanding = x.outstanding
      ∧ (x.settleOverflow now p).transfer = x.transfer := by
  unfold PortState.settleOverflow
  split <;> exact ⟨rfl, rfl, rfl⟩

/-- An offered notice leaves a port UP or DOWN as it was, with its transfer and its requests. -/
@[simp] theorem PortState.offer_untouched (now : Word) (p : Port) (mask : Word) (n : Notice) (x : PortState) :
    (x.offer now p mask n).up = x.up ∧ (x.offer now p mask n).outstanding = x.outstanding
      ∧ (x.offer now p mask n).transfer = x.transfer := by
  unfold PortState.offer
  (repeat' split) <;> simp [PortState.dropNotice, PortState.enqueue]

/-- The port of a message that has been taken is UP (R173). -/
theorem State.messageTaken_up (s : State) (p : Port) : ((s.messageTaken p).port p).up = true := by
  unfold State.messageTaken
  by_cases h : (s.port p).up = true <;> simp [h, State.offer]

/-! #### Tones -/

/-- The loop after the end of its tone. -/
theorem State.endTone_loop (s : State) (l : Loop) (cause : ToneCause) (moment : Word) :
    (s.endTone l cause moment).loop l = (s.loop l).toneOver cause moment := by
  unfold State.endTone LoopState.toneOver
  split
  · next h => simp [h]
  · next t h =>
    simp only [h, State.toneEnded]
    cases t.kind
    case requested => simp [State.offer]
    case auto => simp
    case parkLost => cases hlost : (s.loop l).lostDenial <;> simp [hlost]

@[simp] theorem LoopState.toneOver_player (cause : ToneCause) (moment : Word) (x : LoopState) :
    (x.toneOver cause moment).player = none := by
  unfold LoopState.toneOver
  split
  · assumption
  · dsimp only
    (repeat' split) <;> rfl

theorem State.endTone_steps (s : State) (l : Loop) (cause : ToneCause) (moment : Word) :
    Steps s (s.endTone l cause moment) := by
  have hmove : Steps s (s.modLoop l (LoopState.toneOver cause moment)) := (Move.loop (.toneOver _ _ _)).steps
  unfold State.endTone
  split
  · exact .refl
  · next t ht =>
    cases hkind : t.kind <;> simp only [State.toneEnded, hkind]
    case requested =>
      have heq : s.modLoop l (LoopState.toneOver cause moment) = s.modLoop l fun x => { x with player := none } :=
        State.modLoop_congr (by simp [LoopState.toneOver, ht, hkind])
      exact (heq ▸ hmove).trans (State.offer_steps _ _ _)
    case auto =>
      rw [State.modLoop_modLoop, ← State.modLoop_congr (f := LoopState.toneOver cause moment)]
      · exact hmove
      · simp [LoopState.toneOver, ht, hkind]
    case parkLost =>
      rw [State.modLoop_modLoop, ← State.modLoop_congr (f := LoopState.toneOver cause moment)]
      · exact hmove
      · cases hlost : (s.loop l).lostDenial <;> simp [LoopState.toneOver, ht, hkind, hlost]

/-- A tone about to start finds the player idle (R156). -/
theorem State.endTone_player (s : State) (l : Loop) (cause : ToneCause) (moment : Word) :
    ((s.endTone l cause moment).loop l).player = none := by
  rw [State.endTone_loop, LoopState.toneOver_player]

theorem State.startTone_requested_steps (s : State) (l : Loop) (p : Port) (n : Fin 8) :
    Steps s (s.startTone l .requested p n) :=
  (s.endTone_steps l _ _).trans (Move.loop (.requested (s.endTone_player l _ _) rfl)).steps

/-! #### Channels -/

theorem State.toIdle_steps (s : State) (c : Chan) : Steps s (s.toIdle c) := (Move.toIdle s c).steps

theorem State.endDrain_steps (s : State) (c : Chan) (reason : DrainReason) : Steps s (s.endDrain c reason) :=
  (s.toIdle_steps c).trans (State.offerTo_steps _ _ _)

theorem State.park_steps {s : State} {c : Chan} (run : (s.chan c).state = .run) (cause : ParkCause) (old : Port) :
    Steps s (s.park c cause old) := by
  unfold State.park
  refine .tail (.trans ?_ (State.offerEach_steps _ _ _)) (.chan (.stats _ _))
  exact (Move.rebind (.parked run old cause _)).steps

theorem State.toneDetected_steps (s : State) (c : Chan) (path : TonePath) (band : Option Band) (time : Word) :
    Steps s (s.toneDetected c path band time) := by
  unfold State.toneDetected
  dsimp only
  split
  · exact (Move.chan (.toData _)).steps.trans (State.routeChannel_steps _ _ _)
  · exact State.routeChannel_steps _ _ _

theorem State.loopInterval_steps (s : State) (c : Chan) (band : Option Band) (length : Nat) (time : Word) :
    Steps s (s.loopInterval c band length time) := by
  unfold State.loopInterval
  dsimp only
  split
  · exact .refl
  · split
    · exact (Move.chan (.det _ _)).steps.trans (State.toneDetected_steps _ _ _ _ _)
    · exact (Move.chan (.det _ _)).steps

theorem State.playedInterval_steps (s : State) (c : Chan) (band : Option Band) (length : Nat) (time : Word) :
    Steps s (s.playedInterval c band length time) := by
  unfold State.playedInterval
  dsimp only
  split
  · exact .refl
  · split
    · exact (Move.chan (.det _ _)).steps.trans (State.toneDetected_steps _ _ _ _ _)
    · exact (Move.chan (.det _ _)).steps

theorem State.dataHint_steps (s : State) (c : Chan) : Steps s (s.dataHint c) := by
  unfold State.dataHint
  dsimp only
  split
  · exact (Move.chan (.toData _)).steps.trans (State.routeChannel_steps _ _ _)
  · exact .refl

theorem State.judgePlayed_steps (s : State) (c : Chan) (m : Option IntervalMeasure) : Steps s (s.judgePlayed c m) := by
  unfold State.judgePlayed
  split
  · exact .refl
  · exact State.playedInterval_steps _ _ _ _ _

theorem State.closeForChannel_steps (s : State) (blk : ClosedBlock) (m : Option IntervalMeasure) (c : Chan) :
    Steps s (s.closeForChannel blk m c) := by
  unfold State.closeForChannel
  dsimp only
  split
  · exact (Move.chan (.build _ _ _)).steps.trans (State.loopInterval_steps _ _ _ _ _)
  · exact .refl

/-- A fold of operations that are runs of moves is one. -/
theorem steps_foldl {α : Type} {f : State → α → State} (h : ∀ s x, Steps s (f s x)) (xs : List α) (s : State) :
    Steps s (xs.foldl f s) := by
  induction xs generalizing s with
  | nil => exact .refl
  | cons x rest ih => exact (h s x).trans (ih _)

theorem State.chooseBlock_steps {s : State} {c : Chan} (live : (s.chan c).state ≠ .idle) : Steps s (s.chooseBlock c) := by
  unfold State.chooseBlock
  dsimp only
  split
  · exact State.endDrain_steps _ _ _
  · exact (Move.pool (.tick live _)).steps

/-! #### Loops -/

/-- The auto dial tone (R115) ends what plays and starts a tone of its own kind with its flag. -/
theorem State.autoDialTone_steps (s : State) (l : Loop) : Steps s (s.autoDialTone l) := by
  unfold State.autoDialTone
  dsimp only
  split
  · rw [State.startTone, State.modLoop_modLoop]
    exact (s.endTone_steps l _ _).trans (Move.loop (.auto (s.endTone_player l _ _) rfl)).steps
  · exact .refl

theorem State.seize_steps {s : State} {l : Loop} (feed : (s.loop l).feed = .idle) : Steps s (s.seize l) :=
  (Move.loop (.seized feed)).steps.trans ((State.raiseLoop_steps _ _ _).trans (State.autoDialTone_steps _ _))

/-- A notice offered and a change of a loop commute. -/
theorem State.offer_modLoop (s : State) (p : Port) (n : Notice) (l : Loop) (f : LoopState → LoopState) :
    (s.offer p n).modLoop l f = (s.modLoop l f).offer p n := rfl

theorem State.abortTest_seize_steps {s : State} {l : Loop} (feed : (s.loop l).feed = .testing) (o : TestOutcome) :
    Steps s ((s.abortTest l o).seize l) := by
  unfold State.seize State.abortTest State.testDone
  rw [State.offer_modLoop, State.modLoop_modLoop]
  exact (Move.loop (.seizedInTest feed)).steps.trans
    ((State.offer_steps _ _ _).trans ((State.raiseLoop_steps _ _ _).trans (State.autoDialTone_steps _ _)))

theorem State.ringTrip_steps {s : State} {l : Loop} (feed : (s.loop l).feed = .ringing ∨ (s.loop l).feed = .callerData) :
    Steps s (s.ringTrip l) := by
  unfold State.ringTrip
  dsimp only
  split
  · exact (Move.loop (.tripped feed)).steps
  · exact (Move.loop (.tripped feed)).steps.trans (State.routeRing_steps _ _ _ _ _)

theorem State.answerOffhook_steps (s : State) (l : Loop) : Steps s (s.answerOffhook l) := by
  unfold State.answerOffhook
  cases h : (s.loop l).feed
  case idle => exact State.seize_steps h
  case ringing => exact State.ringTrip_steps (.inl h)
  case callerData => exact State.ringTrip_steps (.inr h)
  case testing => exact State.abortTest_seize_steps h _
  case active => exact (Move.loop (.offhook (.inl h))).steps
  case denied => exact (Move.loop (.offhook (.inr h))).steps

theorem State.stopAutoTone_steps (s : State) (l : Loop) : Steps s (s.stopAutoTone l) := by
  unfold State.stopAutoTone
  split
  · exact s.endTone_steps l _ _
  · exact .refl

theorem State.raiseDigit_steps (s : State) (l : Loop) (digit : Byte) (method : DigitMethod) (count : Half) :
    Steps s (s.raiseDigit l digit method count) := by
  unfold State.raiseDigit
  dsimp only
  refine .trans ?_ ((State.stopAutoTone_steps _ l).trans (State.raiseLoop_steps _ _ _))
  split
  · next h => exact (Move.dial (Option.isNone_iff_eq_none.mp h) digit).steps
  · exact .refl

theorem State.endRotary_steps (s : State) (l : Loop) : Steps s (s.endRotary l) := by
  unfold State.endRotary
  dsimp only
  have hcounted : Steps s (s.modLoop l fun x => { x with pulses := 0 }) := (Move.loop (.counted _)).steps
  split
  · exact hcounted.trans (State.raiseDigit_steps _ _ _ _ _)
  · exact hcounted.trans ((State.stopAutoTone_steps _ _).trans (State.raiseLoop_steps _ _ _))

/-- A field's value takes at most a free value from the state. -/
theorem msField_steps (n : Nat) (s : State) : Steps s (msField n s).2 := by
  unfold msField
  split
  · exact .refl
  · exact State.aside_steps rfl rfl rfl rfl rfl rfl

theorem State.flash_steps (s : State) (l : Loop) (length : Nat) : Steps s (s.flash l length) := by
  unfold State.flash
  dsimp only
  refine .trans ?_ ((msField_steps _ _).trans (State.raiseLoop_steps _ _ _))
  split
  · exact s.endRotary_steps l
  · exact .refl

theorem State.endBreak_steps {s : State} {l : Loop} (hook : (s.loop l).hook = .brk) : Steps s (s.endBreak l) := by
  unfold State.endBreak
  dsimp only
  split
  · rw [State.modLoop_modLoop]
    exact (Move.loop (.pulse hook _ _)).steps
  · split
    · rw [State.modLoop_modLoop]
      exact (Move.loop (.ignored hook _)).steps
    · exact (Move.loop (.returned hook)).steps.trans (State.flash_steps _ _ _)

theorem State.hangUp_steps {s : State} {l : Loop} (hook : (s.loop l).hook = .brk) : Steps s (s.hangUp l) := by
  unfold State.hangUp
  dsimp only
  have hook' : ((s.raiseLoop l .hangup).loop l).hook = .brk := by
    simpa [State.loop] using hook
  exact (s.raiseLoop_steps l _).trans ((Move.loop (.hungUp hook')).steps.trans ((State.endTone_steps _ _ _ _).trans
    (steps_foldl (fun _ _ => State.endDrain_steps _ _ _) _ _)))

theorem State.finishRing_steps {s : State} {l : Loop} (ring : (s.loop l).ring.isSome = true) (r : RingRecord)
    (reason : RingReason) : Steps s (s.finishRing l r reason) :=
  (Move.loop (.ringDropped ring)).steps.trans (State.routeRing_steps _ _ _ _ _)

theorem State.completeRing_steps (s : State) (l : Loop) : Steps s (s.completeRing l) := by
  unfold State.completeRing
  split
  · exact .refl
  · next r h =>
    split
    · exact State.finishRing_steps (by rw [h]; rfl) _ _
    · exact .refl

/-- The park-lost handling (R15) of a loop that gets it. -/
theorem State.parkLost_steps {s : State} {l : Loop} (feed : (s.loop l).feed = .active) : Steps s (s.parkLost l) := by
  unfold State.parkLost
  dsimp only
  split
  · rw [State.startTone, State.modLoop_modLoop]
    exact (s.endTone_steps l _ _).trans (Move.loop (.parkLost (s.endTone_player l _ _) rfl _)).steps
  · split
    · exact (Move.loop (.denied (.inr feed) _ _)).steps
    · exact .refl

theorem State.expirePark_steps (s : State) (c : Chan) : Steps s (s.expirePark c) := by
  unfold State.expirePark
  dsimp only
  have htold (n : Notice) (ps : List Port) : Steps s (((s.offerEach ps n).modChan c Channel.discardNotices).toIdle c) :=
    .tail (.tail (s.offerEach_steps ps n) (.chan (.discardNotices _))) (.toIdle _ c)
  split
  · next h =>
    refine (htold _ _).trans (State.parkLost_steps ?_)
    simp only [LoopState.losesPark, Bool.and_eq_true, beq_iff_eq] at h
    exact h.2.2
  · exact htold _ _

/-- A grant of the supply goes to a record that wants the step (R137). -/
theorem arbitrate_wants (budget loadA loadB index : Nat) (a b : Option RingRecord) :
    ((arbitrate budget loadA loadB index a b).1 = true → ∃ r, a = some r ∧ r.wants index = true)
      ∧ ((arbitrate budget loadA loadB index a b).2 = true → ∃ r, b = some r ∧ r.wants index = true) := by
  cases a <;> cases b <;> simp only [arbitrate, Option.any_none, Option.any_some] <;> try simp
  split <;> simp_all

theorem State.takeBoundary_steps (s : State) : Steps s s.takeBoundary := by
  let index := (s.stepIndex + 1) % 720720
  let waitEnd := s.nextBoundary + msSpan s.live.global.callerDelay
  let moved : State :=
    { s with stepIndex := index, nextBoundary := s.nextBoundary + msSpan s.live.global.cadenceStep }
  let turned := (moved.modLoop .a (·.turnStep s.stepIndex)).modLoop .b (·.turnStep s.stepIndex)
  let g := arbitrate s.live.global.ringBudget (s.loadOf .a) (s.loadOf .b) index turned.loops.a.ring turned.loops.b.ring
  have hmoved : Steps s moved := State.aside_steps rfl rfl rfl rfl rfl rfl
  have hturned : Steps moved turned := .tail (.single (.loop (.turned _ _))) (.loop (.turned _ _))
  obtain ⟨hA, hB⟩ := arbitrate_wants s.live.global.ringBudget (s.loadOf .a) (s.loadOf .b) index turned.loops.a.ring
    turned.loops.b.ring
  have hsettled : Steps turned ((turned.modLoop .a (·.settle index g.1 waitEnd)).modLoop .b (·.settle index g.2 waitEnd)) :=
    .tail (.single (.loop (s := turned) (l := .a) (.settled hA waitEnd)))
      (.loop (s := turned.modLoop .a (·.settle index g.1 waitEnd)) (l := .b) (.settled hB waitEnd))
  exact hmoved.trans (hturned.trans (hsettled.trans ((State.completeRing_steps _ .a).trans (State.completeRing_steps _ .b))))

theorem State.sample_steps (s : State) (lineA lineB : Sample) : Steps s (s.sample lineA lineB) := by
  refine .trans (b := { s with timebase := s.nextSample, sampleDue := false })
    (State.aside_steps rfl rfl rfl rfl rfl rfl) ?_
  refine .trans (Move.chan (c := .c0) (.sampleTaken _)).steps (.trans (Move.chan (c := .c1) (.sampleTaken _)).steps
    (.trans (Move.chan (c := .c2) (.sampleTaken _)).steps (.trans (Move.chan (c := .c3) (.sampleTaken _)).steps ?_)))
  exact .trans
    (Move.loop (l := .a) (.sampled _ s.nextSample (s.codecSample .a) (s.mixSample .a lineA)
      (s.loopSet .a).hookThreshold)).steps
    (Move.loop (l := .b) (.sampled _ s.nextSample (s.codecSample .b) (s.mixSample .b lineB)
      (s.loopSet .b).hookThreshold)).steps

end Sys2Proof.Machine

namespace Sys2Proof.Machine

/-! ### The requests at their owners -/

/-- A request that is only answered. -/
theorem answers_answer (s : State) (p : Port) (r : Reply) : Answers p s (s.answer p r) := ⟨s, r, .refl, .refl⟩

theorem answers_refuse (s : State) (p : Port) (tag : Byte) (code : ReplyCode) : Answers p s (s.refuse p tag code) :=
  answers_answer s p _

theorem answers_accept (s : State) (p : Port) (tag : Byte) (r : List Byte) : Answers p s (s.accept p tag r) :=
  answers_answer s p _

/-- An effect followed by its reply. -/
theorem Steps.answers_accept {s a : State} (h : Steps s a) (p : Port) (tag : Byte) (r : List Byte) :
    Answers p s (a.accept p tag r) := ⟨a, _, h, .refl⟩

theorem Steps.answers_acceptClamped {s a : State} (h : Steps s a) (p : Port) (tag : Byte) (b : Bool) (r : List Byte) :
    Answers p s (a.acceptClamped p tag b r) := ⟨a, _, h, .refl⟩

/-- A reply followed by an effect. -/
theorem Answers.steps {p : Port} {s t u : State} (h : Answers p s t) (htu : Steps t u) : Answers p s u := by
  obtain ⟨a, r, ha, ht⟩ := h
  exact ⟨a, r, ha, ht.trans htu⟩

/-- The checks of R3 refuse, or the channel is held by the port. -/
theorem answers_holderOnly {s : State} {p : Port} {tag b : Byte} {act : Chan → State}
    (h : ∀ c, (s.chan c).heldBy p = true → Answers p s (act c)) : Answers p s (s.holderOnly p tag b act) := by
  unfold State.holderOnly
  split
  · exact answers_refuse _ _ _ _
  · next c _ =>
    split
    · next hc => exact h c hc
    · exact answers_refuse _ _ _ _

/-- An accepted OPEN's channel set up, its dial buffer handed over, its reply. -/
theorem openChannel_answers {s : State} {p : Port} {o : OpenParams} {c : Chan} {b : Pool}
    (hmove : Move s (s.setUp p o c b)) (tag : Byte) : Answers p s (s.openChannel p tag o c b) := by
  unfold State.openChannel
  refine Steps.answers_acceptClamped ?_ _ _ _ _
  unfold State.takeDial
  unfold State.setUp at hmove
  dsimp only at hmove ⊢
  split
  · next hlead =>
    rw [if_pos hlead] at hmove
    split
    · exact hmove.steps.trans (State.endTone_steps _ _ _ _)
    · exact hmove.steps
  · next hlead =>
    rw [if_neg hlead] at hmove
    exact hmove.steps

/-- The packet size of OPEN's parameters lies in its range (R4). -/
theorem OpenParams.packet_of_ofBytes {params : List Byte} {o : OpenParams} (h : OpenParams.ofBytes params = some o) :
    1 ≤ o.packet ∧ o.packet ≤ 4 := by
  unfold OpenParams.ofBytes at h
  split at h
  · split at h
    · split at h
      · next hk => cases h; exact hk
      · cases h
    · cases h
  · cases h

theorem openBody_answers {s : State} {p : Port} (hup : (s.port p).up = true) (tag : Byte) (params : List Byte) :
    Answers p s (openBody p tag params s) := by
  unfold openBody
  split
  · exact answers_refuse _ _ _ _
  · next o ho =>
    split
    · exact answers_refuse _ _ _ _
    · next c hc =>
      split
      · exact answers_refuse _ _ _ _
      · next htwo =>
        split
        · next b hgrant =>
          have hb : b = (Pool.grantRing s.reserves c s.live.template.history s.pool).2 := by rw [hgrant]
          subst hb
          exact ⟨_, _, (Move.ringRefused (by rw [hgrant])).steps, .refl⟩
        · next b _ hgrant =>
          have hidle : (s.chan c).state = .idle := by
            have := List.find?_some hc
            simpa using this
          exact openChannel_answers (.setUp hup hidle (by omega) (OpenParams.packet_of_ofBytes ho) (by rw [hgrant])) tag

theorem claimBody_answers {s : State} {p : Port} (hup : (s.port p).up = true) (tag : Byte) (params : List Byte) :
    Answers p s (claimBody p tag params s) := by
  unfold claimBody
  split
  · split
    · exact answers_refuse _ _ _ _
    · next c _ =>
      cases hstate : (s.chan c).state
      case parked =>
        exact (Steps.answers_accept (Move.rebind (.claimed hstate hup)).steps p tag _).steps (State.offerList_steps _ _ _)
      case run =>
        dsimp only
        split <;> exact answers_refuse _ _ _ _
      all_goals exact answers_refuse _ _ _ _
  · exact answers_refuse _ _ _ _

theorem handoffBody_answers (s : State) (p : Port) (tag : Byte) (params : List Byte) :
    Answers p s (handoffBody p tag params s) := by
  unfold handoffBody
  split
  · refine answers_holderOnly fun c _ => ?_
    split
    · exact answers_refuse _ _ _ _
    · next hrun =>
      have hrun : (s.chan c).state = .run := not_not.mp hrun
      split
      · exact answers_refuse _ _ _ _
      · next target _ =>
        split
        · exact answers_refuse _ _ _ _
        · split
          · exact answers_refuse _ _ _ _
          · have hset : Steps s (s.modChan c fun ch => { ch with parkFallback := some target }) :=
              (Move.rebind (.parkFallback hrun _)).steps
            refine (hset.answers_accept p tag []).steps ?_
            exact State.park_steps (by simpa [State.accept, State.answer] using hrun) _ _
  · exact answers_refuse _ _ _ _

theorem closeBody_answers (s : State) (p : Port) (tag : Byte) (params : List Byte) :
    Answers p s (closeBody p tag params s) := by
  unfold closeBody
  split
  · split
    · exact answers_refuse _ _ _ _
    · refine answers_holderOnly fun c _ => ?_
      split
      · exact (s.toIdle_steps c).answers_accept _ _ _
      · split
        · exact answers_refuse _ _ _ _
        · next hrun =>
          unfold State.closeWithDrain
          split
          · exact (answers_accept _ _ _ _).steps (State.endDrain_steps _ _ _)
          · exact (Move.rebind (.drained (not_not.mp hrun) _)).steps.answers_accept _ _ _
  · exact answers_refuse _ _ _ _

theorem connectBody_answers (s : State) (p : Port) (tag : Byte) (params : List Byte) :
    Answers p s (connectBody p tag params s) := by
  unfold connectBody
  split
  · refine answers_holderOnly fun c _ => ?_
    split
    · exact answers_refuse _ _ _ _
    · exact (Move.chan (.voice _ _)).steps.answers_accept _ _ _
  · exact answers_refuse _ _ _ _

theorem setFallbackBody_answers (s : State) (p : Port) (tag : Byte) (params : List Byte) :
    Answers p s (setFallbackBody p tag params s) := by
  unfold setFallbackBody
  split
  · refine answers_holderOnly fun c _ => ?_
    split
    · exact answers_refuse _ _ _ _
    · next hrun =>
      split
      · exact answers_refuse _ _ _ _
      · exact (Move.rebind (.fallback (not_not.mp hrun) _)).steps.answers_accept _ _ _
  · exact answers_refuse _ _ _ _

theorem channelSetBody_answers (s : State) (p : Port) (tag : Byte) (params : List Byte) :
    Answers p s (channelSetBody p tag params s) := by
  unfold channelSetBody
  split
  · refine answers_holderOnly fun c _ => ?_
    split
    · exact answers_refuse _ _ _ _
    · next hrun =>
      split
      · exact answers_refuse _ _ _ _
      · exact answers_refuse _ _ _ _
      · next k hkey _ =>
        dsimp only
        split
        · exact answers_refuse _ _ _ _
        · next new hnew =>
          refine Steps.answers_acceptClamped (Move.pool (.set (not_not.mp hrun) ?_ hnew)).steps _ _ _ _
          rintro rfl
          exact hkey rfl
  · exact answers_refuse _ _ _ _

theorem statsBody_answers (s : State) (p : Port) (tag : Byte) (params : List Byte) :
    Answers p s (statsBody p tag params s) := by
  unfold statsBody
  split
  · split
    · exact answers_accept _ _ _ _
    · split
      · exact (Move.chan (.stats _ _)).steps.answers_accept _ _ _
      · exact answers_refuse _ _ _ _
    · exact answers_refuse _ _ _ _
  · exact answers_refuse _ _ _ _

/-- A channel brought into the mode asked for (R102). -/
theorem setMode_steps (s : State) (c : Chan) (m : Mode) : Steps s (s.modChan c (Channel.setMode m)) := by
  by_cases h : (s.chan c).mode = m
  · rw [State.modChan_id (by simp [Channel.setMode, h])]
  · cases m
    · exact (Move.chan (by simpa [Channel.setMode, h] using ChanMove.toVoice _)).steps
    · exact (Move.chan (by simpa [Channel.setMode, h] using ChanMove.toData _)).steps

theorem modeBody_answers (s : State) (p : Port) (tag : Byte) (params : List Byte) :
    Answers p s (modeBody p tag params s) := by
  unfold modeBody
  split
  · refine answers_holderOnly fun c _ => ?_
    split
    · exact answers_refuse _ _ _ _
    · exact (setMode_steps s c _).answers_accept _ _ _
  · exact answers_refuse _ _ _ _

theorem polarityBody_answers (s : State) (p : Port) (tag : Byte) (params : List Byte) :
    Answers p s (polarityBody p tag params s) := by
  unfold polarityBody
  split
  · split
    · split
      · exact (Move.loop (.polarity _ _)).steps.answers_accept _ _ _
      · exact answers_refuse _ _ _ _
    · exact answers_refuse _ _ _ _
  · exact answers_refuse _ _ _ _

theorem denyBody_answers (s : State) (p : Port) (tag : Byte) (params : List Byte) :
    Answers p s (denyBody p tag params s) := by
  unfold denyBody
  split
  · split
    · exact answers_refuse _ _ _ _
    · next l _ =>
      split
      · exact answers_refuse _ _ _ _
      · cases hfeed : (s.loop l).feed
        case idle => exact (Move.loop (.denied (.inl hfeed) _ _)).steps.answers_acceptClamped _ _ _ _
        case active => exact (Move.loop (.denied (.inr hfeed) _ _)).steps.answers_acceptClamped _ _ _ _
        all_goals exact answers_refuse _ _ _ _
  · exact answers_refuse _ _ _ _

theorem toneBody_answers (s : State) (p : Port) (tag : Byte) (params : List Byte) :
    Answers p s (toneBody p tag params s) := by
  unfold toneBody
  split
  · split
    · exact answers_refuse _ _ _ _
    · split
      · exact answers_refuse _ _ _ _
      · split
        · exact answers_refuse _ _ _ _
        · exact (answers_accept _ _ _ _).steps (State.startTone_requested_steps _ _ _ _)
  · exact answers_refuse _ _ _ _

theorem toneStopBody_answers (s : State) (p : Port) (tag : Byte) (params : List Byte) :
    Answers p s (toneStopBody p tag params s) := by
  unfold toneStopBody
  split
  · split
    · exact answers_refuse _ _ _ _
    · split
      · exact answers_refuse _ _ _ _
      · split
        · exact answers_refuse _ _ _ _
        · exact (answers_accept _ _ _ _).steps (State.endTone_steps _ _ _ _)
  · exact answers_refuse _ _ _ _

/-- The segments TONE_DEFINE accepts (R154, step 2). -/
theorem segmentsOk_iff (gs : List Segment) :
    segmentsOk gs = true ↔ (∀ g ∈ gs, g.f1 ≤ 3999 ∧ g.f2 ≤ 3999) ∧ ∀ g ∈ gs.dropLast, g.duration ≠ 0 := by
  induction gs with
  | nil => simp [segmentsOk]
  | cons g rest ih =>
    cases rest with
    | nil => simp [segmentsOk]
    | cons h rest =>
      rw [segmentsOk.eq_def]
      simp only [Bool.and_eq_true, decide_eq_true_eq, bne_iff_ne, ih, List.dropLast_cons_cons, List.forall_mem_cons]
      tauto

/-- A stored segment's duration is 0, a hold, exactly when the given one is (R154, step 4). -/
theorem Segment.stored_duration_eq_zero (g : Segment) : (Segment.stored g).duration = 0 ↔ g.duration = 0 := by
  simp only [Segment.stored, clampNat]
  split <;> omega

/-- The program TONE_DEFINE stores lies in its ranges (R153, R154). -/
theorem stored_programInRange {gs : List Segment} (count : gs.length ≤ 4) (ok : segmentsOk gs = true) (repeats : Nat) :
    ProgramInRange ⟨gs.map Segment.stored, repeats⟩ := by
  obtain ⟨hf, hhold⟩ := (segmentsOk_iff gs).mp ok
  refine ⟨by simpa using count, fun x hx => ?_, fun x hx => ?_⟩
  · obtain ⟨g, hg, rfl⟩ := List.mem_map.mp hx
    refine ⟨(hf g hg).1, (hf g hg).2, by simp [Segment.stored], ?_⟩
    simp only [Segment.stored, clampNat]
    split <;> omega
  · rw [← List.map_dropLast] at hx
    obtain ⟨g, hg, rfl⟩ := List.mem_map.mp hx
    exact fun h => hhold g hg ((Segment.stored_duration_eq_zero g).mp h)

theorem toneDefineBody_answers (s : State) (p : Port) (tag : Byte) (params : List Byte) :
    Answers p s (toneDefineBody p tag params s) := by
  unfold toneDefineBody
  split
  · split
    · split
      · exact answers_refuse _ _ _ _
      · next hok =>
        simp only [not_or, Nat.not_lt, Bool.not_eq_true', Bool.not_eq_false] at hok
        split
        · exact answers_refuse _ _ _ _
        · exact (Move.program (stored_programInRange hok.1 hok.2 _)).steps.answers_acceptClamped _ _ _ _
    · exact answers_refuse _ _ _ _
  · exact answers_refuse _ _ _ _

theorem gainBody_answers (s : State) (p : Port) (tag : Byte) (params : List Byte) :
    Answers p s (gainBody p tag params s) := by
  unfold gainBody
  split
  · split
    · exact answers_refuse _ _ _ _
    · split
      · exact answers_refuse _ _ _ _
      · have hclamp (n : Nat) : clampNat 0 1024 n ≤ 1024 := by simp [clampNat]
        exact (Move.gains (hclamp _) (hclamp _)).steps.answers_acceptClamped _ _ _ _
  · exact answers_refuse _ _ _ _

/-- A new ring record's caller state (R132). -/
theorem RingParams.record_caller (o : RingParams) (p : Port) :
    (o.record p).callerState ≠ .sending ∧ (o.record p).callerState ≠ .waiting := by
  unfold RingParams.record
  dsimp only
  split <;> decide

theorem ringBody_answers (s : State) (p : Port) (tag : Byte) (params : List Byte) :
    Answers p s (ringBody p tag params s) := by
  unfold ringBody
  split
  · exact answers_refuse _ _ _ _
  · next o _ =>
    cases hfeed : (s.loop o.loop).feed
    case idle => exact (Move.loop (.rung hfeed (o.record_caller p))).steps.answers_acceptClamped _ _ _ _
    case testing =>
      unfold State.startRing State.abortTest State.testDone
      rw [State.offer_modLoop, State.modLoop_modLoop]
      refine Steps.answers_acceptClamped (.trans ?_ (State.offer_steps _ _ _)) _ _ _ _
      exact (Move.loop (.rungInTest hfeed (o.record_caller p))).steps
    all_goals exact answers_refuse _ _ _ _

theorem ringStopBody_answers (s : State) (p : Port) (tag : Byte) (params : List Byte) :
    Answers p s (ringStopBody p tag params s) := by
  unfold ringStopBody
  split
  · split
    · exact answers_refuse _ _ _ _
    · next l _ =>
      split
      · exact answers_refuse _ _ _ _
      · next r hr =>
        split
        · exact (answers_accept _ _ _ _).steps
            (State.finishRing_steps (by rw [State.accept, State.answer, State.loop_modPort, hr]; rfl) _ _)
        · exact answers_refuse _ _ _ _
  · exact answers_refuse _ _ _ _

theorem testBody_answers (s : State) (p : Port) (tag : Byte) (params : List Byte) :
    Answers p s (testBody p tag params s) := by
  unfold testBody
  split
  · split
    · exact answers_refuse _ _ _ _
    · next l _ =>
      cases hfeed : (s.loop l).feed
      case idle => exact (Move.loop (.testBegun hfeed p _ _)).steps.answers_accept _ _ _
      all_goals exact answers_refuse _ _ _ _
  · exact answers_refuse _ _ _ _

theorem setBody_answers (s : State) (p : Port) (tag : Byte) (params : List Byte) :
    Answers p s (setBody p tag params s) := by
  unfold setBody
  split
  · split
    · exact answers_refuse _ _ _ _
    · dsimp only
      split
      · exact answers_refuse _ _ _ _
      · next hidle =>
        split
        · exact answers_refuse _ _ _ _
        · next g hwrite =>
          exact (Move.stored (fun hk => by simpa [hk] using hidle) hwrite).steps.answers_acceptClamped _ _ _ _
  · exact answers_refuse _ _ _ _

theorem getBody_answers (s : State) (p : Port) (tag : Byte) (params : List Byte) :
    Answers p s (getBody p tag params s) := by
  unfold getBody
  split
  · split
    · exact answers_refuse _ _ _ _
    · exact answers_accept _ _ _ _
  · exact answers_refuse _ _ _ _

theorem inquireBody_answers (s : State) (p : Port) (tag : Byte) (params : List Byte) :
    Answers p s (inquireBody p tag params s) := by
  unfold inquireBody
  split
  · exact answers_accept _ _ _ _
  · exact answers_refuse _ _ _ _

/-- What a store can load after a slot has been replaced. -/
theorem Store.loads_putSlot {x : Store} {n : Nat} {v : Slot} {save : Option Save} {g : Profile}
    (h : ({ x.putSlot n v with save := save } : Store).loads g) :
    x.slot1 = .valid g ∨ x.slot2 = .valid g ∨ x.slot3 = .valid g ∨ v = .valid g
      ∨ ∃ w, save = some w ∧ w.snapshot = g := by
  unfold Store.loads Store.putSlot at h
  split at h <;> tauto

/-- A store that can load no profile but those it could and the live settings. -/
theorem State.store_steps {s : State} {x : Store} (h : ∀ g, x.loads g → s.store.loads g ∨ g = s.live) :
    Steps s { s with store := x } :=
  (Move.aside (s := s) (t := { s with store := x }) rfl rfl rfl rfl rfl h).steps

theorem beginSave_steps (s : State) (p : Port) (n : Nat) : Steps s (s.beginSave p n) := by
  refine State.store_steps fun g hg => ?_
  obtain h | h | h | h | ⟨w, hw, h⟩ := Store.loads_putSlot hg
  · exact .inl (.inl h)
  · exact .inl (.inr (.inl h))
  · exact .inl (.inr (.inr (.inl h)))
  · cases h
  · cases hw
    exact .inr h.symm

theorem endSave_steps {s : State} {v : Save} (h : s.store.save = some v) : Steps s (s.endSave v) := by
  refine .trans (State.store_steps fun g hg => .inl ?_) (State.offer_steps _ _ _)
  obtain h' | h' | h' | h' | ⟨w, hw, -⟩ := Store.loads_putSlot hg
  · exact .inl h'
  · exact .inr (.inl h')
  · exact .inr (.inr (.inl h'))
  · exact .inr (.inr (.inr ⟨v, h, Slot.valid.inj h'⟩))
  · cases hw

theorem profileSaveBody_answers (s : State) (p : Port) (tag : Byte) (params : List Byte) :
    Answers p s (profileSaveBody p tag params s) := by
  unfold profileSaveBody
  split
  · dsimp only
    split
    · exact answers_refuse _ _ _ _
    · split
      · exact answers_refuse _ _ _ _
      · exact (beginSave_steps _ _ _).answers_accept _ _ _
  · exact answers_refuse _ _ _ _

/-- The profile a slot holds is one the store loads, or the factory's. -/
theorem Store.loads_of_profile {x : Store} {n : Nat} {g : Profile} (h : x.profile n = some g) :
    x.loads g ∨ g = factoryProfile := by
  unfold Store.profile at h
  split at h
  · next g' hslot =>
    cases h
    unfold Store.slot at hslot
    split at hslot
    · exact .inl (.inl hslot)
    · exact .inl (.inr (.inl hslot))
    · exact .inl (.inr (.inr (.inl hslot)))
    · exact .inr (Slot.valid.inj hslot).symm
  · cases h

theorem profileLoadBody_answers (s : State) (p : Port) (tag : Byte) (params : List Byte) :
    Answers p s (profileLoadBody p tag params s) := by
  unfold profileLoadBody
  split
  · split
    · exact answers_refuse _ _ _ _
    · split
      · exact answers_refuse _ _ _ _
      · split
        · exact answers_refuse _ _ _ _
        · next hidle =>
          split
          · exact answers_refuse _ _ _ _
          · next g hg =>
            exact (Move.loaded (by simpa using hidle) (Store.loads_of_profile hg)).steps.answers_accept _ _ _
  · exact answers_refuse _ _ _ _

theorem profileStartBody_answers (s : State) (p : Port) (tag : Byte) (params : List Byte) :
    Answers p s (profileStartBody p tag params s) := by
  unfold profileStartBody
  split
  · split
    · exact answers_refuse _ _ _ _
    · refine Steps.answers_accept (State.store_steps fun _ hg => .inl ?_) _ _ _
      exact hg
  · exact answers_refuse _ _ _ _

theorem restartBody_answers (s : State) (p : Port) (tag : Byte) (params : List Byte) :
    Answers p s (restartBody p tag params s) := by
  unfold restartBody
  split
  · split
    · exact answers_refuse _ _ _ _
    · exact (answers_answer s p _).steps (State.aside_steps rfl rfl rfl rfl rfl rfl)
  · exact answers_refuse _ _ _ _

/-- A request taken on any port (R175): discarded, or counted and answered by its owner. -/
theorem request_course {p : Port} {act : State → State}
    (h : ∀ a : State, (a.port p).up = true → Answers p a (act a)) (s : State) : Course s (s.request p act) := by
  unfold State.request
  dsimp only
  split
  · exact .quiet ((s.messageTaken_steps p).trans (State.port_aside_steps fun x => ⟨rfl, rfl, rfl, rfl, rfl⟩))
  · next hroom =>
    exact .request (s.messageTaken_steps p) (s.messageTaken_up p) (by omega)
      (h _ (by simpa [State.countRequest] using s.messageTaken_up p))

/-- What a request does, by its code (R175, R200). -/
theorem exec_request_course {i : Instr} {r : RequestParts} (h : requestOf i = some r) (s : State) :
    ∃ t, exec i s = .next t ∧ Course s t := by
  cases i <;> cases h
  case openReq p tag params => exact ⟨_, rfl, request_course (fun _ hup => openBody_answers hup tag params) s⟩
  case claimReq p tag params => exact ⟨_, rfl, request_course (fun _ hup => claimBody_answers hup tag params) s⟩
  case handoffReq p tag params => exact ⟨_, rfl, request_course (fun a _ => handoffBody_answers a p tag params) s⟩
  case closeReq p tag params => exact ⟨_, rfl, request_course (fun a _ => closeBody_answers a p tag params) s⟩
  case connectReq p tag params => exact ⟨_, rfl, request_course (fun a _ => connectBody_answers a p tag params) s⟩
  case setFallbackReq p tag params => exact ⟨_, rfl, request_course (fun a _ => setFallbackBody_answers a p tag params) s⟩
  case channelSetReq p tag params => exact ⟨_, rfl, request_course (fun a _ => channelSetBody_answers a p tag params) s⟩
  case statsReq p tag params => exact ⟨_, rfl, request_course (fun a _ => statsBody_answers a p tag params) s⟩
  case modeReq p tag params => exact ⟨_, rfl, request_course (fun a _ => modeBody_answers a p tag params) s⟩
  case polarityReq p tag params => exact ⟨_, rfl, request_course (fun a _ => polarityBody_answers a p tag params) s⟩
  case denyReq p tag params => exact ⟨_, rfl, request_course (fun a _ => denyBody_answers a p tag params) s⟩
  case toneReq p tag params => exact ⟨_, rfl, request_course (fun a _ => toneBody_answers a p tag params) s⟩
  case toneStopReq p tag params => exact ⟨_, rfl, request_course (fun a _ => toneStopBody_answers a p tag params) s⟩
  case toneDefineReq p tag params => exact ⟨_, rfl, request_course (fun a _ => toneDefineBody_answers a p tag params) s⟩
  case gainReq p tag params => exact ⟨_, rfl, request_course (fun a _ => gainBody_answers a p tag params) s⟩
  case ringReq p tag params => exact ⟨_, rfl, request_course (fun a _ => ringBody_answers a p tag params) s⟩
  case ringStopReq p tag params => exact ⟨_, rfl, request_course (fun a _ => ringStopBody_answers a p tag params) s⟩
  case testReq p tag params => exact ⟨_, rfl, request_course (fun a _ => testBody_answers a p tag params) s⟩
  case setReq p tag params => exact ⟨_, rfl, request_course (fun a _ => setBody_answers a p tag params) s⟩
  case getReq p tag params => exact ⟨_, rfl, request_course (fun a _ => getBody_answers a p tag params) s⟩
  case inquireReq p tag params => exact ⟨_, rfl, request_course (fun a _ => inquireBody_answers a p tag params) s⟩
  case profileSaveReq p tag params => exact ⟨_, rfl, request_course (fun a _ => profileSaveBody_answers a p tag params) s⟩
  case profileLoadReq p tag params => exact ⟨_, rfl, request_course (fun a _ => profileLoadBody_answers a p tag params) s⟩
  case profileStartReq p tag params =>
    exact ⟨_, rfl, request_course (fun a _ => profileStartBody_answers a p tag params) s⟩
  case restartReq p tag params => exact ⟨_, rfl, request_course (fun a _ => restartBody_answers a p tag params) s⟩
  case unknownRequestCode p tag code params =>
    simp only [exec, execUnknownRequestCode]
    split
    · exact ⟨_, rfl, .quiet .refl⟩
    · exact ⟨_, rfl, request_course (fun a _ => answers_refuse a p tag .unknown) s⟩

end Sys2Proof.Machine

namespace Sys2Proof.Machine

/-! ### The blocks of a message (R40, R198) -/

/-- Samples read from their bytes, two bytes each. -/
theorem samplesOf_length (n : Nat) (bytes : List Byte) (h : bytes.length = 2 * n) : (samplesOf bytes).length = n := by
  induction n generalizing bytes with
  | zero =>
    obtain rfl := List.length_eq_zero_iff.mp h
    rfl
  | succ n ih =>
    match bytes, h with
    | _ :: _ :: rest, h =>
      simp only [samplesOf, List.length_cons] at h ⊢
      rw [ih rest (by omega)]

@[simp] theorem blocksOf_length (n : Nat) (bytes : List Byte) : (blocksOf n bytes).length = n := by
  induction n generalizing bytes with
  | zero => rfl
  | succ n ih => simp [blocksOf, ih]

/-- Blocks read from enough bytes have 80 samples each. -/
theorem blocksOf_whole (n : Nat) (bytes : List Byte) (h : 160 * n ≤ bytes.length) :
    ∀ b ∈ blocksOf n bytes, b.length = 80 := by
  induction n generalizing bytes with
  | zero => simp [blocksOf]
  | succ n ih =>
    simp only [blocksOf, List.mem_cons, forall_eq_or_imp]
    exact ⟨samplesOf_length 80 _ (by rw [List.length_take]; omega), ih _ (by rw [List.length_drop]; omega)⟩

/-- A MEDIA_IN that has its form carries at most 4 primary and 3 redundant blocks of 80 samples. -/
theorem parseMedia_blocks {body : List Byte} {m : MediaMsg} (h : parseMedia body = some m) :
    m.primaries.length ≤ 4 ∧ m.redundant.length ≤ 3 ∧ ∀ b ∈ m.primaries ++ m.redundant, b.length = 80 := by
  unfold parseMedia at h
  split at h
  · dsimp only at h
    split at h
    · next hcounts =>
      obtain ⟨hp1, hp4, hr, hlen⟩ := hcounts
      cases h
      refine ⟨by simpa using hp4, by simpa using hr, fun b hb => ?_⟩
      obtain hb | hb := List.mem_append.mp hb
      · exact blocksOf_whole _ _ (by omega) b hb
      · exact blocksOf_whole _ _ (by rw [List.length_drop]; omega) b hb
    · cases h
  · cases h

/-- The primary blocks of a message become an arrival each. -/
theorem primaryArrivals_samples (seq : Half) (stamp : Word) (resync : Bool) (blocks : List (List Sample)) :
    (primaryArrivals seq stamp resync blocks).map (·.samples) = blocks := by
  induction blocks generalizing seq stamp resync with
  | nil => rfl
  | cons b rest ih => simp [primaryArrivals, ih]

/-- The redundant blocks of a message become an arrival each. -/
theorem redundantArrivals_samples (seq : Half) (blocks : List (List Sample)) :
    (redundantArrivals seq blocks).map (·.samples) = blocks := by
  induction blocks generalizing seq with
  | nil => rfl
  | cons b rest ih => simp [redundantArrivals, ih]

/-- The arrivals of a message are its blocks. -/
theorem MediaMsg.arrivals_samples (m : MediaMsg) : m.arrivals.map (·.samples) = m.primaries ++ m.redundant := by
  simp [MediaMsg.arrivals, primaryArrivals_samples, redundantArrivals_samples]

/-- A message has at most seven arrivals, whole blocks. -/
theorem parseMedia_arrivals {body : List Byte} {m : MediaMsg} (h : parseMedia body = some m) :
    m.arrivals.length ≤ 7 ∧ ∀ x ∈ m.arrivals, x.samples.length = 80 := by
  obtain ⟨hp, hr, hwhole⟩ := parseMedia_blocks h
  rw [← m.arrivals_samples] at hwhole
  constructor
  · rw [← List.length_map (·.samples), m.arrivals_samples, List.length_append]
    omega
  · exact fun x hx => hwhole _ (List.mem_map_of_mem hx)

/-! ### The events -/

/-- The channels keep their states, their playout and their settings. -/
def SamePlayout (s t : State) : Prop :=
  ∀ d, (t.chan d).state = (s.chan d).state ∧ (t.chan d).pe = (s.chan d).pe ∧ (t.chan d).settings = (s.chan d).settings

/-- A change of one channel that keeps its state, its playout and its settings. -/
theorem SamePlayout.modChan {s t : State} (h : SamePlayout s t) {c : Chan} {f : Channel → Channel}
    (hf : ∀ x, (f x).state = x.state ∧ (f x).pe = x.pe ∧ (f x).settings = x.settings) :
    SamePlayout s (t.modChan c f) := by
  intro d
  by_cases hd : d = c
  · subst hd
    obtain ⟨hstate, hpe, hset⟩ := hf (t.chan d)
    rw [State.chan_modChan_same, hstate, hpe, hset]
    exact h d
  · rw [State.chan_modChan_ne _ hd]
    exact h d

theorem SamePlayout.routeChannel {s t : State} (h : SamePlayout s t) (c : Chan) (n : Notice) :
    SamePlayout s (t.routeChannel c n) := by
  unfold State.routeChannel
  split
  · exact h.modChan fun x => by
      unfold Channel.keepNotice
      split <;> exact ⟨rfl, rfl, rfl⟩
  · exact h
  · unfold State.offerTo
    split <;> exact h

theorem SamePlayout.dataHint {s t : State} (h : SamePlayout s t) (c : Chan) : SamePlayout s (t.dataHint c) := by
  unfold State.dataHint
  dsimp only
  split
  · exact (h.modChan (f := Channel.toData) fun _ => ⟨rfl, rfl, rfl⟩).routeChannel _ _
  · exact h

theorem SamePlayout.toneDetected {s t : State} (h : SamePlayout s t) (c : Chan) (path : TonePath) (band : Option Band)
    (time : Word) : SamePlayout s (t.toneDetected c path band time) := by
  unfold State.toneDetected
  dsimp only
  split
  · exact (h.modChan (f := Channel.toData) fun _ => ⟨rfl, rfl, rfl⟩).routeChannel _ _
  · exact h.routeChannel _ _

/-- A played block judged leaves the playout to the tick (log 15). -/
theorem judgePlayed_same (s : State) (c : Chan) (m : Option IntervalMeasure) : SamePlayout s (s.judgePlayed c m) := by
  have hsame : SamePlayout s s := fun _ => ⟨rfl, rfl, rfl⟩
  have hdet (d : Channel → Detector) : SamePlayout s (s.modChan c fun ch => { ch with det := d ch }) :=
    hsame.modChan fun _ => ⟨rfl, rfl, rfl⟩
  unfold State.judgePlayed State.playedInterval
  dsimp only
  split
  · exact hsame
  · split
    · exact hsame
    · split
      · exact (hdet _).toneDetected _ _ _ _
      · exact hdet _

theorem routeMedia_course {s : State} {p : Port} {m : MediaMsg} (hcount : m.arrivals.length ≤ 7)
    (hwhole : ∀ x ∈ m.arrivals, x.samples.length = 80) : Course s ((s.messageTaken p).routeMedia p m) := by
  have htaken := s.messageTaken_steps p
  have hrefused : Course s ((s.messageTaken p).countNotHolder p) :=
    .quiet (htaken.trans (State.port_aside_steps fun _ => ⟨rfl, rfl, rfl, rfl, rfl⟩))
  have hsame : SamePlayout s (s.messageTaken p) := fun d => by simp [State.chan]
  unfold State.routeMedia
  split
  · exact hrefused
  · next c _ =>
    split
    · exact .quiet htaken
    · next hrun =>
      split
      · let t := if m.dataHint then (s.messageTaken p).dataHint c else s.messageTaken p
        have ht : Steps s t ∧ SamePlayout s t ∧ t.reserves = (s.messageTaken p).reserves
            ∧ t.timebase = (s.messageTaken p).timebase := by
          unfold t
          split
          · exact ⟨htaken.trans (State.dataHint_steps _ _), hsame.dataHint c, by simp [State.reserves], by simp⟩
          · exact ⟨htaken, hsame, rfl, rfl⟩
        obtain ⟨hsteps, ht, hres, htime⟩ := ht
        show Course s (t.modChanPool c (playMedia (s.messageTaken p).reserves c (s.messageTaken p).timebase m))
        rw [← hres, ← htime]
        exact .media hsteps ht (by rw [(ht c).1, ← (hsame c).1, hrun]) hcount hwhole
      · exact hrefused
    · exact hrefused

/-- The channel that parks is PARKED, and the others stay as they are. -/
theorem State.park_chan (s : State) (c d : Chan) (cause : ParkCause) (old : Port) :
    (d ≠ c → (s.park c cause old).chan d = s.chan d) ∧ ((s.park c cause old).chan c).state = .parked := by
  unfold State.park
  dsimp only
  constructor
  · intro h
    rw [State.chan_modChan_ne _ h, State.chan, (State.offerEach_untouched _ _ _).2.2.1]
    exact State.chan_modChan_ne _ h _
  · rw [State.chan_modChan_same, State.chan, (State.offerEach_untouched _ _ _).2.2.1]
    exact congrArg Channel.state (State.chan_modChan_same s c _)

/-- A channel parked if it is in RUN and held by the port. -/
def State.parkIfHeld (p : Port) (s : State) (c : Chan) : State :=
  if (s.chan c).state = .run ∧ (s.chan c).holder = some p then s.park c .portDown p else s

/-- The channel is in RUN and held by the port. -/
def State.runsFor (s : State) (p : Port) (c : Chan) : Prop := (s.chan c).state = .run ∧ (s.chan c).holder = some p

theorem State.parkIfHeld_steps (p : Port) (s : State) (c : Chan) : Steps s (s.parkIfHeld p c) := by
  unfold State.parkIfHeld
  split
  · next h => exact State.park_steps h.1 _ _
  · exact .refl

theorem State.parkIfHeld_runsFor {p : Port} {s : State} {c d : Chan} (h : (s.parkIfHeld p c).runsFor p d) :
    d ≠ c ∧ s.runsFor p d := by
  unfold State.parkIfHeld at h
  split at h
  · by_cases hd : d = c
    · subst hd
      have hparked := (s.park_chan d d .portDown p).2
      rw [h.1] at hparked
      cases hparked
    · have hsame := (s.park_chan c d .portDown p).1 hd
      unfold State.runsFor at h ⊢
      rw [hsame] at h
      exact ⟨hd, h⟩
  · next hnot =>
    refine ⟨?_, h⟩
    rintro rfl
    exact hnot h

/-- With every channel looked at, none is left in RUN under the port (R8). -/
theorem State.parkHeldBy_none (s : State) (p : Port) (d : Chan) : ¬(s.parkHeldBy p).runsFor p d := by
  intro h
  have hfold : s.parkHeldBy p = (((s.parkIfHeld p .c0).parkIfHeld p .c1).parkIfHeld p .c2).parkIfHeld p .c3 := rfl
  rw [hfold] at h
  have h3 := State.parkIfHeld_runsFor h
  have h2 := State.parkIfHeld_runsFor h3.2
  have h1 := State.parkIfHeld_runsFor h2.2
  have h0 := State.parkIfHeld_runsFor h1.2
  cases d
  · exact h0.1 rfl
  · exact h1.1 rfl
  · exact h2.1 rfl
  · exact h3.1 rfl

theorem State.cutTransfer_steps (s : State) (p : Port) : Steps s (s.cutTransfer p) := by
  unfold State.cutTransfer
  split
  · exact (Move.chan (.cut _)).steps
  · exact .refl

theorem portDown_course (s : State) (p : Port) : Course s (s.portDown p) := by
  let t := (s.cutTransfer p).modPort p PortState.goDown
  let u : State := { t with restart := t.restart.lostWith p }
  refine .silence (p := p) (s.cutTransfer_steps p) (t := s.portDown p) ?_ ?_
  · have hu : Steps t u := State.aside_steps rfl rfl rfl rfl rfl rfl
    have hparks : Steps u (u.parkHeldBy p) := steps_foldl (State.parkIfHeld_steps p) _ _
    exact hu.trans (hparks.trans (.tail (.single (.loop (.ownerDown _ p))) (.loop (.ownerDown _ p))))
  · intro c hrun hholder
    have hchan : (s.portDown p).chan c = (u.parkHeldBy p).chan c := by
      rw [State.portDown, State.chan_modLoop, State.chan_modLoop]
    rw [hchan] at hrun hholder
    exact u.parkHeldBy_none p c ⟨hrun, hholder⟩

/-- A message that begins is a control entry or a channel's MEDIA_OUT, with its sync byte sent (R170, R180). -/
theorem messageBegin_steps (s : State) (p : Port) : Steps s ((s.chooseMessage p).modPort p PortState.sendByte) := by
  unfold State.chooseMessage
  split
  · next htransfer =>
    obtain ⟨t, ht⟩ := Option.isSome_iff_exists.mp htransfer
    refine (Move.port ?_).steps
    cases hb : t.frame[t.position]? with
    | none =>
      rw [PortState.sendByte_done _ t ht hb]
      exact .aside rfl rfl rfl rfl rfl
    | some b =>
      rw [PortState.sendByte_next _ t b ht hb]
      exact .byte ht hb
  · next htransfer =>
    have htransfer : (s.port p).transfer = none := by simpa using htransfer
    split
    · next e rest hqueue =>
      rw [State.modPort_modPort]
      refine (Move.port ?_).steps
      have hbyte : (Entry.frame e)[0]? = some 0xA7 := by cases e <;> rfl
      rw [PortState.sendByte_next _ _ 0xA7 rfl hbyte]
      exact .begun rfl rfl rfl rfl rfl rfl (List.length_pos_of_mem (List.mem_of_getElem? hbyte))
        (fun _ => by simp [hqueue]) (fun m b h => nomatch h)
    · split
      · next c _ =>
        unfold State.beginMedia
        dsimp only
        rw [State.modPort_modPort]
        refine .tail (Move.chan (.formed _ _ _)).steps (.port ?_)
        rw [PortState.sendByte_next _ _ 0xA7 rfl (frame_head _ _)]
        exact .begun rfl rfl rfl rfl rfl rfl (Nat.le_add_left _ _) (fun h => nomatch h)
          (fun m b h => by cases h; rfl)
      · refine (Move.port ?_).steps
        rw [PortState.sendByte_idle _ htransfer]
        exact .aside rfl rfl rfl rfl rfl

theorem completeTransfer_steps (s : State) (p : Port) : Steps s (s.completeTransfer p) := by
  unfold State.completeTransfer
  split
  · exact .refl
  · split
    · exact (Move.port (.ended _)).steps
    · next e _ hqueue =>
      have hleft : Steps s (s.modPort p fun x => (x.leaveQueue e).settleOverflow s.timebase p) :=
        (Move.port (.left hqueue _ _)).steps
      exact hleft.trans (State.aside_steps rfl rfl rfl rfl rfl rfl)
  · refine .tail ?_ (.port (.ended _))
    split
    · exact (Move.chan (.completed _ _)).steps
    · exact .refl

theorem transferComplete_steps (s : State) (p : Port) :
    Steps s ((s.modPort p PortState.sendRest).completeTransfer p) := by
  refine .trans (Move.port ?_).steps (completeTransfer_steps _ p)
  rw [PortState.sendRest_frame]
  exact .aside rfl rfl rfl rfl rfl

/-- The end of a tone digit (R121) finds the feed ACTIVE still. -/
theorem toneOver_digit_feed (moment : Word) (x : LoopState) : (x.toneOver .digit moment).feed = x.feed := by
  unfold LoopState.toneOver
  split
  · rfl
  · dsimp only
    split
    · rfl
    · rfl
    · split
      · rfl
      · rfl

theorem raiseDigit_feed (s : State) (l : Loop) (digit : Byte) (method : DigitMethod) (count : Half) :
    ((s.raiseDigit l digit method count).loop l).feed = (s.loop l).feed := by
  unfold State.raiseDigit
  dsimp only
  rw [State.loop, (State.raiseLoop_untouched _ _ _).2.2.2.1]
  have hdial : ((if (s.leadOf l).isNone = true then s.modLoop l (·.dialDigit digit) else s).loop l).feed
      = (s.loop l).feed := by
    split
    · rw [State.loop_modLoop_same, LoopState.dialDigit]
      split <;> rfl
    · rfl
  rw [← hdial]
  unfold State.stopAutoTone
  generalize (if (s.leadOf l).isNone = true then s.modLoop l (·.dialDigit digit) else s) = t
  split
  · exact (congrArg LoopState.feed (t.endTone_loop l _ _)).trans (toneOver_digit_feed _ _)
  · rfl

@[simp] theorem loop_msField (n : Nat) (s : State) (l : Loop) : (msField n s).2.loop l = s.loop l := by
  unfold msField
  split <;> rfl

theorem endToneDigit_steps {s : State} {l : Loop} (feed : (s.loop l).feed = .active) (k : Byte) (onset gap : Word) :
    Steps s (s.endToneDigit l k onset gap) := by
  unfold State.endToneDigit
  dsimp only
  refine .tail ((msField_steps _ _).trans (State.raiseDigit_steps _ _ _ _ _)) (.loop (.digit ?_ _))
  rw [raiseDigit_feed, loop_msField, feed]

theorem endTransmission_steps {s : State} {l : Loop} {r : RingRecord} (ring : (s.loop l).ring = some r)
    (caller : r.callerState = .sending) : Steps s (s.endTransmission l r) := by
  unfold State.endTransmission
  dsimp only
  split
  · exact State.finishRing_steps (by rw [ring]; rfl) _ _
  · exact (Move.loop (.transmitted ring caller)).steps

theorem beginTransmission_steps {s : State} {l : Loop} {r : RingRecord} (ring : (s.loop l).ring = some r)
    (feed : (s.loop l).feed = .ringing) (caller : r.callerState = .waiting) : Steps s (s.beginTransmission l r) := by
  have hfree : Steps s s.takeFree.2 := State.aside_steps rfl rfl rfl rfl rfl rfl
  exact hfree.trans (Move.loop (.transmits ring feed caller _)).steps

theorem hookQualified_course (s : State) (l : Loop) : ∃ t, execHookQualified l s = .next t ∧ Course s t := by
  unfold execHookQualified
  dsimp only
  split
  · exact ⟨_, rfl, .quiet .refl⟩
  · next hqualified =>
    have hfeed : (s.loop l).feed ≠ .denied := by
      intro h
      simp [h] at hqualified
    split
    · exact ⟨_, rfl, .quiet (State.answerOffhook_steps s l)⟩
    · next hhook _ => exact ⟨_, rfl, .quiet (Move.loop (.broken hhook hfeed _)).steps⟩
    · next hhook _ => exact ⟨_, rfl, .quiet (State.endBreak_steps hhook)⟩
    · exact ⟨_, rfl, .quiet .refl⟩

/-! ### The resets -/

/-- A store after a reset loads nothing new (R191). -/
theorem Store.loads_abandonSave {x : Store} {g : Profile} (h : x.abandonSave.loads g) : x.loads g := by
  unfold Store.abandonSave at h
  split at h
  · exact h
  · obtain h | h | h | h | ⟨w, hw, -⟩ := Store.loads_putSlot h
    · exact .inl h
    · exact .inr (.inl h)
    · exact .inr (.inr (.inl h))
    · cases h
    · cases hw

theorem chansAfterReset_get (k : Nat) (c : Chan) : ∃ set, (chansAfterReset k).get c = .afterReset set := by
  cases c <;> exact ⟨_, rfl⟩

theorem startWith_fresh (s : State) (cause : StartCause) {store : Store} {g : Profile} (slot : Nat) (fallback : Bool)
    (hg : g = factoryProfile ∨ s.store.loads g) (hstore : ∀ g, store.loads g → s.store.loads g) :
    FreshFrom s (s.startWith cause store g slot fallback) where
  chans c := chansAfterReset_get _ c
  ports p := by cases p <;> exact ⟨_, _, _, _, rfl⟩
  loops l := by cases l <;> exact ⟨_, _, _, _, _, _, _, _, rfl, .inl rfl⟩
  pool := rfl
  live := .inr hg
  store := hstore

theorem startUp_fresh (s : State) (cause : StartCause) : FreshFrom s (s.startUp cause) := by
  unfold State.startUp
  dsimp only
  split
  · next g hg =>
    refine startWith_fresh s cause _ _ ?_ fun _ => Store.loads_abandonSave
    obtain h | h := Store.loads_of_profile hg
    · exact .inr (Store.loads_abandonSave h)
    · exact .inl h
  · exact startWith_fresh s cause _ _ (.inl rfl) fun _ => Store.loads_abandonSave

theorem restarted_fresh (s : State) : FreshFrom s s.restarted where
  chans c := chansAfterReset_get _ c
  ports p := by cases p <;> exact ⟨_, _, _, _, rfl⟩
  loops l := by cases l <;> exact ⟨_, _, _, _, _, _, _, _, rfl, .inr rfl⟩
  pool := rfl
  live := .inl rfl
  store _ := Store.loads_abandonSave

/-! ### Every command -/

/-- Every command has a next state, and reaches it by one of the courses. -/
theorem exec_course (i : Instr) (s : State) : ∃ t, exec i s = .next t ∧ Course s t := by
  cases hrequest : requestOf i with
  | some r => exact exec_request_course hrequest s
  | none =>
    have hidle : ∃ t, (.next s : Host.Outcome State Fault Refusal) = .next t ∧ Course s t :=
      ⟨s, rfl, .quiet .refl⟩
    cases i
    case mediaIn p body =>
      simp only [exec, execMediaIn]
      split
      · exact ⟨_, rfl, .quiet (State.port_aside_steps fun _ => ⟨rfl, rfl, rfl, rfl, rfl⟩)⟩
      · next m hm =>
        obtain ⟨hcount, hwhole⟩ := parseMedia_arrivals hm
        exact ⟨_, rfl, routeMedia_course hcount hwhole⟩
    case keep p body =>
      simp only [exec, execKeep]
      split
      · exact ⟨_, rfl, .quiet (s.messageTaken_steps p)⟩
      · exact ⟨_, rfl, .quiet (State.port_aside_steps fun _ => ⟨rfl, rfl, rfl, rfl, rfl⟩)⟩
    case badFrame p bytes =>
      simp only [exec, execBadFrame]
      split
      · exact hidle
      · exact ⟨_, rfl, .quiet (State.port_aside_steps fun _ => ⟨rfl, rfl, rfl, rfl, rfl⟩)⟩
    case powerOn => exact ⟨_, rfl, .reset (startUp_fresh s .power)⟩
    case resetLine => exact ⟨_, rfl, .reset (startUp_fresh s .line)⟩
    case restartTaken =>
      simp only [exec, execRestartTaken]
      split
      · exact ⟨_, rfl, .reset (restarted_fresh s)⟩
      · exact hidle
    case silenceTimerExpiry p =>
      simp only [exec, execSilenceTimerExpiry]
      split
      · exact ⟨_, rfl, portDown_course s p⟩
      · exact hidle
    case parkExpiry c =>
      simp only [exec, execParkExpiry]
      split
      · exact ⟨_, rfl, .quiet (State.expirePark_steps s c)⟩
      · exact hidle
    case drainDeadline c =>
      simp only [exec, execDrainDeadline]
      split
      · exact ⟨_, rfl, .quiet (State.endDrain_steps s c _)⟩
      · exact hidle
    case denyEnd l =>
      simp only [exec, execDenyEnd]
      split
      · next h =>
        simp only [Bool.and_eq_true, beq_iff_eq] at h
        exact ⟨_, rfl, .quiet (Move.loop (.denialEnded h.1 _ _)).steps⟩
      · exact hidle
    case loopCurrentChange l microamps => exact ⟨_, rfl, .quiet (Move.loop (.current _ microamps _ _)).steps⟩
    case hookQualified l => exact hookQualified_course s l
    case hangup l =>
      simp only [exec, execHangup]
      split
      · next h =>
        simp only [Bool.and_eq_true, beq_iff_eq] at h
        exact ⟨_, rfl, .quiet (State.hangUp_steps h.1)⟩
      · exact hidle
    case rotaryDigitEnd l =>
      simp only [exec, execRotaryDigitEnd]
      split
      · exact ⟨_, rfl, .quiet (State.endRotary_steps s l)⟩
      · exact hidle
    case dtmfKeyChange l m => exact ⟨_, rfl, .quiet (Move.loop (.key _ (judgeKey m) _)).steps⟩
    case dtmfOnsetQualified l =>
      simp only [exec, execDtmfOnsetQualified]
      split
      · split
        · next h =>
          simp only [Bool.and_eq_true, beq_iff_eq] at h
          exact ⟨_, rfl, .quiet (Move.loop (.digit h.1 _)).steps⟩
        · exact hidle
      · exact hidle
    case dtmfDigitEnd l =>
      simp only [exec, execDtmfDigitEnd]
      split
      · split
        · next h =>
          simp only [Bool.and_eq_true, beq_iff_eq] at h
          exact ⟨_, rfl, .quiet (endToneDigit_steps h.1 _ _ _)⟩
        · exact hidle
      · exact hidle
    case stepBoundary =>
      simp only [exec, execStepBoundary]
      split
      · exact ⟨_, rfl, .quiet s.takeBoundary_steps⟩
      · exact hidle
    case callerWaitEnd l =>
      simp only [exec, execCallerWaitEnd]
      split
      · exact hidle
      · next r hr =>
        split
        · next h =>
          simp only [Bool.and_eq_true, beq_iff_eq] at h
          obtain ⟨⟨⟨hcaller, -⟩, hfeed⟩, -⟩ := h
          exact ⟨_, rfl, .quiet (beginTransmission_steps hr hfeed hcaller)⟩
        · exact hidle
    case callerTransmissionEnd l =>
      simp only [exec, execCallerTransmissionEnd]
      split
      · next r t hr ht =>
        split
        · next h =>
          simp only [Bool.and_eq_true, beq_iff_eq] at h
          exact ⟨_, rfl, .quiet (endTransmission_steps hr h.1)⟩
        · exact hidle
      · exact hidle
    case refPhaseEnd l count =>
      simp only [exec, execRefPhaseEnd]
      split
      · next h =>
        simp only [Bool.and_eq_true, beq_iff_eq] at h
        exact ⟨_, rfl, .quiet (Move.loop (.refEnded h.1 _)).steps⟩
      · exact hidle
    case loopPhaseEnd l count =>
      simp only [exec, execLoopPhaseEnd]
      split
      · next h =>
        simp only [Bool.and_eq_true, beq_iff_eq] at h
        exact ⟨_, rfl, .quiet (.trans (Move.loop (.tested h.1 _ _)).steps (State.offer_steps _ _ _))⟩
      · exact hidle
    case saveComplete =>
      simp only [exec, execSaveComplete]
      split
      · exact hidle
      · next v hv =>
        split
        · exact ⟨_, rfl, .quiet (endSave_steps hv)⟩
        · exact hidle
    case channelTick c m =>
      simp only [exec, execChannelTick]
      split
      · next h =>
        simp only [Channel.tickTime, Bool.and_eq_true, bne_iff_ne] at h
        refine ⟨_, rfl, .quiet ((State.judgePlayed_steps s c m).trans (State.chooseBlock_steps ?_))⟩
        rw [(judgePlayed_same s c m c).1]
        exact h.1
      · exact hidle
    case loopBlockClose l m =>
      simp only [exec, execLoopBlockClose]
      split
      · exact hidle
      · exact ⟨_, rfl, .quiet ((Move.loop (.blockTaken _)).steps.trans
          (steps_foldl (fun _ _ => State.closeForChannel_steps _ _ _ _) _ _))⟩
    case toneComplete l =>
      simp only [exec, execToneComplete]
      split
      · exact hidle
      · exact ⟨_, rfl, .quiet (State.endTone_steps _ _ _ _)⟩
    case messageBegin p => exact ⟨_, rfl, .quiet (messageBegin_steps s p)⟩
    case transferComplete p => exact ⟨_, rfl, .quiet (transferComplete_steps s p)⟩
    case sampleTime lineA lineB => exact ⟨_, rfl, .quiet (s.sample_steps lineA lineB)⟩
    -- the requests are not events
    all_goals cases hrequest

end Sys2Proof.Machine

namespace Sys2Proof.Machine

/-! ### Invariants, move by move -/

/-- A step is a course of the front command, from a state with the queue's rest. -/
theorem step_course {s t : State} (h : step s = .next t) : ∃ q, Course { s with pending := q } t := by
  unfold step at h
  split at h
  · cases h
    exact ⟨s.pending, .quiet .refl⟩
  · next c rest _ =>
    obtain ⟨u, hu, hcourse⟩ := exec_course c { s with pending := rest }
    rw [hu] at h
    cases h
    exact ⟨rest, hcourse⟩

/-- What every move keeps, a run of moves keeps. -/
theorem Steps.keep {I : State → Prop} (move : ∀ {s t}, Move s t → I s → I t) {s t : State} (h : Steps s t)
    (hs : I s) : I t := by
  induction h with
  | refl => exact hs
  | tail _ hmove ih => exact move hmove ih

/-- What every move, every change of a port, arriving media and a reset keep, a course keeps. -/
theorem Course.keep {I : State → Prop} (move : ∀ {s t}, Move s t → I s → I t)
    (port : ∀ s p f, I s → I (s.modPort p f))
    (media : ∀ {s : State} {c : Chan} {m : MediaMsg}, (s.chan c).state = .run → (∀ x ∈ m.arrivals, x.samples.length = 80) →
      I s → I (s.modChanPool c (playMedia s.reserves c s.timebase m)))
    (reset : ∀ {s t}, FreshFrom s t → I s → I t) {s t : State} (h : Course s t) (hs : I s) : I t := by
  cases h with
  | quiet h => exact h.keep move hs
  | request taken _ _ answered =>
    obtain ⟨a, r, hact, hrest⟩ := answered
    exact hrest.keep move (port _ _ _ (hact.keep move (port _ _ _ (taken.keep move hs))))
  | media taken _ run _ blocks => exact media run blocks (taken.keep move hs)
  | silence cut parks _ => exact parks.keep move (port _ _ _ (cut.keep move hs))
  | reset fresh => exact reset fresh hs

/-- A loop after a change of one loop. -/
theorem State.loop_modLoop (s : State) (l k : Loop) (f : LoopState → LoopState) :
    (s.modLoop l f).loop k = if k = l then f (s.loop k) else s.loop k := by
  by_cases h : k = l
  · subst h; simp
  · rw [if_neg h, State.loop_modLoop_ne _ h]

/-- A channel after a change of one channel. -/
theorem State.chan_modChan (s : State) (c d : Chan) (f : Channel → Channel) :
    (s.modChan c f).chan d = if d = c then f (s.chan d) else s.chan d := by
  by_cases h : d = c
  · subst h; simp
  · rw [if_neg h, State.chan_modChan_ne _ h]

/-- A channel after a change of one channel and the pool. -/
theorem State.chan_modChanPool (s : State) (c d : Chan) (f : ChanPool → ChanPool) :
    (s.modChanPool c f).chan d = if d = c then (f (s.chan c, s.pool)).1 else s.chan d := by
  by_cases h : d = c
  · subst h; simp [State.modChanPool, State.modChan, State.chan]
  · rw [if_neg h]
    exact PerChan.get_put_ne _ h _

/-- A port after a change of one port. -/
theorem State.port_modPort (s : State) (p q : Port) (f : PortState → PortState) :
    (s.modPort p f).port q = if q = p then f (s.port q) else s.port q := by
  by_cases h : q = p
  · subst h; simp
  · rw [if_neg h, State.port_modPort_ne _ h]

/-- What holds of one loop after its change and of the others before, holds of all after. -/
theorem State.forall_loop_modLoop {P : LoopState → Prop} {s : State} (h : ∀ l, P (s.loop l)) {l : Loop}
    {f : LoopState → LoopState} (hf : P (f (s.loop l))) (k : Loop) : P ((s.modLoop l f).loop k) := by
  rw [State.loop_modLoop]
  split
  · next e => exact e ▸ hf
  · exact h k

/-- What holds of one channel after its change and of the others before, holds of all after. -/
theorem State.forall_chan_modChan {P : Channel → Prop} {s : State} (h : ∀ c, P (s.chan c)) {c : Chan}
    {f : Channel → Channel} (hf : P (f (s.chan c))) (d : Chan) : P ((s.modChan c f).chan d) := by
  rw [State.chan_modChan]
  split
  · next e => exact e ▸ hf
  · exact h d

/-- A property of loops that their moves, a dialled digit and the resets keep, every step keeps. -/
theorem step_keeps_loops {P : LoopState → Prop} (move : ∀ {x y}, LoopMove x y → P x → P y)
    (dial : ∀ {x} (d : Byte), P x → P (x.dialDigit d))
    (fresh : ∀ now threshold current key start codec load (block : List MixSample),
      (block = [] ∨ ∃ x, P x ∧ block = x.block) →
        P (.afterReset now threshold current key start block codec load))
    {s t : State} (hs : ∀ l, P (s.loop l)) (h : step s = .next t) (l : Loop) : P (t.loop l) := by
  obtain ⟨q, hcourse⟩ := step_course h
  refine hcourse.keep (I := fun s => ∀ l, P (s.loop l)) ?move (fun s p f hs => hs) (fun _ _ hs => hs) ?reset hs l
  case reset =>
    intro s t hfresh hs l
    obtain ⟨now, threshold, current, key, start, codec, load, block, hl, hblock⟩ := hfresh.loops l
    rw [hl]
    exact fresh _ _ _ _ _ _ _ _ (hblock.imp_right fun e => ⟨_, hs l, e⟩)
  case move =>
    intro s t hmove hs
    cases hmove with
    | aside _ _ loops _ _ _ => exact fun l => by rw [State.loop, loops]; exact hs l
    | loop h => exact State.forall_loop_modLoop hs (move h (hs _))
    | dial _ d => exact State.forall_loop_modLoop hs (dial d (hs _))
    | toIdle c =>
      intro l
      rw [State.toIdle_loop]
      split
      · exact move (.leaves _ _ _) (hs l)
      · exact hs l
    | setUp =>
      unfold State.setUp
      dsimp only
      split
      · exact State.forall_loop_modLoop hs (move (.emptyDial _) (hs _))
      · exact hs
    | port | chan | rebind | pool | ringRefused | stored | gains | program | loaded => exact hs

/-! ### The feed and what agrees with it (O7) -/

/-- Outside RINGING and CALLER_DATA there is no ring record, no transmitter and no ring signal. -/
theorem FeedAgrees.noRing {x : LoopState} (h : FeedAgrees x)
    (feed : x.feed = .idle ∨ x.feed = .active ∨ x.feed = .testing ∨ x.feed = .denied) :
    x.ring = none ∧ x.tx = none ∧ x.ringSignal = false := by
  have hring := h.ring
  have hsending := h.sending
  have hsignal := h.signal
  obtain e | e | e | e := feed <;> simp_all

/-- Outside TESTING no test is in a phase. -/
theorem FeedAgrees.noTest {x : LoopState} (h : FeedAgrees x) (feed : x.feed ≠ .testing) : x.test.phase = .none :=
  not_not.mp fun hphase => feed (h.test.mp hphase)

/-- A loop in BREAK is ACTIVE (R116). -/
theorem FeedAgrees.active_of_break {x : LoopState} (h : FeedAgrees x) (hook : x.hook = .brk) : x.feed = .active := by
  have honhook := h.onhook
  have hdenied := h.denied
  cases hfeed : x.feed <;> simp_all

/-- The feed IDLE agrees with a loop on-hook that has no ring and no test (R108). -/
theorem enterIdle_feedAgrees {x : LoopState} (hook : x.hook = .onhook) (ring : x.ring = none) (tx : x.tx = none)
    (test : x.test.phase = .none) (auto : x.autoTone = true ↔ ∃ t, x.player = some t ∧ t.kind = .auto)
    (lost : x.lostDenial.isSome = true → ∃ t, x.player = some t ∧ t.kind = .parkLost) : FeedAgrees x.enterIdle := by
  constructor <;> simp_all [LoopState.enterIdle]

/-- The feed ACTIVE agrees with a loop off-hook that has no ring and no test (R108). -/
theorem enterActive_feedAgrees {x : LoopState} (hook : x.hook ≠ .onhook) (ring : x.ring = none) (tx : x.tx = none)
    (test : x.test.phase = .none) (auto : x.autoTone = true ↔ ∃ t, x.player = some t ∧ t.kind = .auto)
    (lost : x.lostDenial.isSome = true → ∃ t, x.player = some t ∧ t.kind = .parkLost) : FeedAgrees x.enterActive := by
  constructor <;> simp_all [LoopState.enterActive]

/-- A denial is entered from IDLE or ACTIVE, with the hook state held and a break abandoned (R110). -/
theorem enterDenied_feedAgrees {x : LoopState} (h : FeedAgrees x) (feed : x.feed = .idle ∨ x.feed = .active)
    (start : Word) (ms : Nat) : FeedAgrees (x.enterDenied start ms) := by
  obtain ⟨ring, tx, signal⟩ := h.noRing (by tauto)
  have test := h.noTest (by obtain e | e := feed <;> simp [e])
  have hhook : (if x.hook == .brk then .offhook else x.hook) ≠ HookState.brk := by
    split <;> simp_all
  have auto := h.auto
  have lost := h.lost
  constructor <;> simp_all [LoopState.enterDenied]

/-- The end of a denial goes by the held hook state (R111). -/
theorem denialEnded_feedAgrees {x : LoopState} (h : FeedAgrees x) (feed : x.feed = .denied) (now : Word)
    (threshold : Nat) : FeedAgrees (x.denialEnded now threshold) := by
  obtain ⟨ring, tx, -⟩ := h.noRing (by tauto)
  have test := h.noTest (by simp [feed])
  have hbreak := h.denied feed
  unfold LoopState.denialEnded
  cases hhook : x.hook with
  | offhook => exact { enterActive_feedAgrees (x := x) (by simp [hhook]) ring tx test h.auto h.lost with }
  | onhook => exact { enterIdle_feedAgrees hhook ring tx test h.auto h.lost with }
  | brk => exact absurd hhook hbreak

/-- The end of a tone clears what goes with its kind (R158). -/
theorem toneOver_feedAgrees {x : LoopState} (h : FeedAgrees x) (cause : ToneCause) (moment : Word) :
    FeedAgrees (x.toneOver cause moment) := by
  unfold LoopState.toneOver
  split
  · exact h
  · next t ht =>
    have hauto := h.auto
    have hlost := h.lost
    simp only [ht, Option.some.injEq, exists_eq_left'] at hauto hlost
    cases hkind : t.kind <;> simp only [hkind, reduceCtorEq, iff_false, imp_false] at hauto hlost ⊢
    case requested => exact { h with auto := by simpa using hauto, lost := by simpa using hlost }
    case auto => exact { h with auto := by simp, lost := by simpa using hlost }
    case parkLost =>
      have hsilent : FeedAgrees { x with player := none, lostDenial := none } :=
        { h with auto := by simpa using hauto, lost := by simp }
      cases x.lostDenial with
      | none => exact { h with auto := by simpa using hauto, lost := by simp }
      | some ms =>
        dsimp only
        split
        · next hactive =>
          simp only [Bool.and_eq_true, beq_iff_eq] at hactive
          exact enterDenied_feedAgrees hsilent (.inr hactive.2) moment ms
        · exact hsilent

/-- A key heard on the line is judged in ACTIVE alone (R122). -/
theorem hearKey_feedAgrees {x : LoopState} (h : FeedAgrees x) (now : Word) : FeedAgrees (x.hearKey now) := by
  unfold LoopState.hearKey
  split
  · next hactive => exact { h with digits := fun hfeed => absurd (by simpa using hactive) hfeed }
  · exact h

/-- The raw state is no part of the agreement (R112). -/
theorem judge_feedAgrees {x : LoopState} (h : FeedAgrees x) (now : Word) (threshold : Nat) :
    FeedAgrees (x.judge now threshold) := by
  unfold LoopState.judge
  dsimp only
  (repeat' split) <;> exact { h with }

/-- The player and the transmitter past a sample stay what they are (R153, R144). -/
theorem advance_feedAgrees {x : LoopState} (h : FeedAgrees x) (now : Word) : FeedAgrees (x.advance now) := by
  have hkind (t : Tone) : (t.advance now).kind = t.kind := by
    unfold Tone.advance
    (repeat' split) <;> rfl
  have hplayer (k : ToneKind) : (∃ t, x.player.map (Tone.advance now) = some t ∧ t.kind = k)
      ↔ ∃ t, x.player = some t ∧ t.kind = k := by
    cases x.player <;> simp [hkind]
  exact
    { h with
      sending := by simpa [LoopState.advance] using h.sending
      auto := h.auto.trans (hplayer .auto).symm
      lost := fun hlost => (hplayer .parkLost).mpr (h.lost hlost) }

theorem sampled_feedAgrees {x : LoopState} (h : FeedAgrees x) (now : Word) (codec : Sample) (m : MixSample)
    (threshold : Nat) : FeedAgrees (x.sampled now codec m threshold) := by
  refine hearKey_feedAgrees (judge_feedAgrees ?_ now threshold) now
  have hadvanced : FeedAgrees (({ x with codec := codec } : LoopState).advance now) :=
    advance_feedAgrees (x := { x with codec := codec }) { h with } now
  unfold LoopState.putMix
  dsimp only
  split <;> exact { hadvanced with }

/-- The close and the start of a step leave a record's caller state (R132, R135). -/
theorem turnStep_callerState (r : RingRecord) (i j : Nat) : ((r.closeStep i).start j).callerState = r.callerState := by
  unfold RingRecord.start RingRecord.closeStep RingRecord.endPeriod
  dsimp only
  (repeat' split) <;> rfl

theorem turnStep_feedAgrees {x : LoopState} (h : FeedAgrees x) (index : Nat) : FeedAgrees (x.turnStep index) := by
  cases hring : x.ring with
  | none =>
    have heq : x.turnStep index = x := by
      cases x
      cases hring
      rfl
    rw [heq]
    exact h
  | some r =>
    have hcaller := h.caller r hring
    have hwaiting := h.waiting r hring
    have hsome := h.ring
    simp only [LoopState.turnStep, hring, Option.map_some]
    exact
      { h with
        ring := by simpa [hring] using hsome
        caller := by simpa [turnStep_callerState] using hcaller
        waiting := by simpa [turnStep_callerState] using hwaiting }

/-- A granted step rings a loop that is RINGING, with no caller wait running (R137, R138); a wait begins only with the
step not rung (R139). -/
theorem settle_feedAgrees {x : LoopState} (h : FeedAgrees x) {index : Nat} {granted : Bool}
    (wanted : granted = true → ∃ r, x.ring = some r ∧ r.wants index = true) (waitEnd : Word) :
    FeedAgrees (x.settle index granted waitEnd) := by
  unfold LoopState.settle
  split
  · exact h
  · next r hr =>
    have hcaller := h.caller r hr
    have hring := h.ring
    have hbusy : granted = true → r.callerState ≠ .waiting ∧ r.callerState ≠ .sending := by
      intro hg
      obtain ⟨r', hr', hwants⟩ := wanted hg
      cases hr.symm.trans hr'
      simp only [RingRecord.wants, RingRecord.callerBusy, Bool.and_eq_true, Bool.not_eq_true', Bool.or_eq_false_iff,
        beq_eq_false_iff_ne] at hwants
      exact hwants.2
    have hstep : (r.settleStep index granted).callerState = r.callerState := by
      unfold RingRecord.settleStep
      (repeat' split) <;> rfl
    have hsettled : ((r.settleStep index granted).settleCaller r.wasRung granted waitEnd).callerState = r.callerState
        ∨ granted = false ∧ r.callerState = .awaitRunEnd
          ∧ ((r.settleStep index granted).settleCaller r.wasRung granted waitEnd).callerState = .waiting := by
      unfold RingRecord.settleCaller
      split
      · next hc =>
        simp only [Bool.and_eq_true, beq_iff_eq, Bool.not_eq_true', hstep] at hc
        exact .inr ⟨hc.2, hc.1.1, rfl⟩
      · exact .inl hstep
    refine { h with ring := by simpa [hr] using hring, caller := ?_, signal := ?_, waiting := ?_ }
    · rintro _ ⟨⟩
      obtain e | ⟨-, hawait, e⟩ := hsettled
      · rw [e]; exact hcaller
      · rw [e]
        simpa [hawait] using hcaller
    · intro hg
      have := (hring.mp (by rw [hr]; rfl))
      have := (hbusy hg).2
      tauto
    · rintro _ ⟨⟩ hwaiting
      obtain e | ⟨hg, -, -⟩ := hsettled
      · rw [e] at hwaiting
        by_contra hg
        exact (hbusy (by simpa using hg)).1 hwaiting
      · exact hg

theorem loopMove_feedAgrees {x y : LoopState} (hmove : LoopMove x y) (h : FeedAgrees x) : FeedAgrees y := by
  cases hmove with
  | toneOver cause moment => exact toneOver_feedAgrees h cause moment
  | denied feed start ms => exact enterDenied_feedAgrees h feed start ms
  | denialEnded feed now threshold => exact denialEnded_feedAgrees h feed now threshold
  | current microamps now threshold => exact judge_feedAgrees (x := { x with current := microamps }) { h with } now threshold
  | key k now => exact hearKey_feedAgrees (x := { x with keyPresent := k }) { h with } now
  | turned index => exact turnStep_feedAgrees h index
  | settled wanted waitEnd => exact settle_feedAgrees h wanted waitEnd
  | sampled now codec m threshold => exact sampled_feedAgrees h now codec m threshold
  | leaves | emptyDial | polarity | blockTaken => exact { h with }
  | requested free kind =>
    have hauto := h.auto
    have hlost := h.lost
    exact { h with auto := by simpa [free, kind] using hauto, lost := by simpa [free, kind] using hlost }
  | auto free kind =>
    have hlost := h.lost
    exact { h with auto := by simp [kind], lost := by simpa [free, kind] using hlost }
  | parkLost free kind =>
    have hauto := h.auto
    exact { h with auto := by simpa [free, kind] using hauto, lost := by simp [kind] }
  | counted => exact { h with digits := fun hfeed => ⟨(h.digits hfeed).1, rfl⟩ }
  | seized feed =>
    obtain ⟨ring, tx, -⟩ := h.noRing (by tauto)
    exact enterActive_feedAgrees (x := { x with hook := .offhook, pulses := 0 }) (by simp) ring tx
      (h.noTest (by simp [feed])) h.auto h.lost
  | seizedInTest feed =>
    obtain ⟨ring, tx, -⟩ := h.noRing (by tauto)
    exact enterActive_feedAgrees
      (x := { x with test := { x.test with phase := .none }, hook := .offhook, pulses := 0 }) (by simp) ring tx rfl
      h.auto h.lost
  | tripped feed =>
    exact enterActive_feedAgrees (x := { x.dropRing with hook := .offhook, pulses := 0 }) (by simp) rfl rfl
      (h.noTest (by obtain e | e := feed <;> simp [e])) h.auto h.lost
  | offhook feed =>
    refine { h with onhook := fun hfeed => ?_, active := by simp, denied := by simp }
    obtain e | e := feed <;> simp [e] at hfeed
  | broken hook feed =>
    have hactive : x.feed = .active := by
      have honhook := h.onhook
      cases hfeed : x.feed <;> simp_all
    exact { h with onhook := by simp [hactive], active := by simp, denied := by simp [hactive] }
  | returned hook | ignored hook =>
    exact { h with onhook := by simp [h.active_of_break hook], active := by simp, denied := by simp }
  | pulse hook =>
    have hactive := h.active_of_break hook
    exact
      { h with
        onhook := by simp [hactive], active := by simp, denied := by simp
        digits := fun hfeed => absurd hactive hfeed }
  | hungUp hook =>
    have hactive := h.active_of_break hook
    obtain ⟨ring, tx, -⟩ := h.noRing (by tauto)
    exact enterIdle_feedAgrees (x := { x.emptyDial with hook := .onhook }) rfl ring tx
      (h.noTest (by simp [hactive])) h.auto h.lost
  | digit feed => exact { h with digits := fun hfeed => absurd feed hfeed }
  | rung feed caller =>
    obtain ⟨-, tx, signal⟩ := h.noRing (by tauto)
    have honhook := h.onhook (.inl feed)
    have hdigits := h.digits (by simp [feed])
    have htest := h.noTest (by simp [feed])
    exact
      { h with
        onhook := fun _ => honhook, active := by simp, denied := by simp, ring := by simp, sending := by simp [tx]
        caller := by simpa using caller.1, signal := by simp, waiting := by simp [signal], test := by simp [htest]
        digits := fun _ => hdigits }
  | rungInTest feed caller =>
    obtain ⟨-, tx, signal⟩ := h.noRing (by tauto)
    have honhook := h.onhook (by tauto)
    have hdigits := h.digits (by simp [feed])
    exact
      { h with
        onhook := fun _ => honhook, active := by simp, denied := by simp, ring := by simp, sending := by simp [tx]
        caller := by simpa using caller.1, signal := by simp, waiting := by simp [signal], test := by simp
        digits := fun _ => hdigits }
  | testBegun feed =>
    obtain ⟨ring, tx, signal⟩ := h.noRing (by tauto)
    have honhook := h.onhook (.inl feed)
    have hdigits := h.digits (by simp [feed])
    exact
      { h with
        onhook := fun _ => honhook, active := by simp, denied := by simp, ring := by simp [ring]
        sending := by simp [tx], caller := by simp [ring], signal := by simp [signal], waiting := by simp [ring]
        test := by simp [LineTest.begun], digits := fun _ => hdigits }
  | refEnded phase =>
    have htesting := h.test.mp (by simp [phase])
    exact { h with test := by simp [LineTest.refEnded, htesting] }
  | tested phase n load =>
    have htesting := h.test.mp (by simp [phase])
    obtain ⟨ring, tx, -⟩ := h.noRing (by tauto)
    exact enterIdle_feedAgrees (x := { x with test := { x.test with phase := .none, nLoop := n, load := load } })
      (h.onhook (by tauto)) ring tx rfl h.auto h.lost
  | ringDropped ring =>
    have hfeed := h.ring.mp ring
    exact enterIdle_feedAgrees (x := x.dropRing) (h.onhook (by tauto)) rfl rfl
      (h.noTest (by obtain e | e := hfeed <;> simp [e])) h.auto h.lost
  | transmits ring feed caller t =>
    have honhook := h.onhook (by tauto)
    have hdigits := h.digits (by simp [feed])
    have hsignal := h.waiting _ ring caller
    have htest := h.noTest (by simp [feed])
    exact
      { h with
        onhook := fun _ => honhook, active := by simp, denied := by simp, ring := by simp, sending := by simp
        caller := by simp, signal := by simp [hsignal], waiting := by simp, test := by simp [htest]
        digits := fun _ => hdigits }
  | transmitted ring caller =>
    have hfeed := (h.caller _ ring).mp caller
    have honhook := h.onhook (by tauto)
    have hdigits := h.digits (by simp [hfeed])
    have htest := h.noTest (by simp [hfeed])
    exact
      { h with
        onhook := fun _ => honhook, active := by simp, denied := by simp, ring := by simp, sending := by simp
        caller := by simp, signal := by simp, waiting := by simp, test := by simp [htest], digits := fun _ => hdigits }
  | ownerDown p =>
    unfold LoopState.ownerDown
    split
    · next r hr =>
      split
      · have hring := h.ring
        exact
          { h with
            ring := by simpa [hr] using hring, caller := by simpa using h.caller r hr
            waiting := by simpa using h.waiting r hr }
      · exact h
    · exact h

theorem dialDigit_feedAgrees {x : LoopState} (d : Byte) (h : FeedAgrees x) : FeedAgrees (x.dialDigit d) := by
  unfold LoopState.dialDigit
  split <;> exact { h with }

/-- Settles O7: every move of a loop keeps the agreement, and the state after a reset has it. -/
theorem feedAgreementKept : Obligations.FeedAgreementKept := by
  intro s t hs h
  refine step_keeps_loops loopMove_feedAgrees dialDigit_feedAgrees ?_ hs h
  intro now threshold current key start codec load block _
  constructor <;> simp [LoopState.afterReset, LineTest.cleared]

end Sys2Proof.Machine

namespace Sys2Proof.Machine

/-! ### The channels after a return to IDLE -/

/-- The channels that stay on a loop when one leaves it. -/
def State.others (s : State) (c : Chan) : List Chan := (s.attached (s.chan c).loop).filter (· != c)

/-- The channel the lead passes to when a channel returns to IDLE (R6). -/
def State.successor (s : State) (c : Chan) : Option Chan := if (s.chan c).lead then (s.others c).head? else none

/-- The attached channels of a loop depend on the channels' states and loops alone. -/
theorem State.attached_congr {s t : State} (h : ∀ c, (t.chan c).state = (s.chan c).state ∧ (t.chan c).loop = (s.chan c).loop)
    (l : Loop) : t.attached l = s.attached l := by
  unfold State.attached
  refine List.filter_congr fun c _ => ?_
  obtain ⟨hstate, hloop⟩ := h c
  rw [Channel.attachedTo, Channel.attachedTo, hstate, hloop]

/-- The lead given to the first of a loop's channels. -/
theorem State.passLead_chan (s : State) (l : Loop) (d : Chan) :
    (s.passLead l).chan d = if (s.attached l).head? = some d then { s.chan d with lead := true } else s.chan d := by
  unfold State.passLead
  cases h : s.attached l with
  | nil => simp
  | cons c rest =>
    rw [State.chan_modChan]
    simp only [List.head?_cons, Option.some.injEq, eq_comm]

/-- A channel's return to IDLE: its own context is closed, and the lead may pass to another (R6, R16). -/
theorem State.toIdle_chan (s : State) (c d : Chan) :
    (s.toIdle c).chan d
      = if d = c then (s.chan c).closed
        else if s.successor c = some d then { s.chan d with lead := true } else s.chan d := by
  let u : State :=
    let t := ((s.modPool (Pool.giveBackN s.reserves c (s.chan c).blocksHeld)).modChan c Channel.closed).modLoop
      (s.chan c).loop (LoopState.channelLeaves c (s.chan c).voice)
    { t with ports := t.ports.map (PortState.staleMedia c) }
  have hu (d : Chan) : u.chan d = if d = c then (s.chan d).closed else s.chan d := by
    show ((s.modPool _).modChan c Channel.closed).chan d = _
    rw [State.chan_modChan, State.chan_modPool]
  have hattached : u.attached (s.chan c).loop = s.others c := by
    unfold State.others State.attached
    rw [List.filter_filter]
    refine List.filter_congr fun d _ => ?_
    rw [hu d]
    by_cases hd : d = c <;> simp [hd, Channel.attachedTo, Channel.closed]
  have htoIdle : s.toIdle c = if (s.chan c).lead then u.passLead (s.chan c).loop else u := rfl
  rw [htoIdle]
  by_cases hlead : (s.chan c).lead = true
  · rw [if_pos hlead, State.passLead_chan, hattached, hu]
    simp only [State.successor, hlead, if_true]
    by_cases hd : d = c
    · subst hd
      have hnot : (s.others d).head? ≠ some d := by
        intro h
        have := List.mem_of_mem_head? h
        simp [State.others] at this
      simp [hnot]
    · simp [hd]
  · rw [if_neg hlead, hu]
    simp only [State.successor, hlead]
    by_cases hd : d = c <;> simp [hd]

/-- A property of the channels that survives a change of one of them with the pool. -/
theorem State.forall_chan_modChanPool {P : Channel → Prop} {s : State} {c : Chan} {f : ChanPool → ChanPool}
    (hs : ∀ d, P (s.chan d)) (hf : P (f (s.chan c, s.pool)).1) (d : Chan) : P ((s.modChanPool c f).chan d) := by
  rw [State.chan_modChanPool]
  split
  · exact hf
  · exact hs d

/-- A property of channels that their moves, the pool's moves, OPEN and the return to IDLE keep, a move of the part keeps.
-/
theorem Move.chans {P : Channel → Prop} (move : ∀ {x y}, ChanMove x y → P x → P y)
    (rebind : ∀ {up x y}, Rebind up x y → P x → P y)
    (pool : ∀ {res c} {x y : ChanPool}, PoolMove res c x y → P x.1 → P y.1)
    (closed : ∀ {x}, P x → P x.closed) (lead : ∀ {x : Channel}, P x → P { x with lead := true })
    (opened : ∀ {x} p o template first b, P x → P (x.opened p o template first b)) {s t : State} (h : Move s t)
    (hs : ∀ c, P (s.chan c)) : ∀ c, P (t.chan c) := by
  cases h with
  | aside chans _ _ _ _ _ => exact fun c => by rw [State.chan, chans]; exact hs c
  | chan h => exact State.forall_chan_modChan hs (move h (hs _))
  | rebind h => exact State.forall_chan_modChan hs (rebind h (hs _))
  | pool h => exact State.forall_chan_modChanPool hs (pool h (hs _))
  | toIdle c =>
    intro d
    rw [State.toIdle_chan]
    (repeat' split)
    · exact closed (hs c)
    · exact lead (hs d)
    · exact hs d
  | setUp =>
    unfold State.setUp
    dsimp only
    split <;> exact State.forall_chan_modChan hs (opened _ _ _ _ _ (hs _))
  | port | loop | dial | ringRefused | stored | gains | program | loaded => exact hs

/-- A property of channels that moves, arriving media and the resets keep, every step keeps. -/
theorem step_keeps_chans {P : Channel → Prop} (move : ∀ {x y}, ChanMove x y → P x → P y)
    (rebind : ∀ {up x y}, Rebind up x y → P x → P y)
    (pool : ∀ {res c} {x y : ChanPool}, PoolMove res c x y → P x.1 → P y.1)
    (media : ∀ res c arrival m (x : ChanPool), (∀ a ∈ m.arrivals, a.samples.length = 80) → P x.1 →
      P (playMedia res c arrival m x).1)
    (closed : ∀ {x}, P x → P x.closed) (lead : ∀ {x : Channel}, P x → P { x with lead := true })
    (opened : ∀ {x} p o template first b, P x → P (x.opened p o template first b)) (fresh : ∀ set, P (.afterReset set))
    {s t : State} (hs : ∀ c, P (s.chan c)) (h : step s = .next t) (c : Chan) : P (t.chan c) := by
  obtain ⟨q, hcourse⟩ := step_course h
  refine hcourse.keep (I := fun s => ∀ c, P (s.chan c))
    (fun hmove hs => hmove.chans move rebind pool closed lead opened hs) (fun s p f hs => hs)
    (fun _ hwhole hs => State.forall_chan_modChanPool hs (media _ _ _ _ _ hwhole (hs _))) ?reset hs c
  case reset =>
    intro s t hfresh _ c
    obtain ⟨set, hset⟩ := hfresh.chans c
    exact hset ▸ fresh set

/-! ### The bounds (O8) -/

/-- The windows' restart keeps the bounds (R70). -/
theorem restart_timingBounds {t : Timing} (h : TimingBounds t) : TimingBounds t.restart := { h with }

theorem clampInt_mem {lo hi : Int} (h : lo ≤ hi) (v : Int) : lo ≤ clampInt lo hi v ∧ clampInt lo hi v ≤ hi := by
  unfold clampInt
  omega

/-- A block handed to TRU keeps the bounds (R66 to R69). -/
theorem take_timingBounds {t : Timing} (h : TimingBounds t) (set : ChannelSettings) (q : Nat) (stamp arrival : Word) :
    TimingBounds (t.take set q stamp arrival).1 := by
  unfold Timing.take
  dsimp only
  split
  · exact { h with }
  · next w _ =>
    split
    · refine { h with est := ?_, corr := clampInt_mem (by omega) _ }
      simp only [Timing.close, driftDecision]
      split
      · exact h.est
      · split
        · exact h.est
        · split
          · exact h.est
          · exact clampInt_mem (by omega) _
    · exact { h with }

/-- A slip keeps the accumulator between its limits (R72). -/
theorem slip_timingBounds {ch : Channel} (h : TimingBounds ch.tru) (block : List Sample) :
    TimingBounds (ch.slip block).2.tru := by
  obtain ⟨hest, hacc, hcorr⟩ := h
  unfold Channel.slip
  dsimp only
  split
  · exact ⟨hest, by constructor <;> dsimp only <;> omega, hcorr⟩
  · split
    · exact ⟨hest, by constructor <;> dsimp only <;> omega, hcorr⟩
    · exact ⟨hest, by constructor <;> dsimp only <;> omega, hcorr⟩

end Sys2Proof.Machine

namespace Sys2Proof.Machine

/-! ### The pool's counts under grants and returns (R28, R29, R31) -/

/-- Where the free blocks are, for what the channels hold (R28). -/
structure Pool.Fits (res : PerChan Nat) (b : Pool) : Prop where
  free : ∀ c, b.free.get c = res.get c - b.held.get c
  shared : b.shared + res.total + PerChan.excess b.held res = 256

/-- One channel's part of the excess changes with what it holds. -/
theorem PerChan.excess_put (held res : PerChan Nat) (c : Chan) (n : Nat) :
    PerChan.excess (held.put c n) res + (held.get c - res.get c) = PerChan.excess held res + (n - res.get c) := by
  cases c <;> simp only [PerChan.excess, PerChan.put, PerChan.get] <;> omega

/-- A grant keeps the counts, and the channel holds one block more (R29). -/
theorem Pool.Fits.grant {res : PerChan Nat} {c : Chan} {b b' : Pool} (h : b.Fits res) (hg : b.grant res c = some b') :
    b'.Fits res ∧ b'.held = b.held.put c (b.held.get c + 1) := by
  have hexcess := PerChan.excess_put b.held res c (b.held.get c + 1)
  have hshared := h.shared
  have hfree := h.free
  obtain ⟨hlt, rfl⟩ | ⟨hge, hpos, rfl⟩ := Pool.grant_some_cases hg
  · refine ⟨⟨fun d => ?_, by dsimp only; omega⟩, rfl⟩
    have := hfree d
    dsimp only
    rw [PerChan.get_put, PerChan.get_put]
    split <;> first | (subst d; omega) | exact this
  · refine ⟨⟨fun d => ?_, by dsimp only; omega⟩, rfl⟩
    have := hfree d
    dsimp only
    rw [PerChan.get_put]
    split <;> first | (subst d; omega) | exact this

/-- A return keeps the counts, and the channel holds one block less (R31). -/
theorem Pool.Fits.giveBack {res : PerChan Nat} {c : Chan} {b : Pool} (h : b.Fits res) (hpos : 1 ≤ b.held.get c) :
    (b.giveBack res c).Fits res ∧ (b.giveBack res c).held = b.held.put c (b.held.get c - 1) := by
  have hexcess := PerChan.excess_put b.held res c (b.held.get c - 1)
  have hshared := h.shared
  have hfree := h.free
  rcases Nat.lt_or_ge (b.held.get c - 1) (res.get c) with hlt | hge
  · rw [Pool.giveBack_reserve hlt]
    refine ⟨⟨fun d => ?_, by dsimp only; omega⟩, rfl⟩
    have := hfree d
    dsimp only
    rw [PerChan.get_put, PerChan.get_put]
    split <;> first | (subst d; omega) | exact this
  · rw [Pool.giveBack_shared hge]
    refine ⟨⟨fun d => ?_, by dsimp only; omega⟩, rfl⟩
    have := hfree d
    dsimp only
    rw [PerChan.get_put]
    split <;> first | (subst d; omega) | exact this

/-- The return of several blocks (R31). -/
theorem Pool.Fits.giveBackN {res : PerChan Nat} {c : Chan} {n : Nat} {b : Pool} (h : b.Fits res) (hn : n ≤ b.held.get c) :
    (b.giveBackN res c n).Fits res ∧ (b.giveBackN res c n).held = b.held.put c (b.held.get c - n) := by
  induction n generalizing b with
  | zero => exact ⟨h, by simp [Pool.giveBackN]⟩
  | succ n ih =>
    obtain ⟨hfits, hheld⟩ := h.giveBack (c := c) (by omega)
    obtain ⟨hfits', hheld'⟩ := ih hfits (by rw [hheld, PerChan.get_put_same]; omega)
    refine ⟨hfits', ?_⟩
    rw [Pool.giveBackN, hheld', hheld, PerChan.get_put_same, PerChan.put_put, Nat.sub_sub, Nat.add_comm 1 n]

/-- A run of grants (R30). -/
theorem Pool.Fits.grantRun {res : PerChan Nat} {c : Chan} {n : Nat} {b : Pool} (h : b.Fits res) :
    (b.grantRun res c n).2.Fits res
      ∧ (b.grantRun res c n).2.held = b.held.put c (b.held.get c + (b.grantRun res c n).1) := by
  induction n generalizing b with
  | zero => exact ⟨h, by simp [Pool.grantRun]⟩
  | succ n ih =>
    unfold Pool.grantRun
    split
    · exact ⟨h, by simp⟩
    · next b' hb' =>
      obtain ⟨hfits, hheld⟩ := h.grant hb'
      obtain ⟨hfits', hheld'⟩ := ih hfits
      refine ⟨hfits', ?_⟩
      dsimp only
      rw [hheld', hheld, PerChan.get_put_same, PerChan.put_put]
      congr 1
      omega

/-- A history ring granted: the channel holds its blocks (R4, R30). -/
theorem Pool.Fits.grantRing {res : PerChan Nat} {c : Chan} {n : Nat} {b b' : Pool} (h : b.Fits res)
    (hg : (b.grantRing res c n).1 = some b') : b'.Fits res ∧ b'.held = b.held.put c (b.held.get c + n) := by
  have hrun := h.grantRun (c := c) (n := n)
  simp only [Pool.grantRing] at hg
  split at hg
  · next hn =>
    cases hg
    rw [hn] at hrun
    exact hrun
  · cases hg

/-- A history ring refused: what had been granted is back (R30). -/
theorem Pool.Fits.grantRing_refused {res : PerChan Nat} {c : Chan} {n : Nat} {b : Pool} (h : b.Fits res)
    (hg : (b.grantRing res c n).1 = none) : (b.grantRing res c n).2.Fits res ∧ (b.grantRing res c n).2.held = b.held := by
  obtain ⟨hfits, hheld⟩ := h.grantRun (c := c) (n := n)
  simp only [Pool.grantRing] at hg ⊢
  split at hg
  · cases hg
  · next hn =>
    rw [if_neg hn]
    obtain ⟨hfits', hheld'⟩ := hfits.giveBackN (c := c) (n := (b.grantRun res c n).1)
      (by rw [hheld, PerChan.get_put_same]; omega)
    refine ⟨hfits', ?_⟩
    rw [hheld', hheld, PerChan.get_put_same, PerChan.put_put, Nat.add_sub_cancel, PerChan.put_get]

/-! ### What playout and media do to a channel and the pool -/

/-- The channel holds the blocks of its queue and its ring (R27). -/
def Holds (c : Chan) (x : ChanPool) : Prop := x.2.held.get c = x.1.pe.queue.length + x.1.uf.ringSize

/-- A channel's target lies between its depths (R52). -/
def Channel.targetHeld (ch : Channel) : Prop :=
  ch.settings.depthMin ≤ ch.tru.target ∧ ch.tru.target ≤ ch.settings.depthMax

/-- A change of a channel's playout, timing and statistics with the pool: the timing keeps its bounds (R72) and the
target its depths (R52), the pool its accounts (R27, R28), the rest stays. -/
structure Shift (res : PerChan Nat) (c : Chan) (x y : ChanPool) : Prop where
  frame : y.1 = { x.1 with pe := y.1.pe, tru := y.1.tru, stats := y.1.stats }
  target : x.1.settings.depthMin ≤ x.1.settings.depthMax → x.1.targetHeld → y.1.targetHeld
  timing : TimingBounds x.1.tru → TimingBounds y.1.tru
  accounts : x.2.Fits res → Holds c x → y.2.Fits res ∧ Holds c y ∧ y.2.held = x.2.held.put c (y.2.held.get c)

section
variable {res : PerChan Nat} {c : Chan} {x y z : ChanPool}

theorem Shift.refl (x : ChanPool) : Shift res c x x := ⟨rfl, fun _ h => h, id, fun h hx => ⟨h, hx, by simp⟩⟩

theorem Shift.settings (h : Shift res c x y) : y.1.settings = x.1.settings := by rw [h.frame]

theorem Shift.uf (h : Shift res c x y) : y.1.uf = x.1.uf := by rw [h.frame]

theorem Shift.state (h : Shift res c x y) : y.1.state = x.1.state := by rw [h.frame]

theorem Shift.trans (h : Shift res c x y) (h' : Shift res c y z) : Shift res c x z where
  frame := by
    rw [h'.frame, h.frame]
  target hmin hx := h'.target (by rw [h.settings]; exact hmin) (h.target hmin hx)
  timing hx := h'.timing (h.timing hx)
  accounts hx hheld := by
    obtain ⟨hy, hholds, hput⟩ := h.accounts hx hheld
    obtain ⟨hz, hholds', hput'⟩ := h'.accounts hy hholds
    exact ⟨hz, hholds', by rw [hput', hput, PerChan.put_put, PerChan.get_put_same]⟩

/-- A change of the playout but for its queue's length, and of the statistics. -/
theorem Shift.of_queue_length {pe : Playout} (h : pe.queue.length = x.1.pe.queue.length) (st : Stats) :
    Shift res c x ({ x.1 with pe := pe, stats := st }, x.2) where
  frame := rfl
  target _ hx := hx
  timing := id
  accounts hx hheld := ⟨hx, by simpa [Holds, h] using hheld, by simp⟩

/-- A change of the playout but for its queue's length, and of the statistics, from its frame. -/
theorem Shift.of_frame (frame : y.1 = { x.1 with pe := y.1.pe, stats := y.1.stats }) (pool : y.2 = x.2)
    (length : y.1.pe.queue.length = x.1.pe.queue.length) : Shift res c x y := by
  obtain ⟨ch, b⟩ := y
  dsimp only at frame pool length
  rw [frame, pool]
  exact Shift.of_queue_length length _

/-- A change of the statistics alone. -/
theorem Shift.of_stats (st : Stats) : Shift res c x ({ x.1 with stats := st }, x.2) := Shift.of_queue_length rfl st

/-- A change of the timing that keeps its bounds and its target, and of the statistics. -/
theorem Shift.of_timing {t : Timing} (ht : TimingBounds x.1.tru → TimingBounds t)
    (htarget : x.1.settings.depthMin ≤ x.1.settings.depthMax → x.1.targetHeld →
      x.1.settings.depthMin ≤ t.target ∧ t.target ≤ x.1.settings.depthMax) (st : Stats) :
    Shift res c x ({ x.1 with tru := t, stats := st }, x.2) where
  frame := rfl
  target := htarget
  timing := ht
  accounts hx hheld := ⟨hx, hheld, by simp⟩

/-- The windows restarted (R70). -/
theorem Shift.of_restart : Shift res c x ({ x.1 with tru := x.1.tru.restart }, x.2) :=
  Shift.of_timing restart_timingBounds (fun _ h => h) _

/-- Some entries leave the queue and as many blocks go back (R31). -/
theorem Shift.of_return {pe : Playout} {n : Nat} (hn : pe.queue.length + n = x.1.pe.queue.length) (st : Stats) :
    Shift res c x ({ x.1 with pe := pe, stats := st }, x.2.giveBackN res c n) where
  frame := rfl
  target _ hx := hx
  timing := id
  accounts hx hheld := by
    obtain ⟨hfits, hput⟩ := hx.giveBackN (c := c) (n := n) (by unfold Holds at hheld; omega)
    refine ⟨hfits, ?_, by rw [hput, PerChan.get_put_same]⟩
    simp only [Holds, hput, PerChan.get_put_same] at hheld ⊢
    omega

theorem freeEntries_shift (gone : QEntry → Bool) (x : ChanPool) : Shift res c x (freeEntries res c gone x) := by
  refine Shift.of_return ?_ x.1.stats
  have := x.1.pe.queue.length_eq_length_filter_add gone
  rw [List.countP_eq_length_filter]
  dsimp only
  omega

@[simp] theorem insertEntry_length (anchor : Half) (e : QEntry) (q : List QEntry) :
    (insertEntry anchor e q).length = q.length + 1 := by
  induction q with
  | nil => rfl
  | cons x rest ih =>
    unfold insertEntry
    split <;> simp [ih]

theorem storeBlock_shift (seq : Half) (samples : List Sample) (x : ChanPool) :
    Shift res c x (storeBlock res c seq samples x).1 := by
  unfold storeBlock
  split
  · exact Shift.of_stats _
  · next b hb =>
    refine ⟨rfl, fun _ h => h, id, fun hx hheld => ?_⟩
    obtain ⟨hfits, hput⟩ := hx.grant hb
    refine ⟨hfits, ?_, by rw [hput, PerChan.get_put_same]⟩
    simp only [Holds, hput, PerChan.get_put_same, insertEntry_length] at hheld ⊢
    omega

theorem dropOldEpoch_shift (x : ChanPool) : Shift res c x (dropOldEpoch res c x) := by
  unfold dropOldEpoch
  dsimp only
  split
  · exact (freeEntries_shift _ x).trans (Shift.of_stats _)
  · exact .refl x

@[simp] theorem Playout.adoptArrivalEpoch_queue (pe : Playout) : pe.adoptArrivalEpoch.queue = pe.queue := by
  unfold Playout.adoptArrivalEpoch
  (repeat' split) <;> rfl

theorem resync_shift (seq : Half) (samples : List Sample) (x : ChanPool) :
    Shift res c x (resync res c seq samples x) := by
  unfold resync
  dsimp only
  refine (dropOldEpoch_shift x).trans (.trans ?_ ((storeBlock_shift seq samples _).trans
    (Shift.of_timing restart_timingBounds (fun _ h => h) _)))
  exact Shift.of_queue_length (by simp) _

theorem overrunAdvance_shift (seq : Half) (x : ChanPool) : Shift res c x (overrunAdvance res c seq x) := by
  unfold overrunAdvance
  dsimp only
  exact (freeEntries_shift _ x).trans (Shift.of_frame rfl rfl rfl)

/-- The target of a close lies between the depths (R66). -/
theorem take_target {t : Timing} {set : ChannelSettings} (hmin : set.depthMin ≤ set.depthMax)
    (h : set.depthMin ≤ t.target ∧ t.target ≤ set.depthMax) (q : Nat) (stamp arrival : Word) :
    set.depthMin ≤ (t.take set q stamp arrival).1.target ∧ (t.take set q stamp arrival).1.target ≤ set.depthMax := by
  unfold Timing.take
  dsimp only
  (repeat' split)
  · exact h
  · simp only [Timing.close, closeTarget, clampNat]
    omega
  · exact h

theorem handOver_shift (arrival : Word) (a : Arrival) (x : ChanPool) : Shift res c x (handOver arrival a x) := by
  unfold handOver
  split
  · exact Shift.of_timing (fun h => take_timingBounds h _ _ _ _) (fun hmin h => take_target hmin h _ _ _) _
  · exact .refl x

theorem storeArrival_shift (arrival : Word) (a : Arrival) (x : ChanPool) :
    Shift res c x (storeArrival res c arrival a x) := by
  unfold storeArrival
  dsimp only
  refine (storeBlock_shift a.seq a.samples x).trans (.trans ?_ (handOver_shift arrival a _))
  split
  · exact Shift.of_stats _
  · exact .refl _

theorem classify_shift (arrival : Word) (x : ChanPool) (a : Arrival) : Shift res c x (classify res c arrival x a) := by
  unfold classify
  dsimp only
  split
  · unfold anchorBlock
    dsimp only
    refine .trans ?_ ((storeBlock_shift _ _ _).trans (handOver_shift _ _ _))
    exact Shift.of_frame rfl rfl rfl
  · split
    · exact (resync_shift _ _ _).trans (handOver_shift _ _ _)
    · split
      · exact Shift.of_stats _
      · split
        · exact Shift.of_stats _
        · split
          · split
            · exact (overrunAdvance_shift _ _).trans (storeArrival_shift _ _ _)
            · exact .trans (Shift.of_stats _) (handOver_shift _ _ _)
          · exact storeArrival_shift _ _ _

/-- A message's arrivals (R42). -/
theorem playMedia_shift (arrival : Word) (m : MediaMsg) (x : ChanPool) :
    Shift res c x (playMedia res c arrival m x) := by
  unfold playMedia
  induction m.arrivals generalizing x with
  | nil => exact .refl x
  | cons a rest ih => exact (classify_shift arrival x a).trans (ih _)

theorem playFrom_shift (e : QEntry) (x : ChanPool) : Shift res c x (x.1.playFrom e, x.2) where
  frame := rfl
  target _ h := by
    unfold Channel.playFrom Channel.targetHeld at *
    dsimp only
    split <;> exact h
  timing h := by
    unfold Channel.playFrom
    dsimp only
    split
    · exact h
    · exact restart_timingBounds h
  accounts hx hheld := ⟨hx, hheld, by simp⟩

/-- An entry of a queue that is erased leaves one entry less. -/
theorem erase_length {q : List QEntry} {e : QEntry} (h : e ∈ q) :
    (q.eraseP fun x => x.epoch == e.epoch && x.seq == e.seq).length + 1 = q.length := by
  rw [List.length_eraseP_of_mem h (by simp)]
  have := List.length_pos_of_mem h
  omega

theorem takeEntry_shift {e : QEntry} (h : e ∈ x.1.pe.queue) : Shift res c x (takeEntry res c e x).2 :=
  Shift.of_return (n := 1) (erase_length h) _

theorem missBlock_shift (x : ChanPool) : Shift res c x ((missBlock x.1).2, x.2) := by
  unfold missBlock
  dsimp only
  (repeat' split) <;> exact Shift.of_frame rfl rfl rfl

/-- The entry at next_play is in the queue. -/
theorem Playout.mem_of_atNextPlay {pe : Playout} {e : QEntry} (h : pe.atNextPlay = some e) : e ∈ pe.queue :=
  List.mem_of_find?_eq_some h

theorem takeBlock_shift (x : ChanPool) : Shift res c x (takeBlock res c x).2 := by
  unfold takeBlock
  dsimp only
  split
  · next e he => exact takeEntry_shift (Playout.mem_of_atNextPlay he)
  · split
    · exact missBlock_shift x
    · split
      · next e he =>
        refine (playFrom_shift e x).trans (takeEntry_shift (x := (x.1.playFrom e, x.2)) ?_)
        exact List.mem_of_mem_head? he
      · exact missBlock_shift x

theorem skipNumber_shift {x : ChanPool} (h : x.1.tru.corr < 0) : Shift res c x (skipNumber res c x) := by
  have hcorr : Shift res c x ({ x.1 with tru := { x.1.tru with corr := x.1.tru.corr + 1 } }, x.2) := by
    refine Shift.of_timing (t := { x.1.tru with corr := x.1.tru.corr + 1 }) (fun ht => ?_) (fun _ h => h) x.1.stats
    obtain ⟨hest, hacc, hlow, -⟩ := ht
    exact ⟨hest, hacc, by dsimp only; omega⟩
  unfold skipNumber
  dsimp only
  split
  · next e he => exact hcorr.trans (Shift.of_return (n := 1) (erase_length (Playout.mem_of_atNextPlay he)) _)
  · exact hcorr.trans (Shift.of_frame rfl rfl rfl)

theorem insertSilence_shift {x : ChanPool} (h : 0 < x.1.tru.corr) : Shift res c x ((insertSilence x.1).2, x.2) := by
  refine Shift.of_timing (t := { x.1.tru with corr := x.1.tru.corr - 1 }) (fun ht => ?_) (fun _ h => h)
    (insertSilence x.1).2.stats
  obtain ⟨hest, hacc, -, hhigh⟩ := ht
  exact ⟨hest, hacc, by dsimp only; omega⟩

theorem voiceSteps_shift (silenceLevel : Nat) (judge : Bool) (x : ChanPool) :
    Shift res c x (voiceSteps res c silenceLevel judge x).2 := by
  unfold voiceSteps
  dsimp only
  split
  · next h =>
    simp only [Bool.and_eq_true, decide_eq_true_eq] at h
    exact insertSilence_shift h.2
  · split
    · next h =>
      simp only [Bool.and_eq_true, decide_eq_true_eq] at h
      exact (skipNumber_shift h.2).trans (takeBlock_shift _)
    · exact takeBlock_shift x

theorem skipOldest_shift (x : ChanPool) : Shift res c x (skipOldest res c x) := by
  unfold skipOldest
  split
  · exact .refl x
  · next e rest hq =>
    refine (playFrom_shift e x).trans (Shift.of_return (x := (x.1.playFrom e, x.2)) (n := 1) ?_ _)
    simp [Channel.playFrom, hq]

theorem dataSteps_shift (judge : Bool) (x : ChanPool) : Shift res c x (dataSteps res c judge x).2 := by
  unfold dataSteps
  dsimp only
  split
  · exact Shift.of_stats _
  · split
    · exact (skipOldest_shift x).trans (takeBlock_shift _)
    · exact takeBlock_shift x

theorem slip_shift (block : List Sample) (x : ChanPool) : Shift res c x ((x.1.slip block).2, x.2) where
  frame := by
    unfold Channel.slip
    dsimp only
    (repeat' split) <;> rfl
  target _ h := by
    unfold Channel.slip Channel.targetHeld at *
    dsimp only
    (repeat' split) <;> exact h
  timing h := slip_timingBounds h block
  accounts hx hheld := by
    refine ⟨hx, ?_, by simp⟩
    unfold Channel.slip Holds at *
    dsimp only
    (repeat' split) <;> exact hheld

theorem begin_shift (block : List Sample) (peak : Nat) (x : ChanPool) : Shift res c x (x.1.begin block peak, x.2) :=
  Shift.of_frame rfl rfl rfl

theorem finishTick_shift (b : TickBlock) (x : ChanPool) : Shift res c x (finishTick b x.1, x.2) := by
  have hprimed : Shift res c x
      (if rePrimes x.1 b then { x.1 with pe := { x.1.pe with playState := .priming } } else x.1, x.2) := by
    split
    · exact Shift.of_frame rfl rfl rfl
    · exact .refl x
  unfold finishTick
  dsimp only
  split
  · exact hprimed.trans ((slip_shift b.samples _).trans (begin_shift _ _ _))
  · exact hprimed.trans (begin_shift _ _ _)

theorem playingTick_shift (silenceLevel : Nat) (judge : Bool) (x : ChanPool) :
    Shift res c x (playingTick res c silenceLevel judge x) := by
  unfold playingTick
  dsimp only
  split
  · exact (voiceSteps_shift silenceLevel judge x).trans (finishTick_shift _ _)
  · exact (dataSteps_shift judge x).trans (finishTick_shift _ _)

theorem startPlaying_shift (e : QEntry) (x : ChanPool) : Shift res c x (x.1.startPlaying e, x.2) :=
  (playFrom_shift e x).trans (Shift.of_frame rfl rfl rfl)

theorem tickBlock_shift (silenceLevel : Nat) (x : ChanPool) : Shift res c x (tickBlock res c silenceLevel x) := by
  unfold tickBlock
  split
  · exact playingTick_shift _ _ _
  · split
    · unfold primingTick
      split
      · exact begin_shift _ _ _
      · split
        · exact begin_shift _ _ _
        · exact (startPlaying_shift _ x).trans (playingTick_shift _ _ _)
    · exact playingTick_shift _ _ _

theorem discardBeyond_shift (depthMax : Nat) (x : ChanPool) : Shift res c x (discardBeyond res c depthMax x) := by
  unfold discardBeyond
  dsimp only
  exact (freeEntries_shift _ x).trans (Shift.of_stats _)

end
end Sys2Proof.Machine

namespace Sys2Proof.Machine

/-! ### A setting changed on an open channel -/

/-- What a CHANNEL_SET does to a channel before it discards the entries beyond a smaller maximum depth (R52). -/
def Channel.changed (k : TemplateKey) (new : ChannelSettings) (ch : Channel) : Channel :=
  { ch with settings := new, tru := { ch.tru with target := adjustedTarget k ch.settings new ch.tru } }

theorem applyChannelSet_shift {res : PerChan Nat} {c : Chan} (k : TemplateKey) (new : ChannelSettings) (x : ChanPool) :
    Shift res c (x.1.changed k new, x.2) (applyChannelSet res c k new x) := by
  unfold applyChannelSet
  dsimp only
  split
  · exact discardBeyond_shift new.depthMax (x.1.changed k new, x.2)
  · exact .refl _

/-- A move of a channel with the pool leaves the channel's ring and its pending notices. -/
theorem PoolMove.same {res : PerChan Nat} {c : Chan} {x y : ChanPool} (h : PoolMove res c x y) :
    y.1.uf = x.1.uf ∧ y.1.notices = x.1.notices := by
  cases h with
  | tick _ silenceLevel => rw [(tickBlock_shift silenceLevel x).frame]; exact ⟨rfl, rfl⟩
  | set => rw [(applyChannelSet_shift _ _ x).frame]; exact ⟨rfl, rfl⟩

theorem PoolMove.timingBounds {res : PerChan Nat} {c : Chan} {x y : ChanPool} (h : PoolMove res c x y)
    (hx : TimingBounds x.1.tru) : TimingBounds y.1.tru := by
  cases h with
  | tick _ silenceLevel => exact (tickBlock_shift silenceLevel x).timing hx
  | set => exact (applyChannelSet_shift _ _ x).timing { hx with }

theorem ChanMove.timingBounds {x y : Channel} (h : ChanMove x y) (hx : TimingBounds x.tru) : TimingBounds y.tru := by
  cases h with
  | toData | toVoice => exact restart_timingBounds hx
  | keepNotice n =>
    unfold Channel.keepNotice
    split <;> exact hx
  | build start samples =>
    unfold Channel.build Channel.putHistory
    dsimp only
    (repeat' split) <;> exact hx
  | sampleTaken =>
    unfold Channel.sampleTaken
    (repeat' split) <;> exact hx
  | stats | det | voice | discardNotices | formed | completed | cut => exact hx

theorem playFrom_timingBounds {ch : Channel} (h : TimingBounds ch.tru) (e : QEntry) : TimingBounds (ch.playFrom e).tru :=
  (playFrom_shift (res := ⟨0, 0, 0, 0⟩) (c := .c0) e (ch, ⟨⟨0, 0, 0, 0⟩, ⟨0, 0, 0, 0⟩, 0⟩)).timing h

theorem Rebind.timingBounds {up : Port → Prop} {x y : Channel} (h : Rebind up x y) (hx : TimingBounds x.tru) :
    TimingBounds y.tru := by
  cases h with
  | claimed => exact restart_timingBounds hx
  | drained _ now =>
    unfold Channel.drained
    split
    · exact playFrom_timingBounds (ch := { x with state := _, drainDeadline := _ }) hx _
    · exact hx
  | fallback | parkFallback | parked => exact hx

/-- The state of a channel without a window keeps the bounds, with an estimate within its limits. -/
theorem cleared_timingBounds {est : Int} (h : -1000 ≤ est ∧ est ≤ 1000) (target : Nat) :
    TimingBounds { Timing.cleared with est := est, target := target } :=
  ⟨h, by simp [Timing.cleared], by simp [Timing.cleared]⟩

theorem timingBounds_kept {s t : State} (hs : ∀ c, TimingBounds (s.chan c).tru) (h : step s = .next t) (c : Chan) :
    TimingBounds (t.chan c).tru :=
  step_keeps_chans (P := fun x => TimingBounds x.tru) (·.timingBounds) (·.timingBounds) (·.timingBounds)
    (fun _ _ arrival m x _ => (playMedia_shift arrival m x).timing) (fun _ => cleared_timingBounds (by simp) 0)
    (fun h => h) (fun _ o _ _ _ _ => cleared_timingBounds (clampInt_mem (by omega) o.driftHint) _)
    (fun _ => cleared_timingBounds (by simp) 0) hs h c

/-! ### The history ring (O8) -/

theorem consecutive_tail {next : Half} {e : HEntry} {l : List HEntry} (h : consecutive next (e :: l)) :
    consecutive next l := by
  cases l with
  | nil => trivial
  | cons f rest => exact h.2

/-- The entry of the next number goes on a consecutive ring (R82). -/
theorem consecutive_append {e : HEntry} {l : List HEntry} (h : consecutive e.seq l) :
    consecutive (e.seq + 1) (l ++ [e]) := by
  induction l with
  | nil => rfl
  | cons f rest ih =>
    cases rest with
    | nil => exact ⟨h, rfl⟩
    | cons g rest => exact ⟨h.1, ih h.2⟩

theorem build_ringOrdered {ch : Channel} (h : RingOrdered ch.uf) (start : Word) (samples : List Sample) :
    RingOrdered (ch.build start samples).uf := by
  obtain ⟨hsize, horder⟩ := h
  have happend := fun l hl =>
    consecutive_append (e := ⟨ch.uf.nextSeq, start + ch.uf.stampOffset, samples⟩) (l := l) hl
  unfold Channel.build Channel.putHistory
  dsimp only
  split
  · next hroom => exact ⟨by simpa using hroom, happend _ horder⟩
  · split
    · next hring => exact ⟨hsize, by rw [hring]; trivial⟩
    · next oldest rest hring =>
      rw [hring] at hsize horder
      have hshifted : (rest ++ [(⟨ch.uf.nextSeq, start + ch.uf.stampOffset, samples⟩ : HEntry)]).length
          ≤ ch.uf.ringSize := by simpa using hsize
      split <;> exact ⟨hshifted, happend _ (consecutive_tail horder)⟩

theorem ChanMove.ringOrdered {x y : Channel} (h : ChanMove x y) (hx : RingOrdered x.uf) : RingOrdered y.uf := by
  cases h with
  | build start samples => exact build_ringOrdered hx start samples
  | keepNotice n =>
    unfold Channel.keepNotice
    split <;> exact hx
  | sampleTaken =>
    unfold Channel.sampleTaken
    (repeat' split) <;> exact hx
  | formed | completed | cut => exact { hx with }
  | stats | det | voice | discardNotices | toData | toVoice => exact hx

theorem drained_uf (now : Word) (ch : Channel) : (ch.drained now).uf = ch.uf := by
  unfold Channel.drained
  split <;> rfl

theorem drained_notices (now : Word) (ch : Channel) : (ch.drained now).notices = ch.notices := by
  unfold Channel.drained
  split <;> rfl

theorem Rebind.ringOrdered {up : Port → Prop} {x y : Channel} (h : Rebind up x y) (hx : RingOrdered x.uf) :
    RingOrdered y.uf := by
  cases h with
  | claimed => exact { hx with }
  | drained => rw [drained_uf]; exact hx
  | fallback | parkFallback | parked => exact hx

/-- A framer without entries. -/
theorem ringOrdered_of_empty {uf : Framer} (h : uf.ring = []) : RingOrdered uf := ⟨by simp [h], by rw [h]; trivial⟩

theorem ringOrdered_kept {s t : State} (hs : ∀ c, RingOrdered (s.chan c).uf) (h : step s = .next t) (c : Chan) :
    RingOrdered (t.chan c).uf :=
  step_keeps_chans (P := fun x => RingOrdered x.uf) (·.ringOrdered) (·.ringOrdered) (fun h hx => h.same.1 ▸ hx)
    (fun _ _ arrival m x _ hx => (playMedia_shift arrival m x).uf ▸ hx) (fun _ => ringOrdered_of_empty rfl)
    (fun h => h) (fun _ _ _ _ _ _ => ringOrdered_of_empty rfl) (fun _ => ringOrdered_of_empty rfl) hs h c

/-! ### The pending notices (O8) -/

theorem ChanMove.notices_le {x y : Channel} (h : ChanMove x y) (hx : x.notices.length ≤ 8) : y.notices.length ≤ 8 := by
  cases h with
  | keepNotice n =>
    unfold Channel.keepNotice
    split <;> simp <;> omega
  | build start samples =>
    unfold Channel.build Channel.putHistory
    dsimp only
    (repeat' split) <;> exact hx
  | sampleTaken =>
    unfold Channel.sampleTaken
    (repeat' split) <;> exact hx
  | discardNotices => exact Nat.zero_le 8
  | stats | det | voice | toData | toVoice | formed | completed | cut => exact hx

theorem Rebind.notices_le {up : Port → Prop} {x y : Channel} (h : Rebind up x y) (hx : x.notices.length ≤ 8) :
    y.notices.length ≤ 8 := by
  cases h with
  | claimed => exact Nat.zero_le 8
  | drained => rw [drained_notices]; exact hx
  | fallback | parkFallback | parked => exact hx

theorem notices_kept {s t : State} (hs : ∀ c, (s.chan c).notices.length ≤ 8) (h : step s = .next t) (c : Chan) :
    (t.chan c).notices.length ≤ 8 :=
  step_keeps_chans (P := fun x => x.notices.length ≤ 8) (·.notices_le) (·.notices_le) (fun h hx => h.same.2 ▸ hx)
    (fun res c arrival m x _ hx => by rw [(playMedia_shift (res := res) (c := c) arrival m x).frame]; exact hx)
    (fun _ => Nat.zero_le 8) (fun h => h) (fun _ _ _ _ _ _ => Nat.zero_le 8) (fun _ => Nat.zero_le 8) hs h c

/-! ### The counts and lists of a loop (O8) -/

/-- Lists and counts that only get shorter keep their limits. -/
theorem LoopBounds.mono {x y : LoopState} (h : LoopBounds x) (dial : y.dial.length ≤ x.dial.length)
    (pulses : y.pulses ≤ x.pulses) (block : y.block.length = x.block.length)
    (closed : ∀ b, y.closed = some b → ∃ a, x.closed = some a ∧ b.mix.length = a.mix.length) : LoopBounds y where
  dial := dial.trans h.dial
  pulses := pulses.trans h.pulses
  block := block ▸ h.block
  closed b hb := by
    obtain ⟨a, ha, hlength⟩ := closed b hb
    exact hlength ▸ h.closed a ha

/-- A change of anything else keeps the limits. -/
theorem LoopBounds.same {x y : LoopState} (h : LoopBounds x) (dial : y.dial = x.dial) (pulses : y.pulses = x.pulses)
    (block : y.block = x.block) (closed : y.closed = x.closed) : LoopBounds y :=
  h.mono (dial ▸ le_rfl) (pulses ▸ le_rfl) (block ▸ rfl) fun b hb => ⟨b, closed ▸ hb, rfl⟩

theorem judge_loopBounds {x : LoopState} (h : LoopBounds x) (now : Word) (threshold : Nat) :
    LoopBounds (x.judge now threshold) := by
  unfold LoopState.judge
  dsimp only
  (repeat' split) <;> exact h.same rfl rfl rfl rfl

theorem hearKey_loopBounds {x : LoopState} (h : LoopBounds x) (now : Word) : LoopBounds (x.hearKey now) := by
  unfold LoopState.hearKey
  split <;> exact h.same rfl rfl rfl rfl

/-- The block closes with its 80th sample (R80). -/
theorem putMix_loopBounds {x : LoopState} (h : LoopBounds x) (now : Word) (m : MixSample) :
    LoopBounds (x.putMix now m) := by
  have hblock := h.block
  unfold LoopState.putMix
  dsimp only
  split
  · refine { h with block := by simp, closed := ?_ }
    intro b hb
    cases hb
    simp only [List.length_append, List.length_singleton]
    omega
  · exact { h with block := by simp only [List.length_append, List.length_singleton]; omega }

theorem enterDenied_loopBounds {x : LoopState} (h : LoopBounds x) (start : Word) (ms : Nat) :
    LoopBounds (x.enterDenied start ms) := { h with pulses := Nat.zero_le 255 }

theorem enterIdle_loopBounds {x : LoopState} (h : LoopBounds x) : LoopBounds x.enterIdle :=
  { h with pulses := Nat.zero_le 255 }

theorem toneOver_loopBounds {x : LoopState} (h : LoopBounds x) (cause : ToneCause) (moment : Word) :
    LoopBounds (x.toneOver cause moment) := by
  unfold LoopState.toneOver
  split
  · exact h
  · next t _ =>
    cases t.kind
    case parkLost =>
      cases x.lostDenial with
      | none => exact h.same rfl rfl rfl rfl
      | some ms =>
        dsimp only
        split
        · exact enterDenied_loopBounds (x := { x with player := none, lostDenial := none }) { h with } _ _
        · exact h.same rfl rfl rfl rfl
    all_goals exact h.same rfl rfl rfl rfl

theorem denialEnded_loopBounds {x : LoopState} (h : LoopBounds x) (now : Word) (threshold : Nat) :
    LoopBounds (x.denialEnded now threshold) := by
  unfold LoopState.denialEnded
  cases x.hook with
  | offhook => exact h.same rfl rfl rfl rfl
  | onhook | brk => exact { enterIdle_loopBounds h with }

theorem LoopMove.loopBounds {x y : LoopState} (hmove : LoopMove x y) (h : LoopBounds x) : LoopBounds y := by
  cases hmove with
  | leaves c v =>
    refine h.mono le_rfl le_rfl (by simp [LoopState.channelLeaves]) fun b hb => ?_
    obtain ⟨a, ha, rfl⟩ := Option.map_eq_some_iff.mp hb
    exact ⟨a, ha, by simp⟩
  | emptyDial => exact { h with dial := Nat.zero_le 32 }
  | toneOver cause moment => exact toneOver_loopBounds h cause moment
  | denied _ start ms => exact enterDenied_loopBounds h start ms
  | denialEnded _ now threshold => exact denialEnded_loopBounds h now threshold
  | current microamps now threshold => exact judge_loopBounds (x := { x with current := microamps }) { h with } now threshold
  | counted | seized | seizedInTest | tripped => exact { h with pulses := Nat.zero_le 255 }
  | pulse _ n since => exact { h with pulses := min_le_right n 255 }
  | hungUp => exact { h with pulses := Nat.zero_le 255, dial := Nat.zero_le 32 }
  | key k now => exact hearKey_loopBounds (x := { x with keyPresent := k }) { h with } now
  | tested => exact { enterIdle_loopBounds h with }
  | ringDropped => exact enterIdle_loopBounds (x := x.dropRing) (h.same rfl rfl rfl rfl)
  | settled _ waitEnd =>
    unfold LoopState.settle
    split <;> exact h.same rfl rfl rfl rfl
  | ownerDown p =>
    unfold LoopState.ownerDown
    (repeat' split) <;> exact h.same rfl rfl rfl rfl
  | blockTaken => exact { h with closed := by simp }
  | sampled now codec m threshold =>
    have hadvanced : LoopBounds (({ x with codec := codec } : LoopState).advance now) := { h with }
    exact hearKey_loopBounds (judge_loopBounds (putMix_loopBounds hadvanced now m) now threshold) now
  | polarity | requested | auto | parkLost | offhook | broken | returned | ignored | digit | rung | rungInTest
    | testBegun | refEnded | turned | transmits | transmitted => exact h.same rfl rfl rfl rfl

theorem dialDigit_loopBounds {x : LoopState} (d : Byte) (h : LoopBounds x) : LoopBounds (x.dialDigit d) := by
  unfold LoopState.dialDigit
  split
  · next hroom => exact { h with dial := by simpa using hroom }
  · exact h.same rfl rfl rfl rfl

theorem loopBounds_kept {s t : State} (hs : ∀ l, LoopBounds (s.loop l)) (h : step s = .next t) (l : Loop) :
    LoopBounds (t.loop l) := by
  refine step_keeps_loops (P := LoopBounds) (·.loopBounds) dialDigit_loopBounds ?_ hs h l
  intro now threshold current key start codec load block hblock
  refine ⟨Nat.zero_le 32, Nat.zero_le 255, ?_, by simp [LoopState.afterReset]⟩
  obtain rfl | ⟨x, hx, rfl⟩ := hblock
  · exact Nat.zero_lt_succ 79
  · exact hx.block

/-- Settles O8. -/
theorem boundsKept : Obligations.BoundsKept :=
  ⟨fun _ _ hs h => timingBounds_kept hs h, fun _ _ hs h => ringOrdered_kept hs h,
    fun _ _ hs hn h => ⟨loopBounds_kept hs h, notices_kept hn h⟩⟩

end Sys2Proof.Machine

namespace Sys2Proof.Machine

/-! ### The profiles of the part (O4, O10) -/

/-- A property of profiles that SET, GAIN and TONE_DEFINE keep, a move keeps of every profile that can be loaded. -/
theorem Move.everyProfile {good : Profile → Prop}
    (stored : ∀ {k : SettingKey} {v : Nat} {g h : Profile}, k.write v g = some h → good g → good h)
    (gains : ∀ {g : Profile} (l : Loop) {rx tx : Nat}, rx ≤ 1024 → tx ≤ 1024 → good g →
      good { g with loop := g.loop.put l { g.loop.get l with rxGain := rx, txGain := tx } })
    (program : ∀ {g : Profile} (n : Fin 8) {r : Program}, ProgramInRange r → good g →
      good { g with programs := g.programs.set n.val r n.isLt })
    (factory : good factoryProfile) {s t : State} (h : Move s t) (hs : s.everyProfile good) : t.everyProfile good := by
  obtain ⟨hlive, hloads⟩ := hs
  cases h with
  | aside _ _ _ _ live store =>
    refine ⟨live ▸ hlive, fun g hg => ?_⟩
    obtain hg | rfl := store g hg
    · exact hloads g hg
    · exact hlive
  | toIdle c =>
    obtain ⟨_, _, _, _, live, store, _⟩ := State.toIdle_untouched s c
    exact ⟨live ▸ hlive, store ▸ hloads⟩
  | setUp =>
    unfold State.setUp
    dsimp only
    split <;> exact ⟨hlive, hloads⟩
  | stored _ write => exact ⟨stored write hlive, hloads⟩
  | gains hrx htx => exact ⟨gains _ hrx htx hlive, hloads⟩
  | program ok => exact ⟨program _ ok hlive, hloads⟩
  | loaded _ slot =>
    obtain slot | rfl := slot
    · exact ⟨hloads _ slot, hloads⟩
    · exact ⟨factory, hloads⟩
  | port | chan | rebind | pool | loop | dial | ringRefused => exact ⟨hlive, hloads⟩

/-- After a reset every profile is one of those before it, or the factory's. -/
theorem FreshFrom.everyProfile {good : Profile → Prop} (factory : good factoryProfile) {s t : State}
    (h : FreshFrom s t) (hs : s.everyProfile good) : t.everyProfile good := by
  obtain ⟨hlive, hloads⟩ := hs
  refine ⟨?_, fun g hg => hloads g (h.store g hg)⟩
  obtain live | live | live := h.live
  · exact live ▸ hlive
  · exact live ▸ factory
  · exact hloads _ live

/-- SET keeps the sum of the reserves within the pool (R34). -/
theorem write_reservesFit {k : SettingKey} {v : Nat} {g h : Profile} (hw : k.write v g = some h) (hg : reservesFit g) :
    reservesFit h := by
  cases k with
  | global k =>
    cases hw
    cases k <;> exact hg
  | reserve c =>
    simp only [SettingKey.write, writeReserve] at hw
    split at hw
    · next hsum => cases hw; exact hsum
    · cases hw
  | loop k l => obtain ⟨_, _, rfl⟩ := Option.map_eq_some_iff.mp hw; exact hg
  | port k p => obtain ⟨_, _, rfl⟩ := Option.map_eq_some_iff.mp hw; exact hg
  | template k => obtain ⟨_, _, rfl⟩ := Option.map_eq_some_iff.mp hw; exact hg

/-- Only the keys of the reserves change them (R34). -/
theorem write_reserve {k : SettingKey} {v : Nat} {g h : Profile} (hw : k.write v g = some h) (hk : k.isReserve = false) :
    h.global.reserve = g.global.reserve := by
  cases k with
  | global k =>
    cases hw
    cases k <;> rfl
  | reserve c => cases hk
  | loop k l => obtain ⟨_, _, rfl⟩ := Option.map_eq_some_iff.mp hw; rfl
  | port k p => obtain ⟨_, _, rfl⟩ := Option.map_eq_some_iff.mp hw; rfl
  | template k => obtain ⟨_, _, rfl⟩ := Option.map_eq_some_iff.mp hw; rfl

theorem factoryProfile_reservesFit : reservesFit factoryProfile := by
  unfold reservesFit
  decide

theorem Move.reservesFit {s t : State} (h : Move s t) (hs : s.everyProfile reservesFit) :
    t.everyProfile Machine.reservesFit :=
  h.everyProfile write_reservesFit (fun _ _ _ _ _ h => h) (fun _ _ _ h => h) factoryProfile_reservesFit hs

/-! ### The accounts of the pool (O4) -/

/-- An IDLE channel holds nothing. -/
def Channel.emptyIdle (ch : Channel) : Prop := ch.state = .idle → ch.pe.queue = [] ∧ ch.uf.ringSize = 0

theorem poolAccounts_iff (s : State) :
    PoolAccounts s ↔ (∀ c, Holds c (s.chan c, s.pool)) ∧ s.pool.Fits s.reserves ∧ ∀ c, (s.chan c).emptyIdle :=
  ⟨fun ⟨held, free, shared, idle⟩ => ⟨held, ⟨free, shared⟩, idle⟩,
    fun ⟨held, ⟨free, shared⟩, idle⟩ => ⟨held, free, shared, idle⟩⟩

/-- The part of a channel the accounts look at. -/
def Channel.sameAccount (x y : Channel) : Prop :=
  y.pe.queue.length = x.pe.queue.length ∧ y.uf.ringSize = x.uf.ringSize ∧ (y.state = .idle → x.state = .idle)

/-- A channel and the pool change; the others keep their accounts. -/
theorem PoolAccounts.change {s t : State} {c : Chan} {n : Nat} (h : PoolAccounts s) (reserves : t.reserves = s.reserves)
    (others : ∀ d, d ≠ c → (s.chan d).sameAccount (t.chan d)) (own : Holds c (t.chan c, t.pool))
    (fits : t.pool.Fits s.reserves) (held : t.pool.held = s.pool.held.put c n) (idle : (t.chan c).emptyIdle) :
    PoolAccounts t := by
  obtain ⟨hheld, -, hidle⟩ := (poolAccounts_iff s).mp h
  refine (poolAccounts_iff t).mpr ⟨fun d => ?_, reserves ▸ fits, fun d hd => ?_⟩
  · by_cases hc : d = c
    · exact hc ▸ own
    · obtain ⟨hlength, hsize, -⟩ := others d hc
      have := hheld d
      simp only [Holds, held, hlength, hsize, PerChan.get_put_ne _ hc] at this ⊢
      exact this
  · by_cases hc : d = c
    · subst hc
      exact idle hd
    · obtain ⟨hlength, hsize, hstate⟩ := others d hc
      obtain ⟨hqueue, hring⟩ := hidle d (hstate hd)
      exact ⟨List.eq_nil_of_length_eq_zero (by rw [hlength, hqueue]; rfl), hsize.trans hring⟩

/-- A channel changes but for its account. -/
theorem PoolAccounts.modChan {s : State} {c : Chan} {f : Channel → Channel} (h : PoolAccounts s)
    (hf : (s.chan c).sameAccount (f (s.chan c))) : PoolAccounts (s.modChan c f) := by
  obtain ⟨hheld, hfits, hidle⟩ := (poolAccounts_iff s).mp h
  obtain ⟨hlength, hsize, hstate⟩ := hf
  have hown : (s.modChan c f).chan c = f (s.chan c) := by simp
  refine h.change (c := c) (n := s.pool.held.get c) rfl (fun d hd => ?_) ?_ hfits (by simp) fun hc => ?_
  · rw [State.chan_modChan, if_neg hd]
    exact ⟨rfl, rfl, id⟩
  · have := hheld c
    simp only [Holds, hown, hlength, hsize] at this ⊢
    exact this
  · rw [hown] at hc ⊢
    obtain ⟨hqueue, hring⟩ := hidle c (hstate hc)
    exact ⟨List.eq_nil_of_length_eq_zero (by rw [hlength, hqueue]; rfl), hsize.trans hring⟩

theorem PoolAccounts.modChanPool {s : State} {c : Chan} {f : ChanPool → ChanPool} (h : PoolAccounts s)
    {x : Channel} (hx : (s.chan c).sameAccount x) (live : x.state ≠ .idle)
    (shift : Shift s.reserves c (x, s.pool) (f (s.chan c, s.pool))) : PoolAccounts (s.modChanPool c f) := by
  obtain ⟨hheld, hfits, -⟩ := (poolAccounts_iff s).mp h
  obtain ⟨hlength, hsize, -⟩ := hx
  have hown : (s.modChanPool c f).chan c = (f (s.chan c, s.pool)).1 := by rw [State.chan_modChanPool, if_pos rfl]
  obtain ⟨hfits', hown', hput⟩ := shift.accounts hfits (by
    have := hheld c
    simp only [Holds, hlength, hsize] at this ⊢
    exact this)
  refine h.change (c := c) rfl (fun d hd => ?_) (hown ▸ hown') hfits' hput fun hc => ?_
  · rw [State.chan_modChanPool, if_neg hd]
    exact ⟨rfl, rfl, id⟩
  · rw [hown, shift.state] at hc
    exact absurd hc live

theorem ChanMove.sameAccount {x y : Channel} (h : ChanMove x y) : x.sameAccount y := by
  cases h with
  | keepNotice n =>
    unfold Channel.keepNotice
    split <;> exact ⟨rfl, rfl, id⟩
  | build start samples =>
    unfold Channel.build Channel.putHistory
    dsimp only
    (repeat' split) <;> exact ⟨rfl, rfl, id⟩
  | sampleTaken =>
    unfold Channel.sampleTaken
    (repeat' split) <;> exact ⟨rfl, rfl, id⟩
  | stats | det | voice | discardNotices | toData | toVoice | formed | completed | cut => exact ⟨rfl, rfl, id⟩

theorem Rebind.sameAccount {up : Port → Prop} {x y : Channel} (h : Rebind up x y) : x.sameAccount y := by
  cases h with
  | parked | claimed => exact ⟨rfl, rfl, by simp [Channel.claimed]⟩
  | drained run now =>
    unfold Channel.drained
    split <;> exact ⟨rfl, rfl, by simp [Channel.startPlaying, Channel.playFrom]⟩
  | fallback run | parkFallback run => exact ⟨rfl, rfl, id⟩

/-- A move of a live channel with the pool: a change of its settings and target, and a shift. -/
theorem PoolMove.shift {res : PerChan Nat} {c : Chan} {x y : ChanPool} (h : PoolMove res c x y) :
    ∃ z : Channel, x.1.sameAccount z ∧ z.state ≠ .idle ∧ Shift res c (z, x.2) y := by
  cases h with
  | tick live level => exact ⟨x.1, ⟨rfl, rfl, id⟩, live, tickBlock_shift level x⟩
  | @set k v new run key write =>
    exact ⟨x.1.changed k new, ⟨rfl, rfl, id⟩, by simp [Channel.changed, run], applyChannelSet_shift k new x⟩

/-- The pool after a return to IDLE: the channel's blocks are back (R16). -/
theorem State.toIdle_pool (s : State) (c : Chan) :
    (s.toIdle c).pool = s.pool.giveBackN s.reserves c (s.chan c).blocksHeld := by
  unfold State.toIdle State.passLead
  dsimp only
  (repeat' split) <;> rfl

theorem PoolAccounts.toIdle {s : State} (h : PoolAccounts s) (c : Chan) : PoolAccounts (s.toIdle c) := by
  obtain ⟨hheld, hfits, -⟩ := (poolAccounts_iff s).mp h
  obtain ⟨_, _, _, _, live, _⟩ := State.toIdle_untouched s c
  have hc : s.pool.held.get c = (s.chan c).blocksHeld := hheld c
  obtain ⟨hfits', hput⟩ := hfits.giveBackN (c := c) (n := (s.chan c).blocksHeld) (by omega)
  have hown : (s.toIdle c).chan c = (s.chan c).closed := by rw [State.toIdle_chan, if_pos rfl]
  refine h.change (c := c) (by rw [State.reserves, live]; rfl) (fun d hd => ?_) ?_ (s.toIdle_pool c ▸ hfits')
    (s.toIdle_pool c ▸ hput) (by rw [hown]; exact fun _ => ⟨rfl, rfl⟩)
  · rw [State.toIdle_chan, if_neg hd]
    split <;> exact ⟨rfl, rfl, id⟩
  · rw [hown, s.toIdle_pool c]
    simp [Holds, hput, hc, Channel.closed, Playout.cleared, Framer.cleared]

/-- The channels after an OPEN. -/
theorem State.setUp_chan (s : State) (p : Port) (o : OpenParams) (c : Chan) (b : Pool) (d : Chan) :
    (s.setUp p o c b).chan d
      = if d = c then
          (s.chan c).opened p o s.live.template (s.nextBlockTime o.loop) (s.attached o.loop).isEmpty
        else s.chan d := by
  have h (lead : Bool) :
      ({ s with pool := b }.modChan c (Channel.opened p o s.live.template (s.nextBlockTime o.loop) lead)).chan d
        = if d = c then (s.chan c).opened p o s.live.template (s.nextBlockTime o.loop) lead else s.chan d := by
    rw [State.chan_modChan]
    split
    · next hd => rw [hd]; rfl
    · rfl
  unfold State.setUp
  dsimp only
  split <;> exact h _

theorem State.setUp_pool (s : State) (p : Port) (o : OpenParams) (c : Chan) (b : Pool) : (s.setUp p o c b).pool = b := by
  unfold State.setUp
  dsimp only
  split <;> rfl

theorem State.setUp_live (s : State) (p : Port) (o : OpenParams) (c : Chan) (b : Pool) :
    (s.setUp p o c b).live = s.live := by
  unfold State.setUp
  dsimp only
  split <;> rfl

theorem PoolAccounts.setUp {s : State} (h : PoolAccounts s) {p : Port} {o : OpenParams} {c : Chan} {b : Pool}
    (idle : (s.chan c).state = .idle)
    (grant : (Pool.grantRing s.reserves c s.live.template.history s.pool).1 = some b) : PoolAccounts (s.setUp p o c b) := by
  obtain ⟨hheld, hfits, hidle⟩ := (poolAccounts_iff s).mp h
  obtain ⟨hqueue, hring⟩ := hidle c idle
  have hc : s.pool.held.get c = 0 := by simpa [Holds, hqueue, hring] using hheld c
  obtain ⟨hfits', hput⟩ := hfits.grantRing grant
  have hown := s.setUp_chan p o c b c
  rw [if_pos rfl] at hown
  rw [hc] at hput
  refine h.change (c := c) (by rw [State.reserves, State.setUp_live]; rfl) (fun d hd => ?_) ?_
    (by rw [State.setUp_pool]; exact hfits') (by rw [State.setUp_pool]; exact hput) (by rw [hown]; exact fun h => by cases h)
  · rw [State.setUp_chan, if_neg hd]
    exact ⟨rfl, rfl, id⟩
  · rw [hown, s.setUp_pool]
    simp [Holds, hput, Channel.opened, Playout.cleared]

/-- The pool split anew while every channel is IDLE (R34, R35). -/
theorem PoolAccounts.split {s t : State} (h : PoolAccounts s) (idle : s.allIdle = true) (chans : t.chans = s.chans)
    (fit : t.reserves.total ≤ 256) (pool : t.pool = s.pool.split t.reserves) : PoolAccounts t := by
  obtain ⟨hheld, -, hidle⟩ := (poolAccounts_iff s).mp h
  have hnone (c : Chan) : s.pool.held.get c = 0 := by
    have hc : (s.chan c).state = .idle := by
      have := List.all_eq_true.mp idle c (by cases c <;> decide)
      simpa using this
    obtain ⟨hqueue, hring⟩ := hidle c hc
    simpa [Holds, hqueue, hring] using hheld c
  have hheld0 : s.pool.held = ⟨0, 0, 0, 0⟩ := PerChan.ext_get fun c => by rw [hnone c]; cases c <;> rfl
  have hchan (c : Chan) : t.chan c = s.chan c := by rw [State.chan, chans]; rfl
  refine (poolAccounts_iff t).mpr ⟨fun c => ?_, ?_, fun c => hchan c ▸ hidle c⟩
  · rw [hchan, pool]
    exact hheld c
  · rw [pool]
    constructor
    · intro c
      simp only [Pool.split, hnone]
      omega
    · simp only [Pool.split, hheld0, PerChan.excess]
      omega

theorem Move.poolAccounts {s t : State} (hmove : Move s t) (h : PoolAccounts s) (fit : s.everyProfile Machine.reservesFit) :
    PoolAccounts t := by
  have hsame {t : State} (chans : t.chans = s.chans) (pool : t.pool = s.pool) (reserves : t.reserves = s.reserves) :
      PoolAccounts t := by
    obtain ⟨held, free, shared, idle⟩ := h
    have hchan (c : Chan) : t.chan c = s.chan c := by rw [State.chan, chans]; rfl
    exact ⟨by simpa only [hchan, pool] using held, by simpa only [pool, reserves] using free,
      by simpa only [pool, reserves] using shared, by simpa only [hchan] using idle⟩
  cases hmove with
  | aside chans pool _ _ live _ => exact hsame chans pool (by rw [State.reserves, live]; rfl)
  | chan hmove => exact h.modChan hmove.sameAccount
  | rebind hmove => exact h.modChan hmove.sameAccount
  | pool hmove =>
    obtain ⟨x, hx, live, shift⟩ := hmove.shift
    exact h.modChanPool hx live shift
  | toIdle c => exact h.toIdle c
  | setUp _ idle _ _ grant => exact h.setUp idle grant
  | ringRefused grant =>
    obtain ⟨hheld, hfits, hidle⟩ := (poolAccounts_iff s).mp h
    obtain ⟨hfits', hsame⟩ := hfits.grantRing_refused grant
    refine (poolAccounts_iff _).mpr ⟨fun c => ?_, hfits', hidle⟩
    simp only [Holds, hsame]
    exact hheld c
  | @stored k v g idle write =>
    by_cases hk : k.isReserve = true
    · refine h.split (idle hk) rfl (write_reservesFit write fit.1) ?_
      simp only [hk, if_true]
      rfl
    · exact hsame rfl (by simp [hk]) (write_reserve write (by simpa using hk))
  | @loaded g idle slot =>
    refine h.split idle rfl ?_ rfl
    obtain slot | rfl := slot
    · exact fit.2 g slot
    · exact factoryProfile_reservesFit
  | port | loop | dial | gains | program => exact hsame rfl rfl rfl

theorem FreshFrom.poolAccounts {s t : State} (h : FreshFrom s t) (fit : t.reserves.total ≤ 256) : PoolAccounts t := by
  refine (poolAccounts_iff t).mpr ⟨fun c => ?_, ?_, fun c => ?_⟩
  · obtain ⟨set, hset⟩ := h.chans c
    rw [hset, h.pool]
    cases c <;> rfl
  · rw [h.pool]
    constructor
    · intro c
      cases c <;> rfl
    · simp only [Pool.allFree, PerChan.excess]
      omega
  · obtain ⟨set, hset⟩ := h.chans c
    rw [hset]
    exact fun _ => ⟨rfl, rfl⟩

/-- Settles O4. -/
theorem poolAccountsKept : Obligations.PoolAccountsKept := by
  intro s t hs hfit hstep
  obtain ⟨q, hcourse⟩ := step_course hstep
  refine hcourse.keep (I := fun s => PoolAccounts s ∧ s.everyProfile reservesFit)
    (fun hmove ⟨h, fit⟩ => ⟨hmove.poolAccounts h fit, hmove.reservesFit fit⟩)
    (fun s p f ⟨h, fit⟩ => ⟨⟨h.held, h.free, h.shared, h.idle⟩, fit⟩) ?_ ?_ ⟨⟨hs.held, hs.free, hs.shared, hs.idle⟩, hfit⟩
  · intro s c m run _ ⟨h, fit⟩
    exact ⟨h.modChanPool ⟨rfl, rfl, id⟩ (by simp [run]) (playMedia_shift _ _ _), fit⟩
  · intro s t hfresh ⟨_, fit⟩
    have hfit' := hfresh.everyProfile factoryProfile_reservesFit fit
    exact ⟨hfresh.poolAccounts hfit'.1, hfit'⟩

end Sys2Proof.Machine

namespace Sys2Proof.Machine

/-! ### A value written lies in its range (O10) -/

/-- Depths within their own ranges are brought within one another (R187). -/
theorem boundDepths_inRange_of {x y : ChannelSettings} (h : ChannelInRange x) (hmin : 1 ≤ y.depthMin)
    (hmax : 2 ≤ y.depthMax ∧ y.depthMax ≤ 64) (hdata : 2 ≤ y.dataDepth)
    (hrest : y = { x with
      depthMin := y.depthMin, depthMax := y.depthMax, depthStart := y.depthStart, dataDepth := y.dataDepth }) :
    ChannelInRange (boundDepths y) := by
  obtain ⟨_, _, _, hguard, hwindow, hsmooth, _, hslack, hhistory, hred, hpacket, hpark, hdrain⟩ := h
  rw [hrest]
  constructor <;> simp only [boundDepths, clampNat]
  case guard => exact hguard
  case window => exact hwindow
  case smoothing => exact hsmooth
  case dataSlack => exact hslack
  case history => exact hhistory
  case redundancy => exact hred
  case packet => exact hpacket
  case parkTime => exact hpark
  case drainLimit => exact hdrain
  all_goals omega

theorem nearestWindow_cases (v : Nat) :
    nearestWindow v = 16000 ∨ nearestWindow v = 32000 ∨ nearestWindow v = 64000 ∨ nearestWindow v = 128000 := by
  unfold nearestWindow
  (repeat' split) <;> simp

/-- A channel setting written keeps the ranges (R20, R185, R187). -/
theorem TemplateKey.write_inRange {k : TemplateKey} {v : Nat} {x y : ChannelSettings} (hw : k.write v x = some y)
    (h : ChannelInRange x) : ChannelInRange y := by
  have hdepthMin := h.depthMin
  have hdepthMax := h.depthMax
  have hdataDepth := h.dataDepth
  cases k <;> simp only [TemplateKey.write, Option.some.injEq] at hw
  case depthMin =>
    subst hw
    exact boundDepths_inRange_of h (by simp only [clampNat]; omega) hdepthMax hdataDepth.1 rfl
  case depthMax =>
    subst hw
    exact boundDepths_inRange_of h hdepthMin.1 (by simp only [clampNat]; omega) hdataDepth.1 rfl
  case depthStart =>
    subst hw
    exact boundDepths_inRange_of h hdepthMin.1 hdepthMax hdataDepth.1 rfl
  case dataDepth =>
    subst hw
    exact boundDepths_inRange_of h hdepthMin.1 hdepthMax (by simp only [clampNat]; omega) rfl
  case guard => subst hw; exact { h with guard := by simp only [clampNat]; omega }
  case window => subst hw; exact { h with window := nearestWindow_cases v }
  case smoothing => subst hw; exact { h with smoothing := by simp only [clampNat]; omega }
  case dataSlack => subst hw; exact { h with dataSlack := by simp only [clampNat]; omega }
  case history => subst hw; exact { h with history := by simp only [clampNat]; omega }
  case redundancy => subst hw; exact { h with redundancy := by simp only [clampNat]; omega }
  case packet => subst hw; exact { h with packet := by simp only [clampNat]; omega }
  case parkTime => subst hw; exact { h with parkTime := by simp only [clampNat]; omega }
  case drainLimit => subst hw; exact { h with drainLimit := by simp only [clampNat]; omega }
  case autoData | suppressDigits => obtain ⟨_, _, rfl⟩ := Option.map_eq_some_iff.mp hw; exact { h with }

theorem nearestThreshold_cases (v : Nat) :
    nearestThreshold v = 8 ∨ nearestThreshold v = 10 ∨ nearestThreshold v = 12 ∨ nearestThreshold v = 15 := by
  unfold nearestThreshold
  (repeat' split) <;> simp

theorem keepOrder_some {x y : LoopSettings} (h : keepOrder x = some y) :
    y = x ∧ x.pulseBreakMax < x.flashMin ∧ x.flashMin < x.hangupMin := by
  unfold keepOrder at h
  split at h
  · next hord =>
    cases h
    simpa [LoopSettings.ordered] using hord
  · cases h

/-- A loop setting written keeps the ranges, and the timings their order (R185, R187). -/
theorem LoopKey.write_inRange {k : LoopKey} {v : Nat} {x y : LoopSettings} (hw : k.write v x = some y)
    (h : LoopInRange x) : LoopInRange y := by
  cases k <;> simp only [LoopKey.write, Option.some.injEq] at hw
  case hookThreshold => subst hw; exact { h with hookThreshold := nearestThreshold_cases v }
  case hookQualify => subst hw; exact { h with hookQualify := by simp only [clampNat]; omega }
  case pulseBreakMax =>
    obtain ⟨rfl, hord⟩ := keepOrder_some hw
    exact { h with pulseBreakMax := by simp only [clampNat]; omega, order := hord }
  case flashMin =>
    obtain ⟨rfl, hord⟩ := keepOrder_some hw
    exact { h with flashMin := by simp only [clampNat]; omega, order := hord }
  case hangupMin =>
    obtain ⟨rfl, hord⟩ := keepOrder_some hw
    exact { h with hangupMin := by simp only [clampNat]; omega, order := hord }
  case interdigitMin => subst hw; exact { h with interdigitMin := by simp only [clampNat]; omega }
  case toneOnMin => subst hw; exact { h with toneOnMin := by simp only [clampNat]; omega }
  case toneOffMin => subst hw; exact { h with toneOffMin := by simp only [clampNat]; omega }
  case rxGain => subst hw; exact { h with rxGain := by simp only [clampNat]; omega }
  case txGain => subst hw; exact { h with txGain := by simp only [clampNat]; omega }
  case denyTime => subst hw; exact { h with denyTime := by simp only [clampNat]; omega }
  case autoDialTone | dialProgram | offerSet | denyOnLoss | parkLostProgram =>
    obtain ⟨_, _, rfl⟩ := Option.map_eq_some_iff.mp hw
    exact { h with }

/-- A mask of maskable kinds names no other kind (R200). -/
theorem noticeMask_inRange {v : Nat} (hv : v < 0x4000) (heven : v % 2 = 0) :
    BitVec.ofNat 32 v &&& 0xFFFFC001#32 = 0#32 := by
  have hmod : v % 2 ^ 32 = v := Nat.mod_eq_of_lt (by omega)
  ext i hi
  rw [BitVec.getElem_and, BitVec.getElem_zero, Bool.and_eq_false_iff]
  simp only [BitVec.getElem_eq_testBit_toNat, BitVec.toNat_ofNat, hmod]
  rcases Nat.lt_or_ge i 14 with hlow | hhigh
  · rcases Nat.eq_zero_or_pos i with rfl | hpos
    · left
      simpa [Nat.testBit_zero] using heven
    · right
      interval_cases i <;> decide
  · left
    exact Nat.testBit_lt_two_pow (hv.trans_le (Nat.pow_le_pow_right (n := 2) (by omega) hhigh))

theorem PortKey.write_inRange {k : PortKey} {v : Nat} {x y : PortSettings} (hw : k.write v x = some y)
    (h : PortInRange x) : PortInRange y := by
  cases k <;> simp only [PortKey.write, Option.some.injEq] at hw
  case silenceTime => subst hw; exact { h with silenceTime := by simp only [clampNat]; omega }
  case noticeMask =>
    split at hw
    · next hmask =>
      cases hw
      exact { h with noticeMask := noticeMask_inRange hmask.1 hmask.2 }
    · cases hw

theorem GlobalKey.write_inRange (k : GlobalKey) (v : Nat) {g : GlobalSettings} (h : GlobalInRange g) :
    GlobalInRange (k.write v g) := by
  cases k
  case cadenceStep => exact { h with cadenceStep := by simp only [GlobalKey.write, nearestMultiple, clampNat]; omega }
  case ringBudget => exact { h with ringBudget := by simp only [GlobalKey.write, clampNat]; omega }
  case assumedLoad => exact { h with assumedLoad := by simp only [GlobalKey.write, clampNat]; omega }
  case callerDelay => exact { h with callerDelay := by simp only [GlobalKey.write, clampNat]; omega }
  case testGate => exact { h with testGate := by simp only [GlobalKey.write, clampNat]; omega }
  case silenceLevel => exact { h with silenceLevel := by simp only [GlobalKey.write, clampNat]; omega }
  case toneDataMin => exact { h with toneDataMin := by simp only [GlobalKey.write, clampNat]; omega }

theorem PerLoop.forall_put {α : Type} {P : α → Prop} {x : PerLoop α} {l : Loop} {v : α} (h : ∀ k, P (x.get k))
    (hv : P v) (k : Loop) : P ((x.put l v).get k) := by
  rw [PerLoop.get_put]
  split
  · exact hv
  · exact h k

theorem PerPort.forall_put {α : Type} {P : α → Prop} {x : PerPort α} {p : Port} {v : α} (h : ∀ q, P (x.get q))
    (hv : P v) (q : Port) : P ((x.put p v).get q) := by
  rw [PerPort.get_put]
  split
  · exact hv
  · exact h q

theorem PerChan.forall_put {α : Type} {P : α → Prop} {x : PerChan α} {c : Chan} {v : α} (h : ∀ d, P (x.get d))
    (hv : P v) (d : Chan) : P ((x.put c v).get d) := by
  rw [PerChan.get_put]
  split
  · exact hv
  · exact h d

/-- A setting written keeps the profile in its ranges (R185, R187). -/
theorem SettingKey.write_inRange {k : SettingKey} {v : Nat} {g g' : Profile} (hw : k.write v g = some g')
    (h : ProfileInRange g) : ProfileInRange g' := by
  cases k with
  | global k =>
    cases hw
    exact { h with global := k.write_inRange v h.global }
  | reserve c =>
    simp only [SettingKey.write, writeReserve] at hw
    split at hw
    · next hsum =>
      cases hw
      refine { h with global := { h.global with reserve := ?_, reserves := hsum } }
      exact PerChan.forall_put (P := (· ≤ 128)) h.global.reserve (by simp only [clampNat]; omega)
    · cases hw
  | loop k l =>
    obtain ⟨x, hx, rfl⟩ := Option.map_eq_some_iff.mp hw
    exact { h with loop := PerLoop.forall_put h.loop (k.write_inRange hx (h.loop l)) }
  | port k p =>
    obtain ⟨x, hx, rfl⟩ := Option.map_eq_some_iff.mp hw
    exact { h with port := PerPort.forall_put h.port (k.write_inRange hx (h.port p)) }
  | template k =>
    obtain ⟨x, hx, rfl⟩ := Option.map_eq_some_iff.mp hw
    exact { h with template := k.write_inRange hx h.template }

theorem ProfileInRange.withGains {g : Profile} (l : Loop) {rx tx : Nat} (hrx : rx ≤ 1024) (htx : tx ≤ 1024)
    (h : ProfileInRange g) :
    ProfileInRange { g with loop := g.loop.put l { g.loop.get l with rxGain := rx, txGain := tx } } :=
  { h with loop := PerLoop.forall_put h.loop { h.loop l with rxGain := hrx, txGain := htx } }

theorem ProfileInRange.withProgram {g : Profile} (n : Fin 8) {r : Program} (hr : ProgramInRange r)
    (h : ProfileInRange g) : ProfileInRange { g with programs := g.programs.set n.val r n.isLt } := by
  refine { h with programs := fun m => ?_ }
  show ProgramInRange ((g.programs.set n.val r n.isLt)[m.val])
  rw [Vector.getElem_set]
  split
  · exact hr
  · exact h.programs m

theorem factoryProfile_segmentsInRange (n : Fin 8) :
    ∀ x ∈ (factoryProfile.programs.get n).segments, x.f1 ≤ 3999 ∧ x.f2 ≤ 3999 ∧ x.level ≤ 45
      ∧ (x.duration = 0 ∨ 10 ≤ x.duration ∧ x.duration ≤ 10000 ∧ x.duration % 10 = 0) := by
  revert n
  decide

theorem factoryLoop_inRange : LoopInRange factoryLoop := by constructor <;> decide

theorem factoryTemplate_inRange : ChannelInRange factoryTemplate := by constructor <;> decide

/-- The factory profile lies in its ranges (12.1). -/
theorem factoryProfile_inRange : ProfileInRange factoryProfile where
  global := ⟨by decide, by decide, by decide, by decide, by decide, by decide, by decide, fun c => by cases c <;> decide,
    by decide⟩
  loop l := by cases l <;> exact factoryLoop_inRange
  port p := by cases p <;> exact ⟨by decide, by decide⟩
  template := factoryTemplate_inRange
  programs n :=
    { count := by revert n; decide
      segments := fun x hx =>
        have ⟨hf1, hf2, hlevel, hduration⟩ := factoryProfile_segmentsInRange n x hx
        ⟨hf1, hf2, hlevel, hduration⟩
      hold := by revert n; decide }

/-! ### The settings of the open channels (O10) -/

/-- An open channel's settings lie in their ranges and its target between its depths. -/
def Channel.settingsHeld (ch : Channel) : Prop := ch.state ≠ .idle → ChannelInRange ch.settings ∧ ch.targetHeld

/-- A change that leaves the settings, the target and whether the channel is open. -/
structure Channel.SameSettings (x y : Channel) : Prop where
  settings : y.settings = x.settings
  target : y.tru.target = x.tru.target
  live : y.state ≠ .idle → x.state ≠ .idle

theorem Channel.SameSettings.held {x y : Channel} (h : x.SameSettings y) (hx : x.settingsHeld) : y.settingsHeld := by
  intro hy
  obtain ⟨hrange, htarget⟩ := hx (h.live hy)
  rw [Channel.targetHeld, h.settings, h.target]
  exact ⟨hrange, htarget⟩

theorem ChanMove.sameSettings {x y : Channel} (h : ChanMove x y) : x.SameSettings y := by
  cases h with
  | keepNotice n =>
    unfold Channel.keepNotice
    split <;> exact ⟨rfl, rfl, id⟩
  | build start samples =>
    unfold Channel.build Channel.putHistory
    dsimp only
    (repeat' split) <;> exact ⟨rfl, rfl, id⟩
  | sampleTaken =>
    unfold Channel.sampleTaken
    (repeat' split) <;> exact ⟨rfl, rfl, id⟩
  | stats | det | voice | discardNotices | toData | toVoice | formed | completed | cut => exact ⟨rfl, rfl, id⟩

theorem playFrom_target (e : QEntry) (ch : Channel) : (ch.playFrom e).tru.target = ch.tru.target := by
  unfold Channel.playFrom
  dsimp only
  split <;> rfl

theorem Rebind.sameSettings {up : Port → Prop} {x y : Channel} (h : Rebind up x y) : x.SameSettings y := by
  cases h with
  | parked run => exact ⟨rfl, rfl, fun _ => by simp [run]⟩
  | claimed parked => exact ⟨rfl, rfl, fun _ => by simp [parked]⟩
  | drained run now =>
    unfold Channel.drained
    split
    · exact ⟨rfl, playFrom_target _ _, fun _ => by simp [run]⟩
    · exact ⟨rfl, rfl, fun _ => by simp [run]⟩
  | fallback run | parkFallback run => exact ⟨rfl, rfl, id⟩

theorem Shift.settingsHeld {res : PerChan Nat} {c : Chan} {x y : ChanPool} (h : Shift res c x y)
    (hx : x.1.settingsHeld) : y.1.settingsHeld := by
  intro hy
  obtain ⟨hrange, htarget⟩ := hx (h.state ▸ hy)
  exact ⟨h.settings ▸ hrange, h.target (hrange.depthMin.2) htarget⟩

/-- A write brings the target between the new depths (R52). -/
theorem adjustedTarget_held {k : TemplateKey} {v : Nat} {ch : Channel} {new : ChannelSettings}
    (hw : k.write v ch.settings = some new) (hrange : ChannelInRange ch.settings) (htarget : ch.targetHeld) :
    (ch.changed k new).targetHeld := by
  have hnew := k.write_inRange hw hrange
  obtain ⟨hmin, hmax⟩ := htarget
  obtain ⟨hnewMin, hnewMax⟩ := hnew.depthStart
  have horder := hnew.depthMin.2
  have hmin' := hrange.depthMin.2
  show new.depthMin ≤ adjustedTarget k ch.settings new ch.tru ∧ adjustedTarget k ch.settings new ch.tru ≤ new.depthMax
  cases k <;> simp only [TemplateKey.write, Option.some.injEq, adjustedTarget] at hw ⊢
  case depthMin | depthMax =>
    split
    · exact ⟨hnewMin, hnewMax⟩
    · simp only [clampNat]
      omega
  case depthStart =>
    split
    · subst hw
      simp only [boundDepths]
      omega
    · exact ⟨hnewMin, hnewMax⟩
  case dataDepth =>
    subst hw
    simp only [boundDepths]
    omega
  case autoData | suppressDigits => obtain ⟨_, _, rfl⟩ := Option.map_eq_some_iff.mp hw; exact ⟨hmin, hmax⟩
  case guard | window | smoothing | dataSlack | history | redundancy | packet | parkTime | drainLimit =>
    subst hw
    exact ⟨hmin, hmax⟩

theorem PoolMove.settingsHeld {res : PerChan Nat} {c : Chan} {x y : ChanPool} (h : PoolMove res c x y)
    (hx : x.1.settingsHeld) : y.1.settingsHeld := by
  cases h with
  | tick _ level => exact (tickBlock_shift level x).settingsHeld hx
  | @set k v new run key write =>
    refine (applyChannelSet_shift k new x).settingsHeld fun _ => ?_
    obtain ⟨hrange, htarget⟩ := hx (by simp [run])
    exact ⟨k.write_inRange write hrange, adjustedTarget_held write hrange htarget⟩

theorem opened_settingsHeld {template : ChannelSettings} (h : ChannelInRange template) (p : Port) {o : OpenParams}
    (packet : 1 ≤ o.packet ∧ o.packet ≤ 4) (first : Word) (lead : Bool) (ch : Channel) :
    (ch.opened p o template first lead).settingsHeld := fun _ => ⟨{ h with packet := packet }, h.depthStart⟩

theorem Move.settingsHeld {s t : State} (hmove : Move s t) (profiles : s.everyProfile ProfileInRange)
    (h : ∀ c, (s.chan c).settingsHeld) (c : Chan) : (t.chan c).settingsHeld := by
  cases hmove with
  | aside chans => rw [State.chan, chans]; exact h c
  | chan hmove => exact State.forall_chan_modChan h (hmove.sameSettings.held (h _)) c
  | rebind hmove => exact State.forall_chan_modChan h (hmove.sameSettings.held (h _)) c
  | pool hmove =>
    rw [State.chan_modChanPool]
    split
    · exact hmove.settingsHeld (h _)
    · exact h c
  | toIdle d =>
    rw [State.toIdle_chan]
    (repeat' split)
    · exact fun hlive => absurd rfl hlive
    · exact h c
    · exact h c
  | setUp up idle two packet =>
    rw [State.setUp_chan]
    split
    · exact opened_settingsHeld profiles.1.template _ packet _ _ _
    · exact h c
  | port | loop | dial | ringRefused | stored | gains | program | loaded => exact h c

theorem Move.profileInRange {s t : State} (h : Move s t) (hs : s.everyProfile ProfileInRange) :
    t.everyProfile ProfileInRange :=
  h.everyProfile SettingKey.write_inRange ProfileInRange.withGains ProfileInRange.withProgram factoryProfile_inRange hs

/-- The profiles and the settings of open channels are kept along a course. -/
theorem Course.settingsHeld {s t : State} (h : Course s t) (profiles : s.everyProfile ProfileInRange)
    (hs : ∀ c, (s.chan c).settingsHeld) : t.everyProfile ProfileInRange ∧ ∀ c, (t.chan c).settingsHeld := by
  refine h.keep (I := fun s => s.everyProfile ProfileInRange ∧ ∀ c, (s.chan c).settingsHeld)
    (fun hmove ⟨profiles, hs⟩ => ⟨hmove.profileInRange profiles, hmove.settingsHeld profiles hs⟩)
    (fun _ _ _ h => h) ?_ ?_ ⟨profiles, hs⟩
  · intro s c m run _ ⟨profiles, hs⟩
    refine ⟨profiles, fun d => ?_⟩
    rw [State.chan_modChanPool]
    split
    · exact (playMedia_shift (c := c) _ m (s.chan c, s.pool)).settingsHeld (hs c)
    · exact hs d
  · intro s t hfresh ⟨profiles, _⟩
    refine ⟨hfresh.everyProfile factoryProfile_inRange profiles, fun c => ?_⟩
    obtain ⟨set, hset⟩ := hfresh.chans c
    rw [hset]
    exact fun hlive => absurd rfl hlive

/-- Settles O10. -/
theorem settingsKept : Obligations.SettingsKept := by
  intro s t profiles hs hstep
  obtain ⟨q, hcourse⟩ := step_course hstep
  exact hcourse.settingsHeld profiles hs

end Sys2Proof.Machine

namespace Sys2Proof.Machine

/-! ### The ports along a course (O5) -/

/-- The ports after a return to IDLE (R16, R90). -/
theorem State.toIdle_port (s : State) (c : Chan) (p : Port) : (s.toIdle c).port p = (s.port p).staleMedia c := by
  have h : (s.toIdle c).ports = s.ports.map (PortState.staleMedia c) := by
    unfold State.toIdle State.passLead
    dsimp only
    (repeat' split) <;> rfl
  rw [State.port, h]
  cases p <;> rfl

theorem State.setUp_port (s : State) (p : Port) (o : OpenParams) (c : Chan) (b : Pool) (q : Port) :
    (s.setUp p o c b).port q = s.port q := by
  unfold State.setUp
  dsimp only
  split <;> rfl

/-- A property of the ports that survives a change of one of them. -/
theorem State.forall_port_modPort {P : Port → PortState → Prop} {s : State} {p : Port} {f : PortState → PortState}
    (hs : ∀ q, P q (s.port q)) (hf : P p (f (s.port p))) (q : Port) : P q ((s.modPort p f).port q) := by
  rw [State.port_modPort]
  split
  · next h => exact h ▸ hf
  · exact hs q

/-- What a port's own moves keep, a move of the part keeps. -/
theorem Move.ports {P : Port → PortState → Prop} (move : ∀ {p x y}, PortMove x y → P p x → P p y)
    (stale : ∀ {p x} c, P p x → P p (x.staleMedia c)) {s t : State} (h : Move s t) (hs : ∀ p, P p (s.port p)) (p : Port) :
    P p (t.port p) := by
  cases h with
  | aside _ _ _ ports => rw [State.port, ports]; exact hs p
  | port h => exact State.forall_port_modPort hs (move h (hs _)) p
  | toIdle c => rw [State.toIdle_port]; exact stale c (hs p)
  | setUp => rw [State.setUp_port]; exact hs p
  | chan | rebind | pool | loop | dial | ringRefused | stored | gains | program | loaded => exact hs p

/-! #### The control queues (R173, R176, R177, R179) -/

/-- The limits of a control queue while `k` of the counted requests wait for their reply. -/
structure QueueOwes (k : Nat) (x : PortState) : Prop where
  notices : x.noticeCount ≤ 28
  replies : x.replyCount + k = x.outstanding
  outstanding : x.outstanding ≤ 4
  mark : x.overflowMark = true → x.noticeCount = 28
  down : x.up = false → (∀ e ∈ x.queue, e.isStart = true) ∧ x.overflowMark = false
  owing : k ≠ 0 → x.up = true

theorem queueOwes_zero_iff (x : PortState) : QueueOwes 0 x ↔ QueueLimits x :=
  ⟨fun ⟨notices, replies, outstanding, mark, down, _⟩ => ⟨notices, replies, outstanding, mark, down⟩,
    fun ⟨notices, replies, outstanding, mark, down⟩ => ⟨notices, replies, outstanding, mark, down, by simp⟩⟩

/-- A change of what the limits do not look at. -/
theorem QueueOwes.same {k : Nat} {x y : PortState} (h : QueueOwes k x) (up : y.up = x.up) (queue : y.queue = x.queue)
    (outstanding : y.outstanding = x.outstanding) (mark : y.overflowMark = x.overflowMark) : QueueOwes k y where
  notices := by simpa only [PortState.noticeCount, queue] using h.notices
  replies := by simpa only [PortState.replyCount, queue, outstanding] using h.replies
  outstanding := outstanding ▸ h.outstanding
  mark := by simpa only [PortState.noticeCount, queue, mark] using h.mark
  down := by simpa only [up, queue, mark] using h.down
  owing := up ▸ h.owing

@[simp] theorem PortState.enqueue_noticeCount (x : PortState) (e : Entry) :
    (x.enqueue e).noticeCount = x.noticeCount + if e.isNotice then 1 else 0 := by
  simp [PortState.enqueue, PortState.noticeCount, List.countP_append, List.countP_singleton]

@[simp] theorem PortState.enqueue_replyCount (x : PortState) (e : Entry) :
    (x.enqueue e).replyCount = x.replyCount + if e.isNotice then 0 else 1 := by
  cases h : e.isNotice <;> simp [PortState.enqueue, PortState.replyCount, List.countP_append, h]

@[simp] theorem PortState.enqueue_outstanding (x : PortState) (e : Entry) : (x.enqueue e).outstanding = x.outstanding := rfl

/-- A notice enqueued on a port that is UP, below the limit and without a mark (R177). -/
theorem QueueOwes.enqueue_notice {k : Nat} {x : PortState} (h : QueueOwes k x) (up : x.up = true)
    (room : x.noticeCount < 28) (mark : x.overflowMark = false) (n : Notice) : QueueOwes k (x.enqueue (.notice n)) where
  notices := by simpa [Entry.isNotice] using room
  replies := by simpa [Entry.isNotice] using h.replies
  outstanding := h.outstanding
  mark hmark := by simp [PortState.enqueue, mark] at hmark
  down hdown := by simp [PortState.enqueue, up] at hdown
  owing _ := up

/-- The settling of a mark ends with the limits, when the count is at its limit or the mark's notice has just left. -/
theorem QueueOwes.settleOverflow {k : Nat} {x : PortState} (notices : x.noticeCount ≤ 28)
    (replies : x.replyCount + k = x.outstanding) (outstanding : x.outstanding ≤ 4)
    (down : x.up = false → (∀ e ∈ x.queue, e.isStart = true) ∧ x.overflowMark = false) (owing : k ≠ 0 → x.up = true)
    (nearly : x.overflowMark = true → 27 ≤ x.noticeCount) (now : Word) (p : Port) :
    QueueOwes k (x.settleOverflow now p) := by
  unfold PortState.settleOverflow
  split
  · next h =>
    simp only [Bool.and_eq_true, decide_eq_true_eq] at h
    obtain ⟨hmark, hroom⟩ := h
    have hup : x.up = true := by
      by_contra hdown
      simp [hmark] at down
      exact hdown down
    have hcleared : QueueOwes k { x with overflowMark := false } :=
      ⟨notices, replies, outstanding, fun h => absurd h (by simp), fun h => by simp [hup] at h, owing⟩
    exact (hcleared.enqueue_notice hup hroom rfl _).same rfl rfl rfl rfl
  · next h =>
    refine ⟨notices, replies, outstanding, fun hmark => ?_, down, owing⟩
    have := nearly hmark
    simp only [hmark, Bool.true_and, decide_eq_true_eq] at h
    omega

theorem QueueOwes.offer {k : Nat} {x : PortState} (h : QueueOwes k x) (now : Word) (p : Port) (mask : Word) (n : Notice) :
    QueueOwes k (x.offer now p mask n) := by
  obtain ⟨notices, replies, outstanding, mark, down, owing⟩ := id h
  unfold PortState.offer
  split
  · exact h
  · next hdown =>
    have hup : x.up = true := by simpa using hdown
    split
    · exact h
    · split
      · next hfull =>
        simp only [Bool.or_eq_true, decide_eq_true_eq] at hfull
        have hcount : x.noticeCount = 28 := hfull.elim mark fun _ => by omega
        have hsame : x.dropNotice.noticeCount = x.noticeCount := rfl
        refine QueueOwes.settleOverflow (x := x.dropNotice) notices replies outstanding ?_ owing (fun _ => by omega) now p
        intro hd
        simp [PortState.dropNotice, hup] at hd
      · next hroom =>
        simp only [Bool.or_eq_true, decide_eq_true_eq, not_or, not_le, Bool.not_eq_true] at hroom
        exact h.enqueue_notice hup hroom.2 hroom.1 n

/-- An entry leaves the head of the queue (R177, R179). -/
theorem QueueOwes.left {k : Nat} {x : PortState} {e : Entry} {rest : List Entry} (h : QueueOwes k x)
    (queue : x.queue = e :: rest) (now : Word) (p : Port) : QueueOwes k ((x.leaveQueue e).settleOverflow now p) := by
  obtain ⟨notices, replies, outstanding, mark, down, owing⟩ := h
  have hrest : (x.leaveQueue e).queue = rest := by simp [PortState.leaveQueue, queue]
  have hnotices : x.noticeCount = (x.leaveQueue e).noticeCount + if e.isNotice then 1 else 0 := by
    simp only [PortState.noticeCount, hrest, queue, List.countP_cons]
  have hreplies : x.replyCount = (x.leaveQueue e).replyCount + if e.isNotice then 0 else 1 := by
    simp only [PortState.replyCount, hrest, queue, List.countP_cons]
    cases e.isNotice <;> rfl
  have hleft : (x.leaveQueue e).outstanding = x.outstanding - if e.isNotice then 0 else 1 := by
    simp only [PortState.leaveQueue]
    cases e.isNotice <;> rfl
  refine QueueOwes.settleOverflow (x := x.leaveQueue e) (by omega) (by omega) (by omega) (fun hdown => ?_) owing (fun hmark => ?_) now p
  · obtain ⟨hstart, hmark⟩ := down hdown
    exact ⟨fun f hf => hstart f (by rw [queue]; exact .tail _ (hrest ▸ hf)), hmark⟩
  · have := mark hmark
    split at hnotices <;> omega

theorem PortMove.queueOwes {k : Nat} {x y : PortState} (h : PortMove x y) (hx : QueueOwes k x) : QueueOwes k y := by
  cases h with
  | aside up queue outstanding mark => exact hx.same up queue outstanding mark
  | begun up queue outstanding mark => exact hx.same up queue outstanding mark
  | wake => exact { hx with down := nofun, owing := fun _ => rfl }
  | offered now p mask n => exact hx.offer now p mask n
  | left queue now p => exact hx.left queue now p
  | byte | ended => exact hx.same rfl rfl rfl rfl

theorem QueueOwes.staleMedia {k : Nat} {x : PortState} (h : QueueOwes k x) (c : Chan) : QueueOwes k (x.staleMedia c) := by
  unfold PortState.staleMedia
  (repeat' split) <;> exact h.same rfl rfl rfl rfl

theorem QueueOwes.count {x : PortState} (h : QueueOwes 0 x) (up : x.up = true) (room : x.outstanding < 4) :
    QueueOwes 1 { x with outstanding := x.outstanding + 1 } :=
  ⟨h.notices, congrArg (· + 1) h.replies, room, h.mark, h.down, fun _ => up⟩

theorem QueueOwes.reply {x : PortState} (h : QueueOwes 1 x) (r : Reply) : QueueOwes 0 (x.enqueue (.reply r)) where
  notices := by simpa [Entry.isNotice] using h.notices
  replies := by simpa [Entry.isNotice] using h.replies
  outstanding := h.outstanding
  mark hmark := by simpa [Entry.isNotice] using h.mark hmark
  down hdown := absurd (h.owing one_ne_zero) (by simpa [PortState.enqueue] using hdown)
  owing := by simp

/-- Every port keeps its limits, with one request of a given port counted and not answered. -/
theorem Steps.queueOwes {k : Port → Nat} {s t : State} (h : Steps s t) (hs : ∀ p, QueueOwes (k p) (s.port p)) (p : Port) :
    QueueOwes (k p) (t.port p) :=
  h.keep (I := fun s => ∀ p, QueueOwes (k p) (s.port p))
    (fun hmove hs => hmove.ports (P := fun p x => QueueOwes (k p) x) (·.queueOwes) (fun c h => h.staleMedia c) hs) hs p

theorem afterReset_queueOwes (now : Word) (cause : StartCause) (slot : Option Nat) (fallback : Bool) :
    QueueOwes 0 (.afterReset (startNotice now cause slot fallback)) :=
  ⟨Nat.le_of_ble_eq_true rfl, rfl, Nat.zero_le 4, nofun,
    fun _ => ⟨by simp [PortState.afterReset, Entry.isStart, startNotice], rfl⟩, by simp⟩

theorem goDown_queueOwes (x : PortState) : QueueOwes 0 x.goDown :=
  ⟨Nat.zero_le 28, rfl, Nat.zero_le 4, nofun, fun _ => ⟨by simp [PortState.goDown], rfl⟩, by simp⟩

theorem Answers.queueOwes {p : Port} {s t : State} (h : Answers p (s.countRequest p) t)
    (hs : ∀ q, QueueOwes 0 (s.port q)) (up : (s.port p).up = true) (room : (s.port p).outstanding < 4) (q : Port) :
    QueueOwes 0 (t.port q) := by
  obtain ⟨a, r, hact, hrest⟩ := h
  have hcounted : ∀ q, QueueOwes (if q = p then 1 else 0) ((s.countRequest p).port q) := fun q => by
    unfold State.countRequest
    rw [State.port_modPort]
    split
    · next hq => exact hq ▸ (hs p).count up room
    · exact hs q
  refine hrest.queueOwes (k := fun _ => 0) (fun q => ?_) q
  have ha := hact.queueOwes (k := fun q => if q = p then 1 else 0) hcounted q
  unfold State.answer
  rw [State.port_modPort]
  split
  · next hq =>
    rw [if_pos hq] at ha
    exact ha.reply r
  · next hq =>
    rw [if_neg hq] at ha
    exact ha

theorem Course.queueOwes {s t : State} (h : Course s t) (hs : ∀ p, QueueOwes 0 (s.port p)) (p : Port) :
    QueueOwes 0 (t.port p) := by
  cases h with
  | quiet h => exact h.queueOwes (k := fun _ => 0) hs p
  | request taken up room answered => exact answered.queueOwes (taken.queueOwes (k := fun _ => 0) hs) up room p
  | media taken => exact taken.queueOwes (k := fun _ => 0) hs p
  | silence cut parks =>
    refine parks.queueOwes (k := fun _ => 0) (fun q => ?_) p
    rw [State.port_modPort]
    split
    · exact goDown_queueOwes _
    · exact cut.queueOwes (k := fun _ => 0) hs q
  | reset fresh =>
    obtain ⟨now, cause, slot, fallback, hp⟩ := fresh.ports p
    exact hp ▸ afterReset_queueOwes now cause slot fallback

/-! #### The transfers (R170, R180) -/

/-- A transfer stays a message of the port when its queue only grows at its end. -/
theorem TransferSound.grow {x y : PortState} (h : TransferSound x) (transfer : y.transfer = x.transfer)
    (queue : ∃ more, y.queue = x.queue ++ more) : TransferSound y := by
  obtain ⟨more, queue⟩ := queue
  refine ⟨transfer ▸ h.position, fun bytes n hy => ?_, transfer ▸ h.media⟩
  have hx := h.control bytes n (transfer ▸ hy)
  rw [queue]
  cases hq : x.queue with
  | nil => simp [hq] at hx
  | cons e rest => simpa [hq] using hx

theorem TransferSound.of_none {x : PortState} (h : x.transfer = none) : TransferSound x :=
  ⟨by simp [h], by simp [h], by simp [h]⟩

theorem PortState.settleOverflow_grows (now : Word) (p : Port) (x : PortState) :
    ∃ more, (x.settleOverflow now p).queue = x.queue ++ more := by
  unfold PortState.settleOverflow
  split
  · exact ⟨_, rfl⟩
  · exact ⟨[], (List.append_nil _).symm⟩

theorem PortState.offer_grows (now : Word) (p : Port) (mask : Word) (n : Notice) (x : PortState) :
    ∃ more, (x.offer now p mask n).queue = x.queue ++ more := by
  unfold PortState.offer
  (repeat' split)
  · exact ⟨[], (List.append_nil _).symm⟩
  · exact ⟨[], (List.append_nil _).symm⟩
  · exact PortState.settleOverflow_grows now p x.dropNotice
  · exact ⟨_, rfl⟩

theorem PortMove.transferSound {x y : PortState} (h : PortMove x y) (hx : TransferSound x) : TransferSound y := by
  cases h with
  | aside _ queue _ _ transfer => exact hx.grow transfer ⟨[], by rw [queue, List.append_nil]⟩
  | wake => exact hx.grow rfl ⟨[], (List.append_nil _).symm⟩
  | offered now p mask n => exact hx.grow (PortState.offer_untouched now p mask n x).2.2 (PortState.offer_grows now p mask n x)
  | begun _ queue _ _ transfer position room control media =>
    refine ⟨fun u hu => ?_, fun bytes n hu => ?_, fun m current bytes n hu => ?_⟩
    · obtain rfl := Option.some.inj (transfer.symm.trans hu)
      exact ⟨position.ge, position ▸ room⟩
    · obtain rfl := Option.some.inj (transfer.symm.trans hu)
      exact queue ▸ control rfl
    · obtain rfl := Option.some.inj (transfer.symm.trans hu)
      exact media m current rfl
  | @byte t b transfer next =>
    obtain ⟨hroom, -⟩ := List.getElem?_eq_some_iff.mp next
    refine ⟨fun u hu => ?_, fun bytes n hu => ?_, fun m current bytes n hu => ?_⟩
    · cases hu
      exact ⟨Nat.le_add_left 1 _, hroom⟩
    · cases t
      cases hu
      exact hx.control _ _ transfer
    · cases t
      cases hu
      exact hx.media _ _ _ _ transfer
  | left queue now p => exact .of_none (PortState.settleOverflow_untouched now p _).2.2
  | ended => exact .of_none rfl

theorem TransferSound.staleMedia {x : PortState} (h : TransferSound x) (c : Chan) : TransferSound (x.staleMedia c) := by
  unfold PortState.staleMedia
  split
  · next m current frame position ht =>
    split
    · refine ⟨fun u hu => ?_, fun bytes n hu => (by cases hu), fun m' current' bytes n hu => ?_⟩
      · cases hu
        exact h.position ⟨.media m current, frame, position⟩ ht
      · cases hu
        exact h.media _ _ _ _ ht
    · exact h
  · exact h

theorem Steps.transferSound {s t : State} (h : Steps s t) (hs : ∀ p, TransferSound (s.port p)) (p : Port) :
    TransferSound (t.port p) :=
  h.keep (I := fun s => ∀ p, TransferSound (s.port p))
    (fun hmove hs => hmove.ports (P := fun _ x => TransferSound x) (·.transferSound) (fun c h => h.staleMedia c) hs) hs p

theorem Course.transferSound {s t : State} (h : Course s t) (hs : ∀ p, TransferSound (s.port p)) (p : Port) :
    TransferSound (t.port p) := by
  have hkeep {s : State} {p : Port} {f : PortState → PortState} (hs : ∀ p, TransferSound (s.port p))
      (hf : TransferSound (f (s.port p))) : ∀ q, TransferSound ((s.modPort p f).port q) :=
    State.forall_port_modPort (P := fun _ x => TransferSound x) hs hf
  cases h with
  | quiet h => exact h.transferSound hs p
  | request taken _ _ answered =>
    obtain ⟨a, r, hact, hrest⟩ := answered
    have htaken := taken.transferSound hs
    have hacted := hact.transferSound (hkeep htaken ((htaken _).grow rfl ⟨[], (List.append_nil _).symm⟩))
    exact hrest.transferSound (hkeep hacted ((hacted _).grow rfl ⟨_, rfl⟩)) p
  | media taken => exact taken.transferSound hs p
  | silence cut parks => exact parks.transferSound (hkeep (cut.transferSound hs) (.of_none rfl)) p
  | reset fresh =>
    obtain ⟨now, cause, slot, fallback, hp⟩ := fresh.ports p
    exact hp ▸ .of_none rfl

/-- Settles O5, with the requests counted and not yet answered as a debt of the queue's replies. -/
theorem queueLimitsKept : Obligations.QueueLimitsKept := by
  refine ⟨fun s t hs hstep p => ?_, fun s t hs hstep p => ?_⟩
  · obtain ⟨q, hcourse⟩ := step_course hstep
    exact (queueOwes_zero_iff _).mp (hcourse.queueOwes (fun p => (queueOwes_zero_iff _).mpr (hs p)) p)
  · obtain ⟨q, hcourse⟩ := step_course hstep
    exact hcourse.transferSound hs p

end Sys2Proof.Machine

namespace Sys2Proof.Machine

/-! ### The bindings of the channels (O6) -/

/-- A channel's binding, for a given set of ports its holder may be of. -/
def Channel.BoundTo (up : Port → Prop) (ch : Channel) : Prop :=
  match ch.state with
  | .run => ∃ p, ch.holder = some p ∧ up p
  | .draining => ch.holder.isSome = true
  | .parked => ch.holder = none
  | .idle => ch.holder = none ∧ ch.fallback = none ∧ ch.parkFallback = none ∧ ch.lead = false

theorem State.bound_iff (s : State) (c : Chan) : s.bound c ↔ (s.chan c).BoundTo fun p => (s.port p).up = true := Iff.rfl

theorem Channel.BoundTo.imp {up up' : Port → Prop} {ch : Channel} (h : ch.BoundTo up)
    (mono : ch.state = .run → ∀ p, ch.holder = some p → up p → up' p) : ch.BoundTo up' := by
  unfold Channel.BoundTo at *
  cases hstate : ch.state <;> simp only [hstate] at h ⊢
  case run =>
    obtain ⟨p, hp, hup⟩ := h
    exact ⟨p, hp, mono hstate p hp hup⟩
  all_goals exact h

/-- A change that leaves a channel's binding and its place on its loop. -/
structure Channel.SameBinding (x y : Channel) : Prop where
  state : y.state = x.state
  holder : y.holder = x.holder
  fallback : y.fallback = x.fallback
  parkFallback : y.parkFallback = x.parkFallback
  loop : y.loop = x.loop
  lead : y.lead = x.lead

theorem Channel.SameBinding.boundTo {x y : Channel} (h : x.SameBinding y) {up : Port → Prop} (hx : x.BoundTo up) :
    y.BoundTo up := by
  unfold Channel.BoundTo at *
  rw [h.state, h.holder, h.fallback, h.parkFallback, h.lead]
  exact hx

theorem ChanMove.sameBinding {x y : Channel} (h : ChanMove x y) : x.SameBinding y := by
  cases h with
  | keepNotice n =>
    unfold Channel.keepNotice
    split <;> exact ⟨rfl, rfl, rfl, rfl, rfl, rfl⟩
  | build start samples =>
    unfold Channel.build Channel.putHistory
    dsimp only
    (repeat' split) <;> exact ⟨rfl, rfl, rfl, rfl, rfl, rfl⟩
  | sampleTaken =>
    unfold Channel.sampleTaken
    (repeat' split) <;> exact ⟨rfl, rfl, rfl, rfl, rfl, rfl⟩
  | stats | det | voice | discardNotices | toData | toVoice | formed | completed | cut =>
    exact ⟨rfl, rfl, rfl, rfl, rfl, rfl⟩

theorem Shift.sameBinding {res : PerChan Nat} {c : Chan} {x y : ChanPool} (h : Shift res c x y) :
    x.1.SameBinding y.1 := by
  rw [h.frame]
  exact ⟨rfl, rfl, rfl, rfl, rfl, rfl⟩

theorem PoolMove.sameBinding {res : PerChan Nat} {c : Chan} {x y : ChanPool} (h : PoolMove res c x y) :
    x.1.SameBinding y.1 := by
  cases h with
  | tick _ level => exact (tickBlock_shift level x).sameBinding
  | @set k v new =>
    obtain ⟨state, holder, fallback, parkFallback, loop, lead⟩ := (applyChannelSet_shift (res := res) (c := c) k new x).sameBinding
    exact ⟨state, holder, fallback, parkFallback, loop, lead⟩

/-- A channel's binding changes while it stays open: its place on its loop stays. -/
theorem Rebind.place {up : Port → Prop} {x y : Channel} (h : Rebind up x y) :
    x.state ≠ .idle ∧ y.state ≠ .idle ∧ y.loop = x.loop ∧ y.lead = x.lead := by
  cases h with
  | fallback run | parkFallback run => exact ⟨by simp [run], by simp [run], rfl, rfl⟩
  | parked run => exact ⟨by simp [run], by simp, rfl, rfl⟩
  | claimed parked => exact ⟨by simp [parked], by simp [Channel.claimed], rfl, rfl⟩
  | drained run now =>
    unfold Channel.drained
    split <;> exact ⟨by simp [run], by simp [Channel.startPlaying, Channel.playFrom], rfl, rfl⟩

theorem Rebind.boundTo {up up' : Port → Prop} (mono : ∀ p, up p → up' p) {x y : Channel} (h : Rebind up x y)
    (hx : x.BoundTo up') : y.BoundTo up' := by
  cases h with
  | fallback run | parkFallback run =>
    simp only [Channel.BoundTo, run] at hx ⊢
    exact hx
  | parked run => rfl
  | @claimed p parked holder => exact ⟨p, rfl, mono p holder⟩
  | drained run now =>
    simp only [Channel.BoundTo, run] at hx
    obtain ⟨p, hp, -⟩ := hx
    unfold Channel.drained
    split <;> simp [Channel.BoundTo, Channel.startPlaying, Channel.playFrom, hp]

/-- No move of a port takes it DOWN. -/
theorem PortMove.up {x y : PortState} (h : PortMove x y) (hx : x.up = true) : y.up = true := by
  cases h with
  | aside up | begun up => exact up.trans hx
  | wake => rfl
  | offered => rw [(PortState.offer_untouched ..).1]; exact hx
  | left => rw [(PortState.settleOverflow_untouched ..).1]; exact hx
  | byte | ended => exact hx

theorem PortState.staleMedia_up (c : Chan) (x : PortState) : (x.staleMedia c).up = x.up := by
  unfold PortState.staleMedia
  (repeat' split) <;> rfl

theorem Move.up {s t : State} (h : Move s t) {p : Port} (hp : (s.port p).up = true) : (t.port p).up = true :=
  h.ports (P := fun q x => (s.port q).up = true → x.up = true) (fun h hx hq => h.up (hx hq))
    (fun c hx hq => by rw [PortState.staleMedia_up]; exact hx hq) (fun _ h => h) p hp

theorem mem_chanAll (c : Chan) : c ∈ Chan.all := by cases c <;> decide

theorem State.mem_attached {s : State} {l : Loop} {c : Chan} :
    c ∈ s.attached l ↔ (s.chan c).state ≠ .idle ∧ (s.chan c).loop = l := by
  unfold State.attached Channel.attachedTo
  cases c <;> simp [Chan.all]

theorem State.successor_open {s : State} {c d : Chan} (h : s.successor c = some d) :
    d ∈ s.attached (s.chan c).loop ∧ d ≠ c ∧ (s.chan c).lead = true := by
  unfold State.successor at h
  split at h
  · next hlead =>
    obtain ⟨hd, hne⟩ := List.mem_filter.mp (List.mem_of_mem_head? h)
    exact ⟨hd, by simpa using hne, hlead⟩
  · cases h

/-- A move keeps the bindings, to ports that are UP or excused. -/
theorem Move.boundTo {excused : Port → Prop} {s t : State} (hmove : Move s t)
    (h : ∀ c, (s.chan c).BoundTo fun p => (s.port p).up = true ∨ excused p) (c : Chan) :
    (t.chan c).BoundTo fun p => (t.port p).up = true ∨ excused p := by
  have hup {x : Channel} (hx : x.BoundTo fun p => (s.port p).up = true ∨ excused p) :
      x.BoundTo fun p => (t.port p).up = true ∨ excused p := hx.imp fun _ _ _ hp => hp.imp_left hmove.up
  cases hmove with
  | aside chans => exact hup (by rw [State.chan, chans]; exact h c)
  | port => exact hup (h c)
  | chan hmove => exact hup (State.forall_chan_modChan h (hmove.sameBinding.boundTo (h _)) c)
  | rebind hmove => exact hup (State.forall_chan_modChan h (hmove.boundTo (fun _ => .inl) (h _)) c)
  | pool hmove =>
    refine hup ?_
    rw [State.chan_modChanPool]
    split
    · exact hmove.sameBinding.boundTo (h _)
    · exact h c
  | toIdle d =>
    refine hup ?_
    rw [State.toIdle_chan]
    split
    · exact ⟨rfl, rfl, rfl, rfl⟩
    · split
      · next hsucc =>
        obtain ⟨hlive, -⟩ := State.mem_attached.mp (State.successor_open hsucc).1
        have hc := h c
        unfold Channel.BoundTo at hc ⊢
        cases hstate : (s.chan c).state <;> simp only [hstate] at hc ⊢
        case idle => exact absurd hstate hlive
        all_goals exact hc
      · exact h c
  | @setUp p o d b up =>
    refine hup ?_
    rw [State.setUp_chan]
    split
    · exact ⟨p, rfl, .inl up⟩
    · exact h c
  | loop | dial | ringRefused | stored | gains | program | loaded => exact hup (h c)

theorem Steps.boundTo {excused : Port → Prop} {s t : State} (h : Steps s t)
    (hs : ∀ c, (s.chan c).BoundTo fun p => (s.port p).up = true ∨ excused p) (c : Chan) :
    (t.chan c).BoundTo fun p => (t.port p).up = true ∨ excused p :=
  h.keep (I := fun s => ∀ c, (s.chan c).BoundTo fun p => (s.port p).up = true ∨ excused p)
    (fun hmove hs => hmove.boundTo hs) hs c

/-! ### The leads of the loops (O6) -/

theorem State.leads_eq (s : State) (l : Loop) :
    s.leads l = Chan.all.filter fun c => (s.chan c).attachedTo l && (s.chan c).lead := by
  unfold State.leads State.attached
  rw [List.filter_filter]
  exact List.filter_congr fun c _ => Bool.and_comm _ _

/-- Channels that keep their places keep their loop's leads; its dial buffer may be emptied. -/
theorem LoopLed.congr {s t : State} {l : Loop} (h : LoopLed s l)
    (place : ∀ c, (t.chan c).attachedTo l = (s.chan c).attachedTo l ∧
      ((t.chan c).attachedTo l = true → (t.chan c).lead = (s.chan c).lead))
    (dial : (t.loop l).dial = (s.loop l).dial ∨ (t.loop l).dial = []) : LoopLed t l := by
  have hattached : t.attached l = s.attached l := List.filter_congr fun c _ => (place c).1
  have hleads : t.leads l = s.leads l := by
    unfold State.leads
    rw [hattached]
    refine List.filter_congr fun c hc => (place c).2 ?_
    exact (place c).1.trans (List.mem_filter.mp hc).2
  refine ⟨hattached ▸ h.two, hattached ▸ hleads ▸ h.lead, fun hopen => ?_⟩
  obtain hdial | hdial := dial
  · exact hdial.trans (h.dial (hattached ▸ hopen))
  · exact hdial

theorem LoopMove.dial {x y : LoopState} (h : LoopMove x y) : y.dial = x.dial ∨ y.dial = [] := by
  cases h with
  | emptyDial | hungUp => exact .inr rfl
  | toneOver cause moment =>
    left
    unfold LoopState.toneOver
    dsimp only
    (repeat' split) <;> rfl
  | denialEnded _ now threshold =>
    left
    unfold LoopState.denialEnded
    dsimp only
    split <;> rfl
  | current _ _ _ =>
    left
    unfold LoopState.judge
    dsimp only
    (repeat' split) <;> rfl
  | key _ _ =>
    left
    unfold LoopState.hearKey
    split <;> rfl
  | settled _ _ =>
    left
    unfold LoopState.settle
    split <;> rfl
  | ownerDown _ =>
    left
    unfold LoopState.ownerDown
    (repeat' split) <;> rfl
  | sampled now codec m threshold =>
    left
    unfold LoopState.sampled LoopState.hearKey LoopState.judge LoopState.putMix LoopState.advance
    dsimp only
    (repeat' split) <;> rfl
  | leaves | polarity | requested | auto | parkLost | denied | counted | seized | seizedInTest | tripped | offhook
    | broken | returned | pulse | ignored | digit | rung | rungInTest | testBegun | refEnded | tested | ringDropped
    | turned | transmits | transmitted | blockTaken => exact .inl rfl

theorem LoopMove.loopLed {s : State} {l : Loop} {f : LoopState → LoopState} (h : LoopMove (s.loop l) (f (s.loop l)))
    {k : Loop} (hk : LoopLed s k) : LoopLed (s.modLoop l f) k := by
  refine hk.congr (fun _ => ⟨rfl, fun _ => rfl⟩) ?_
  rw [State.loop_modLoop]
  split
  · next heq => subst heq; exact h.dial
  · exact .inl rfl

/-- A loop without a lead has no channel. -/
theorem LoopLed.unled {s : State} {l : Loop} (h : LoopLed s l) (free : s.leadOf l = none) : (s.attached l).isEmpty = true := by
  by_contra hopen
  have hone := h.lead (by simpa using hopen)
  have hnone : s.leads l = [] := List.filter_eq_nil_iff.mpr (List.find?_eq_none.mp free)
  simp [hnone] at hone

theorem Channel.SameBinding.place {x y : Channel} (h : x.SameBinding y) (l : Loop) :
    y.attachedTo l = x.attachedTo l ∧ (y.attachedTo l = true → y.lead = x.lead) :=
  ⟨by rw [Channel.attachedTo, Channel.attachedTo, h.state, h.loop], fun _ => h.lead⟩

/-- The channels of a loop after one returned to IDLE. -/
theorem State.toIdle_attached (s : State) (c : Chan) (l : Loop) :
    (s.toIdle c).attached l = (s.attached l).filter (· != c) := by
  unfold State.attached
  rw [List.filter_filter]
  refine List.filter_congr fun d _ => ?_
  rw [State.toIdle_chan]
  by_cases hd : d = c
  · simp [hd, Channel.attachedTo, Channel.closed]
  · rw [if_neg hd]
    split <;> simp [Channel.attachedTo, hd]

/-- A channel's return to IDLE passes its lead (R6). -/
theorem LoopLed.toIdle {s : State} {c : Chan} (unled : (s.chan c).state = .idle → (s.chan c).lead = false) {l : Loop}
    (h : LoopLed s l) : LoopLed (s.toIdle c) l := by
  have hdial : ((s.toIdle c).loop l).dial = (s.loop l).dial := by
    rw [State.toIdle_loop]
    split <;> rfl
  by_cases hc : c ∈ s.attached l
  case neg =>
    refine h.congr (fun d => ?_) (.inl hdial)
    rw [State.toIdle_chan]
    split
    · next hd =>
      subst hd
      have hfalse : (s.chan d).attachedTo l = false := by
        by_contra hin
        exact hc (List.mem_filter.mpr ⟨mem_chanAll d, by simpa using hin⟩)
      exact ⟨by rw [hfalse]; rfl, fun h => by cases h⟩
    · split
      · next hsucc =>
        refine ⟨rfl, fun hd => ?_⟩
        obtain ⟨hmem, -, hlead⟩ := State.successor_open hsucc
        obtain ⟨-, hloop⟩ := State.mem_attached.mp hmem
        have hdl : (s.chan d).loop = l := by
          simp only [Channel.attachedTo, Bool.and_eq_true, beq_iff_eq] at hd
          exact hd.2
        have hidle : (s.chan c).state = .idle := by
          by_contra hlive
          exact hc (State.mem_attached.mpr ⟨hlive, hloop.symm.trans hdl⟩)
        simp [unled hidle] at hlead
      · exact ⟨rfl, fun _ => rfl⟩
  case pos =>
    obtain ⟨-, hloop⟩ := State.mem_attached.mp hc
    have hattached := s.toIdle_attached c l
    have hone : ((s.attached l).filter (· != c)).length ≤ 1 := by
      have hsplit := (s.attached l).length_eq_length_filter_add (· != c)
      have hpos : 0 < ((s.attached l).filter fun d => !(d != c)).length :=
        List.length_pos_of_mem (List.mem_filter.mpr ⟨hc, by simp⟩)
      have := h.two
      omega
    refine ⟨by rw [hattached]; omega, fun hopen => ?_, fun _ => hdial.trans (h.dial ?_)⟩
    · cases hlead : (s.chan c).lead with
      | true =>
        obtain ⟨d, hd⟩ : ∃ d, (s.attached l).filter (· != c) = [d] := by
          rw [hattached] at hopen
          refine List.length_eq_one_iff.mp (Nat.le_antisymm hone (List.length_pos_iff.mpr ?_))
          simpa using hopen
        have hsucc : s.successor c = some d := by
          unfold State.successor State.others
          rw [hlead, hloop, hd]
          rfl
        have hleadNew : ((s.toIdle c).chan d).lead = true := by
          rw [State.toIdle_chan, if_neg (State.successor_open hsucc).2.1, if_pos hsucc]
        unfold State.leads
        rw [hattached, hd]
        simp [hleadNew]
      | false =>
        have hsame : (s.toIdle c).leads l = s.leads l := by
          unfold State.leads
          rw [hattached, List.filter_filter]
          refine List.filter_congr fun d _ => ?_
          rw [State.toIdle_chan]
          by_cases hd : d = c
          · simp [hd, hlead]
          · simp [hd, State.successor, hlead]
        rw [hsame]
        exact h.lead (by simpa using List.ne_nil_of_mem hc)
    · simpa using List.ne_nil_of_mem hc

/-- Channels counted after one of them has joined. -/
theorem Chan.length_filter_join {a b : Chan → Bool} (c : Chan) (out : a c = false) (joined : b c = true)
    (others : ∀ d, d ≠ c → b d = a d) : (Chan.all.filter b).length = (Chan.all.filter a).length + 1 := by
  have h (d : Chan) (hd : d ≠ c) := others d hd
  cases c <;> simp_all [Chan.all, List.filter_cons] <;> grind

theorem State.setUp_loop (s : State) (p : Port) (o : OpenParams) (c : Chan) (b : Pool) (l : Loop) :
    (s.setUp p o c b).loop l
      = if l = o.loop ∧ (s.attached o.loop).isEmpty = true then (s.loop l).emptyDial else s.loop l := by
  unfold State.setUp
  dsimp only
  split
  · next hempty =>
    rw [State.loop_modLoop]
    simp only [hempty, and_true]
    rfl
  · next hopen =>
    rw [if_neg fun h => hopen h.2]
    rfl

theorem LoopLed.setUp {s : State} {l : Loop} (h : LoopLed s l) (p : Port) {o : OpenParams} {c : Chan} (b : Pool)
    (idle : (s.chan c).state = .idle) (two : (s.attached o.loop).length < 2) : LoopLed (s.setUp p o c b) l := by
  have hout (k : Loop) : (s.chan c).attachedTo k = false := by simp [Channel.attachedTo, idle]
  by_cases hl : l = o.loop
  case neg =>
    refine h.congr (fun d => ?_) (.inl (by rw [State.setUp_loop, if_neg (fun h => hl h.1)]))
    rw [State.setUp_chan]
    split
    · next hd =>
      have hin : ((s.chan c).opened p o s.live.template (s.nextBlockTime o.loop) (s.attached o.loop).isEmpty).attachedTo l
          = false := by
        simp only [Channel.attachedTo, Channel.opened, Bool.and_eq_false_iff, beq_eq_false_iff_ne]
        exact .inr (Ne.symm hl)
      rw [hin, hd, hout]
      exact ⟨rfl, fun h => by cases h⟩
    · exact ⟨rfl, fun _ => rfl⟩
  case pos =>
    subst hl
    have hjoin : ((s.setUp p o c b).attached o.loop).length = (s.attached o.loop).length + 1 := by
      refine Chan.length_filter_join c (hout _) ?_ fun d hd => by rw [State.setUp_chan, if_neg hd]
      rw [State.setUp_chan, if_pos rfl]
      simp [Channel.attachedTo, Channel.opened]
    refine ⟨by omega, fun _ => ?_, fun _ => ?_⟩
    · by_cases hempty : (s.attached o.loop).isEmpty = true
      · have hnone : s.leads o.loop = [] := by
          unfold State.leads
          rw [List.isEmpty_iff.mp hempty]
          rfl
        rw [State.leads_eq] at hnone ⊢
        rw [Chan.length_filter_join (a := fun d => (s.chan d).attachedTo o.loop && (s.chan d).lead) c (by simp [hout]) ?_
          fun d hd => by rw [State.setUp_chan, if_neg hd], hnone]
        · rfl
        · rw [State.setUp_chan, if_pos rfl]
          simp [Channel.attachedTo, Channel.opened, hempty]
      · have hsame : (s.setUp p o c b).leads o.loop = s.leads o.loop := by
          rw [State.leads_eq, State.leads_eq]
          refine List.filter_congr fun d _ => ?_
          rw [State.setUp_chan]
          split
          · next hd =>
            subst hd
            simp [Channel.opened, hempty, hout]
          · rfl
        rw [hsame]
        exact h.lead (by simpa using hempty)
    · rw [State.setUp_loop]
      split
      · rfl
      · next hopen => exact h.dial (by simpa using hopen)

/-- A change of one channel that keeps its place. -/
theorem LoopLed.modChan {s t : State} {c : Chan} {y : Channel} {l : Loop} (h : LoopLed s l)
    (chans : ∀ d, t.chan d = if d = c then y else s.chan d) (loops : t.loop l = s.loop l)
    (place : y.attachedTo l = (s.chan c).attachedTo l ∧ (y.attachedTo l = true → y.lead = (s.chan c).lead)) :
    LoopLed t l := by
  refine h.congr (fun d => ?_) (.inl (by rw [loops]))
  rw [chans]
  split
  · next hd => exact hd ▸ place
  · exact ⟨rfl, fun _ => rfl⟩

theorem State.chan_modChan_self (s : State) (c d : Chan) (f : Channel → Channel) :
    (s.modChan c f).chan d = if d = c then f (s.chan c) else s.chan d := by
  rw [State.chan_modChan]
  split
  · next h => rw [h]
  · rfl

theorem Move.loopLed {s t : State} (hmove : Move s t) (unled : ∀ c, (s.chan c).state = .idle → (s.chan c).lead = false)
    {l : Loop} (h : LoopLed s l) : LoopLed t l := by
  have hsame {t : State} (chans : t.chans = s.chans) (loops : t.loops = s.loops) : LoopLed t l := by
    have hchan (c : Chan) : t.chan c = s.chan c := by rw [State.chan, chans]; rfl
    exact h.congr (fun c => hchan c ▸ ⟨rfl, fun _ => rfl⟩) (.inl (by rw [State.loop, loops]; rfl))
  cases hmove with
  | aside chans _ loops => exact hsame chans loops
  | chan hmove => exact h.modChan (fun d => State.chan_modChan_self s _ d _) rfl (hmove.sameBinding.place l)
  | rebind hmove =>
    obtain ⟨hx, hy, hloop, hlead⟩ := hmove.place
    refine h.modChan (fun d => State.chan_modChan_self s _ d _) rfl ⟨?_, fun _ => hlead⟩
    rw [Channel.attachedTo, Channel.attachedTo, hloop, bne_iff_ne.mpr hx, bne_iff_ne.mpr hy]
  | pool hmove => exact h.modChan (fun d => State.chan_modChanPool s _ d _) rfl (hmove.sameBinding.place l)
  | loop hmove => exact hmove.loopLed h
  | @dial k free digit =>
    by_cases hl : l = k
    · subst hl
      have hempty : ((s.modLoop l (·.dialDigit digit)).attached l).isEmpty = true := h.unled free
      exact ⟨h.two, fun hopen => by simp [hempty] at hopen, fun hopen => by simp [hempty] at hopen⟩
    · exact h.congr (fun _ => ⟨rfl, fun _ => rfl⟩) (.inl (by rw [State.loop_modLoop, if_neg hl]))
  | toIdle c => exact h.toIdle (unled c)
  | setUp _ idle two => exact h.setUp _ _ idle two
  | port | ringRefused | stored | gains | program | loaded => exact hsame rfl rfl

/-- The bindings, to ports that are UP or excused, and the leads. -/
structure State.Bindings (s : State) (excused : Port → Prop) : Prop where
  bound : ∀ c, (s.chan c).BoundTo fun p => (s.port p).up = true ∨ excused p
  led : ∀ l, LoopLed s l

theorem Channel.BoundTo.unled {up : Port → Prop} {ch : Channel} (h : ch.BoundTo up) (idle : ch.state = .idle) :
    ch.lead = false := by
  simp only [Channel.BoundTo, idle] at h
  obtain ⟨-, -, -, hlead⟩ := h
  exact hlead

theorem Steps.bindings {excused : Port → Prop} {s t : State} (h : Steps s t) (hs : s.Bindings excused) :
    t.Bindings excused :=
  h.keep (I := fun s => s.Bindings excused)
    (fun hmove hs => ⟨hmove.boundTo hs.bound, fun l => hmove.loopLed (fun c => (hs.bound c).unled) (hs.led l)⟩) hs

/-- A port's change keeps the bindings, when its fall is excused. -/
theorem State.Bindings.modPort {excused excused' : Port → Prop} {s : State} {p : Port} {f : PortState → PortState}
    (h : s.Bindings excused) (weaker : ∀ q, excused q → excused' q)
    (hp : (f (s.port p)).up = (s.port p).up ∨ excused' p) : (s.modPort p f).Bindings excused' where
  bound c := (h.bound c).imp fun _ q _ hq => by
    rw [State.port_modPort]
    split
    · next hqp =>
      subst hqp
      obtain hp | hp := hp
      · exact hp ▸ hq.imp_right (weaker q)
      · exact .inr hp
    · exact hq.imp_right (weaker q)
  led l := (h.led l).congr (fun _ => ⟨rfl, fun _ => rfl⟩) (.inl rfl)

theorem FreshFrom.bindings {excused : Port → Prop} {s t : State} (h : FreshFrom s t) : t.Bindings excused := by
  have hidle (c : Chan) : (t.chan c).state = .idle := by
    obtain ⟨set, hset⟩ := h.chans c
    rw [hset]
    rfl
  have hempty (l : Loop) : t.attached l = [] := List.filter_eq_nil_iff.mpr fun c _ => by
    simp [Channel.attachedTo, hidle]
  refine ⟨fun c => ?_, fun l => ⟨by simp [hempty], fun hopen => ?_, fun hopen => ?_⟩⟩
  · obtain ⟨set, hset⟩ := h.chans c
    rw [hset]
    exact ⟨rfl, rfl, rfl, rfl⟩
  · simp [hempty] at hopen
  · simp [hempty] at hopen

theorem Course.bindings {s t : State} (h : Course s t) (hs : s.Bindings fun _ => False) : t.Bindings fun _ => False := by
  cases h with
  | quiet h => exact h.bindings hs
  | @request _ _ p taken _ _ answered =>
    obtain ⟨a, r, hact, hrest⟩ := answered
    have hcounted := (taken.bindings hs).modPort (excused' := fun _ => False) (p := p)
      (f := fun x => { x with outstanding := x.outstanding + 1 }) (fun _ h => h) (.inl rfl)
    exact hrest.bindings ((hact.bindings hcounted).modPort (fun _ h => h) (.inl rfl))
  | @media a c m taken =>
    obtain ⟨bound, led⟩ := taken.bindings hs
    have hsame := (playMedia_shift (res := a.reserves) (c := c) a.timebase m (a.chan c, a.pool)).sameBinding
    refine ⟨fun d => ?_, fun l => (led l).modChan (fun d => State.chan_modChanPool a _ d _) rfl (hsame.place l)⟩
    rw [State.chan_modChanPool]
    split
    · exact hsame.boundTo (bound c)
    · exact bound d
  | @silence a _ p cut parks none =>
    obtain ⟨bound, led⟩ := parks.bindings ((cut.bindings hs).modPort (excused' := (· = p)) nofun (.inr rfl))
    refine ⟨fun c => (bound c).imp fun hrun q hq hup => .inl (hup.resolve_right fun hqp => ?_), led⟩
    exact none c hrun (hqp ▸ hq)
  | reset fresh => exact fresh.bindings

/-- Settles O6, with the port that goes DOWN excused until its channels are parked. -/
theorem bindingsKept : Obligations.BindingsKept := by
  intro s t bound led hstep
  obtain ⟨q, hcourse⟩ := step_course hstep
  obtain ⟨bound, led⟩ := hcourse.bindings
    ⟨fun c => Channel.BoundTo.imp (bound c) fun _ _ _ hp => .inl hp,
      fun l => (led l).congr (fun _ => ⟨rfl, fun _ => rfl⟩) (.inl rfl)⟩
  exact ⟨fun c => (bound c).imp fun _ _ _ hp => hp.resolve_right id, led⟩

end Sys2Proof.Machine

namespace Sys2Proof.Machine

/-! ### Distances between sequence numbers (R39) -/

@[simp] theorem seqDist_self (a : Half) : seqDist a a = 0 := by simp [seqDist]

theorem seqDist_eq_zero {a b : Half} : seqDist a b = 0 ↔ b = a := by
  constructor
  · intro h
    have hsub : b - a = 0#16 := BitVec.eq_of_toInt_eq (by simpa [seqDist] using h)
    bv_omega
  · rintro rfl
    exact seqDist_self b

theorem seqDist_next (a : Half) : seqDist a (a + 1) = 1 := by
  have h : a + 1 - a = 1#16 := by bv_omega
  rw [seqDist, h]
  rfl

/-- A distance from another anchor, when it does not wrap. -/
theorem seqDist_rebase {a a' b : Half} (low : -32768 ≤ seqDist a b - seqDist a a')
    (high : seqDist a b - seqDist a a' < 32768) : seqDist a' b = seqDist a b - seqDist a a' := by
  have h : b - a' = (b - a) - (a' - a) := by bv_omega
  have hmod : (b - a').toInt = ((b - a).toInt - (a' - a).toInt).bmod (2 ^ 16) := by rw [h, BitVec.toInt_sub]
  unfold seqDist at low high ⊢
  rw [hmod]
  exact Int.bmod_eq_of_le (by omega) (by omega)

/-! ### What playout does to a queue (O9) -/

/-- The distance of an entry from the anchor of its epoch (R39). -/
def Playout.dist (pe : Playout) (e : QEntry) : Int := seqDist (pe.anchorOf e) e.seq

/-- The entry stands at next_play (R54). -/
def Playout.atNext (pe : Playout) (e : QEntry) : Bool := e.epoch == pe.playEpoch && e.seq == pe.nextPlay

/-- The playing epoch moves to an entry (R51, R54). -/
def Playout.moveTo (pe : Playout) (e : QEntry) : Playout := { pe with playEpoch := e.epoch, nextPlay := e.seq }

/-- next_play moves on; the entry that stood there leaves the queue (R54, R55, R76). -/
def Playout.pass (pe : Playout) : Playout :=
  { pe with queue := pe.queue.eraseP pe.atNext, nextPlay := pe.nextPlay + 1 }

/-- What a tick does to the playout, piece by piece. -/
inductive PlayStep : Playout → Playout → Prop
  | aside {x y : Playout} (queue : y.queue = x.queue) (anchored : y.anchored = x.anchored)
      (epochIn : y.epochIn = x.epochIn) (baseIn : y.baseIn = x.baseIn) (playEpoch : y.playEpoch = x.playEpoch)
      (nextPlay : y.nextPlay = x.nextPlay) (lastPlayed : y.lastPlayed.length = 80) (missing : y.missing ≤ 65535)
      (current : ∀ b, y.current = some b → 79 ≤ b.samples.length ∧ b.samples.length ≤ 81 ∧ b.pos ≤ b.samples.length) :
      PlayStep x y
  | drop (x : Playout) (keep : QEntry → Bool) : PlayStep x { x with queue := x.queue.filter keep }
  | moveTo {x : Playout} {e : QEntry} (oldest : x.queue.head? = some e) : PlayStep x (x.moveTo e)
  | pass (x : Playout) : PlayStep x x.pass

abbrev PlaySteps : Playout → Playout → Prop := Relation.ReflTransGen PlayStep

theorem PlayStep.steps {x y : Playout} (h : PlayStep x y) : PlaySteps x y := .single h

/-! #### The playout stays sound -/

/-- Fewer entries of a sound playout. -/
theorem PlayoutSound.sublist {x y : Playout} (h : PlayoutSound x) (queue : y.queue.Sublist x.queue)
    (epochIn : y.epochIn = x.epochIn) (playEpoch : y.playEpoch = x.playEpoch) (lastPlayed : y.lastPlayed = x.lastPlayed)
    (current : y.current = x.current) (missing : y.missing = x.missing) : PlayoutSound y := by
  obtain ⟨⟨old, new, hqueue, hold, hnew⟩, hentries, hlast, hcurrent, hmissing⟩ := h
  rw [hqueue, List.sublist_append_iff] at queue
  obtain ⟨old', new', hqueue', hold', hnew'⟩ := queue
  refine ⟨⟨old', new', hqueue', fun e he => ?_, fun e he => ?_⟩, fun e he => hentries e ?_, lastPlayed ▸ hlast,
    current ▸ hcurrent, missing ▸ hmissing⟩
  · exact playEpoch ▸ hold e (hold'.subset he)
  · exact epochIn ▸ hnew e (hnew'.subset he)
  · rw [hqueue]
    rw [hqueue', List.mem_append] at he
    exact List.mem_append.mpr (he.imp (hold'.subset ·) (hnew'.subset ·))

/-- The entries of an epoch that is not the playing one are the arrival epoch's. -/
theorem PlayoutSound.epoch_cases {pe : Playout} (h : PlayoutSound pe) {e : QEntry} (he : e ∈ pe.queue) :
    e.epoch = pe.playEpoch ∨ e.epoch = pe.epochIn := by
  obtain ⟨old, new, hqueue, hold, hnew⟩ := h.epochs
  rw [hqueue, List.mem_append] at he
  exact he.imp (hold e) (hnew e)

/-- When the oldest entry is not of the playing epoch, every entry is of the arrival epoch. -/
theorem PlayoutSound.arrival_of_oldest {pe : Playout} (h : PlayoutSound pe) {e : QEntry} (oldest : pe.queue.head? = some e)
    (he : e.epoch ≠ pe.playEpoch) : ∀ f ∈ pe.queue, f.epoch = pe.epochIn := by
  obtain ⟨old, new, hqueue, hold, hnew⟩ := h.epochs
  cases old with
  | nil =>
    rw [List.nil_append] at hqueue
    exact hqueue ▸ hnew
  | cons f rest =>
    rw [hqueue] at oldest
    obtain rfl : f = e := by simpa using oldest
    exact absurd (hold f (.head _)) he

theorem PlayoutSound.moveTo {pe : Playout} (h : PlayoutSound pe) {e : QEntry} (oldest : pe.queue.head? = some e) :
    PlayoutSound (pe.moveTo e) := by
  by_cases he : e.epoch = pe.playEpoch
  · exact h.sublist (.refl _) rfl he rfl rfl rfl
  · have hall := h.arrival_of_oldest oldest he
    refine { h with epochs := ⟨pe.queue, [], (List.append_nil _).symm, fun f hf => ?_, by simp⟩ }
    exact (hall f hf).trans (hall e (List.mem_of_mem_head? oldest)).symm

theorem PlayStep.sound {x y : Playout} (h : PlayStep x y) (hx : PlayoutSound x) : PlayoutSound y := by
  cases h with
  | aside queue anchored epochIn baseIn playEpoch nextPlay lastPlayed missing current =>
    exact ⟨by simpa only [queue, epochIn, playEpoch] using hx.epochs, by simpa only [queue] using hx.entries, lastPlayed,
      current, missing⟩
  | drop keep => exact hx.sublist List.filter_sublist rfl rfl rfl rfl rfl
  | moveTo oldest => exact hx.moveTo oldest
  | pass => exact hx.sublist List.eraseP_sublist rfl rfl rfl rfl rfl

theorem PlaySteps.sound {x y : Playout} (h : PlaySteps x y) (hx : PlayoutSound x) : PlayoutSound y := by
  induction h with
  | refl => exact hx
  | tail _ hstep ih => exact hstep.sound ih

/-! #### The queue keeps its order -/

/-- The order of a queue for a maximum depth (R39), which is at most 64 while it holds an entry. -/
structure Playout.Ordered (depth : Nat) (pe : Playout) : Prop where
  anchored : pe.anchored = false → pe.queue = []
  window : ∀ e ∈ pe.queue, 0 ≤ pe.dist e ∧ pe.dist e < depth
  order : pe.queue.Pairwise fun x y => x.epoch = y.epoch → pe.dist x < pe.dist y
  small : pe.queue ≠ [] → depth ≤ 64

theorem queueOrdered_iff {ch : Channel} (small : ch.pe.queue ≠ [] → ch.settings.depthMax ≤ 64) :
    QueueOrdered ch ↔ ch.pe.Ordered ch.settings.depthMax :=
  ⟨fun ⟨anchored, window, order⟩ => ⟨anchored, window, order, small⟩,
    fun ⟨anchored, window, order, _⟩ => ⟨anchored, window, order⟩⟩

/-- Fewer entries, each epoch's anchor moved on by no more than its first entry's distance. -/
theorem Playout.Ordered.rebase {depth : Nat} {x y : Playout} (h : x.Ordered depth) (queue : y.queue.Sublist x.queue)
    (anchored : y.anchored = x.anchored) (k : Byte → Int) (forward : ∀ n, 0 ≤ k n)
    (shift : ∀ e ∈ y.queue, y.dist e = x.dist e - k e.epoch ∧ 0 ≤ y.dist e) : y.Ordered depth where
  anchored hy := by
    rw [h.anchored (anchored ▸ hy)] at queue
    exact List.sublist_nil.mp queue
  window e he := by
    obtain ⟨hdist, hpos⟩ := shift e he
    have := (h.window e (queue.subset he)).2
    have := forward e.epoch
    omega
  order := (h.order.sublist queue).imp_of_mem fun {e f} he hf hlt hepoch => by
    have := hlt hepoch
    rw [(shift e he).1, (shift f hf).1, hepoch]
    omega
  small hy := h.small fun hx => hy (by rw [hx] at queue; exact List.sublist_nil.mp queue)

theorem Playout.Ordered.same {depth : Nat} {x y : Playout} (h : x.Ordered depth) (queue : y.queue.Sublist x.queue)
    (anchored : y.anchored = x.anchored) (baseIn : y.baseIn = x.baseIn) (playEpoch : y.playEpoch = x.playEpoch)
    (nextPlay : y.nextPlay = x.nextPlay) : y.Ordered depth := by
  refine h.rebase queue anchored (fun _ => 0) (fun _ => le_rfl) fun e he => ?_
  have hdist : y.dist e = x.dist e := by
    unfold Playout.dist Playout.anchorOf
    rw [baseIn, playEpoch, nextPlay]
  exact ⟨by omega, hdist ▸ (h.window e (queue.subset he)).1⟩

/-- The oldest entry is nearest to the anchor of its epoch. -/
theorem Playout.Ordered.oldest_le {depth : Nat} {pe : Playout} (h : pe.Ordered depth) {e f : QEntry}
    (oldest : pe.queue.head? = some e) (hf : f ∈ pe.queue) (hepoch : f.epoch = e.epoch) : pe.dist e ≤ pe.dist f := by
  obtain ⟨rest, hqueue⟩ := List.head?_eq_some_iff.mp oldest
  have horder := h.order
  rw [hqueue] at hf horder
  obtain rfl | hf := List.mem_cons.mp hf
  · exact le_rfl
  · exact (List.rel_of_pairwise_cons horder hf hepoch.symm).le

theorem Playout.Ordered.moveTo {depth : Nat} {pe : Playout} (h : pe.Ordered depth) {e : QEntry}
    (oldest : pe.queue.head? = some e) (others : e.epoch ≠ pe.playEpoch → ∀ f ∈ pe.queue, f.epoch ≠ pe.playEpoch) :
    (pe.moveTo e).Ordered depth := by
  have he := List.mem_of_mem_head? oldest
  have hsmall := h.small (List.ne_nil_of_mem he)
  obtain ⟨hlow, hhigh⟩ := h.window e he
  refine h.rebase (.refl _) rfl (fun n => if n = e.epoch then pe.dist e else 0)
    (fun n => by split <;> omega) fun f hf => ?_
  obtain ⟨hflow, hfhigh⟩ := h.window f hf
  by_cases hepoch : f.epoch = e.epoch
  · have hnear := h.oldest_le oldest hf hepoch
    have hanchor : pe.anchorOf e = pe.anchorOf f := by rw [Playout.anchorOf, Playout.anchorOf, hepoch]
    have hdist : (pe.moveTo e).dist f = pe.dist f - pe.dist e := by
      have hrebase := seqDist_rebase (a := pe.anchorOf f) (a' := e.seq) (b := f.seq)
      unfold Playout.dist at *
      rw [hanchor] at hlow hhigh hnear ⊢
      rw [← hrebase (by omega) (by omega)]
      simp [Playout.anchorOf, Playout.moveTo, hepoch]
    rw [if_pos hepoch]
    exact ⟨hdist, by omega⟩
  · have hdist : (pe.moveTo e).dist f = pe.dist f := by
      have hf' : f.epoch ≠ pe.playEpoch := by
        by_cases hplay : e.epoch = pe.playEpoch
        · exact hplay ▸ hepoch
        · exact others hplay f hf
      simp [Playout.dist, Playout.anchorOf, Playout.moveTo, hepoch, hf']
    rw [if_neg hepoch]
    exact ⟨by omega, by omega⟩

/-- A list in which a test holds of one element at most has none left once the first is erased. -/
theorem not_mem_eraseP_of_pairwise {α : Type} {p : α → Bool} {l : List α} (h : l.Pairwise fun x y => ¬(p x = true ∧ p y = true))
    {e : α} (he : e ∈ l.eraseP p) : p e = false := by
  induction l with
  | nil => simp at he
  | cons x rest ih =>
    obtain ⟨hx, hrest⟩ := List.pairwise_cons.mp h
    rw [List.eraseP_cons] at he
    cases hp : p x with
    | true =>
      rw [hp, cond_true] at he
      simpa using fun hpe => hx e he ⟨hp, hpe⟩
    | false =>
      rw [hp, cond_false] at he
      obtain rfl | he := List.mem_cons.mp he
      · exact hp
      · exact ih hrest he

theorem Playout.atNext_iff {pe : Playout} {e : QEntry} :
    pe.atNext e = true ↔ e.epoch = pe.playEpoch ∧ e.seq = pe.nextPlay := by
  simp [Playout.atNext]

/-- Only an entry at next_play is at no distance from it. -/
theorem Playout.atNext_iff_dist {pe : Playout} {e : QEntry} (hepoch : e.epoch = pe.playEpoch) :
    pe.atNext e = true ↔ pe.dist e = 0 := by
  rw [Playout.atNext_iff, Playout.dist, Playout.anchorOf, if_pos hepoch, seqDist_eq_zero]
  exact ⟨fun h => h.2, fun h => ⟨hepoch, h⟩⟩

theorem Playout.Ordered.pass {depth : Nat} {pe : Playout} (h : pe.Ordered depth) : pe.pass.Ordered depth := by
  refine h.rebase List.eraseP_sublist rfl (fun n => if n = pe.playEpoch then 1 else 0)
    (fun n => by split <;> omega) fun e he => ?_
  have hmem : e ∈ pe.queue := List.eraseP_sublist.subset he
  obtain ⟨hlow, hhigh⟩ := h.window e hmem
  have hsmall := h.small (List.ne_nil_of_mem hmem)
  by_cases hepoch : e.epoch = pe.playEpoch
  · have hone : pe.queue.Pairwise fun x y => ¬(pe.atNext x = true ∧ pe.atNext y = true) :=
      h.order.imp fun {x y} hlt hboth => by
        obtain ⟨hx, hy⟩ := hboth
        have hxe := (Playout.atNext_iff.mp hx).1
        have hye := (Playout.atNext_iff.mp hy).1
        have := hlt (hxe.trans hye.symm)
        rw [(Playout.atNext_iff_dist hxe).mp hx, (Playout.atNext_iff_dist hye).mp hy] at this
        omega
    have hnot : pe.dist e ≠ 0 := fun hzero => by
      have := not_mem_eraseP_of_pairwise hone he
      rw [(Playout.atNext_iff_dist hepoch).mpr hzero] at this
      cases this
    have hdist : pe.pass.dist e = pe.dist e - 1 := by
      have hrebase := seqDist_rebase (a := pe.nextPlay) (a' := pe.nextPlay + 1) (b := e.seq)
      rw [seqDist_next] at hrebase
      simp only [Playout.dist, Playout.anchorOf, hepoch, if_true, Playout.pass] at hlow hhigh ⊢
      exact hrebase (by omega) (by omega)
    rw [if_pos hepoch]
    exact ⟨hdist, by omega⟩
  · have hdist : pe.pass.dist e = pe.dist e := by simp [Playout.dist, Playout.anchorOf, hepoch, Playout.pass]
    rw [if_neg hepoch]
    exact ⟨by omega, by omega⟩

theorem PlayStep.ordered {depth : Nat} {x y : Playout} (h : PlayStep x y) (sound : PlayoutSound x)
    (hx : x.Ordered depth) : y.Ordered depth := by
  cases h with
  | aside queue anchored epochIn baseIn playEpoch nextPlay =>
    exact hx.same (queue ▸ .refl _) anchored baseIn playEpoch nextPlay
  | drop keep => exact hx.same List.filter_sublist rfl rfl rfl rfl
  | moveTo oldest =>
    refine hx.moveTo oldest fun he f hf => ?_
    have hall := sound.arrival_of_oldest oldest he
    rw [hall f hf, ← hall _ (List.mem_of_mem_head? oldest)]
    exact he
  | pass => exact hx.pass

theorem PlaySteps.ordered {depth : Nat} {x y : Playout} (h : PlaySteps x y) (sound : PlayoutSound x)
    (hx : x.Ordered depth) : y.Ordered depth := by
  induction h with
  | refl => exact hx
  | tail hsteps hstep ih => exact hstep.ordered (PlaySteps.sound hsteps sound) ih

end Sys2Proof.Machine

namespace Sys2Proof.Machine

/-! ### The tick, piece by piece (O9) -/

/-- A change of what neither the queue nor the stored blocks depend on. -/
theorem PlayStep.of_frame {x y : Playout} (sound : PlayoutSound x)
    (frame : y = { x with
      playState := y.playState, afterOpen := y.afterOpen, lastPeak := y.lastPeak, tickDue := y.tickDue,
      outputPeak := y.outputPeak, freshRun := y.freshRun }) : PlayStep x y := by
  rw [frame]
  exact .aside rfl rfl rfl rfl rfl rfl sound.lastPlayed sound.missing sound.current

/-- What a take does: steps of the playout, and a whole block. -/
structure Takes (x : ChanPool) (r : TickBlock × ChanPool) : Prop where
  steps : PlaySteps x.1.pe r.2.1.pe
  block : r.1.samples.length = 80

theorem Takes.after {x y : ChanPool} {r : TickBlock × ChanPool} (h : PlaySteps x.1.pe y.1.pe) (take : Takes y r) :
    Takes x r := ⟨h.trans take.steps, take.block⟩

theorem silence_length : silence.length = 80 := List.length_replicate

section
variable {res : PerChan Nat} {c : Chan} {x : ChanPool}

theorem takeEntry_takes (sound : PlayoutSound x.1.pe) {e : QEntry} (he : e ∈ x.1.pe.queue)
    (next : x.1.pe.atNext e = true) : Takes x (takeEntry res c e x) := by
  obtain ⟨hlength, -⟩ := sound.entries e he
  obtain ⟨hepoch, hseq⟩ := Playout.atNext_iff.mp next
  have hkey : (fun q : QEntry => q.epoch == e.epoch && q.seq == e.seq) = x.1.pe.atNext := by
    funext q
    rw [Playout.atNext, hepoch, hseq]
  refine ⟨(PlayStep.pass x.1.pe).steps.trans (PlayStep.steps ?_), hlength⟩
  refine .aside ?_ rfl rfl rfl rfl ?_ hlength (Nat.zero_le _) sound.current
  · simp only [takeEntry, hkey, Playout.pass]
  · simp only [takeEntry, hseq, Playout.pass]

/-- When no entry stands at next_play, none leaves the queue. -/
theorem Playout.pass_of_none {pe : Playout} (none : pe.atNextPlay = none) :
    pe.pass = { pe with nextPlay := pe.nextPlay + 1 } := by
  rw [Playout.pass, List.eraseP_of_forall_not (p := pe.atNext) (List.find?_eq_none.mp none)]

/-- A block is missed only when no entry stands at next_play (R55). -/
theorem missBlock_takes (sound : PlayoutSound x.1.pe) (none : x.1.pe.atNextPlay = none) :
    Takes x ((missBlock x.1).1, ((missBlock x.1).2, x.2)) := by
  have hsteps (missing : Nat) (h : missing ≤ 65535) :
      PlaySteps x.1.pe { x.1.pe with missing := missing, nextPlay := x.1.pe.nextPlay + 1 } := by
    have hpass := PlayStep.pass x.1.pe
    rw [Playout.pass_of_none none] at hpass
    exact hpass.steps.trans
      (PlayStep.steps (.aside rfl rfl rfl rfl rfl rfl sound.lastPlayed h sound.current))
  have hmissing : stopAt 65535 (x.1.pe.missing + 1) ≤ 65535 := Nat.min_le_right _ _
  unfold missBlock
  dsimp only
  split
  · exact ⟨hsteps _ hmissing, silence_length⟩
  · split
    · exact ⟨hsteps _ hmissing, by simp [conceal, sound.lastPlayed]⟩
    · exact ⟨hsteps _ hmissing, silence_length⟩

/-- The first entry at next_play. -/
theorem Playout.atNextPlay_some {pe : Playout} {e : QEntry} (h : pe.atNextPlay = some e) :
    e ∈ pe.queue ∧ pe.atNext e = true := ⟨List.mem_of_find?_eq_some h, List.find?_some h⟩

theorem takeBlock_takes (sound : PlayoutSound x.1.pe) : Takes x (takeBlock res c x) := by
  unfold takeBlock
  dsimp only
  split
  · next e he =>
    obtain ⟨hmem, hnext⟩ := Playout.atNextPlay_some he
    exact takeEntry_takes sound hmem hnext
  · next hnone =>
    split
    · exact missBlock_takes sound hnone
    · split
      · next e he =>
        exact .after (y := (x.1.playFrom e, x.2)) (PlayStep.moveTo he).steps
          (takeEntry_takes (sound.moveTo he) (List.mem_of_mem_head? he) (Playout.atNext_iff.mpr ⟨rfl, rfl⟩))
      · exact missBlock_takes sound hnone

theorem skipNumber_plays : PlaySteps x.1.pe (skipNumber res c x).1.pe := by
  unfold skipNumber
  dsimp only
  split
  · next e he =>
    obtain ⟨hepoch, hseq⟩ := Playout.atNext_iff.mp (Playout.atNextPlay_some he).2
    have hkey : (fun q : QEntry => q.epoch == e.epoch && q.seq == e.seq) = x.1.pe.atNext := by
      funext q
      rw [Playout.atNext, hepoch, hseq]
    rw [hkey]
    exact (PlayStep.pass x.1.pe).steps
  · next hnone =>
    have hpass := PlayStep.pass x.1.pe
    rw [Playout.pass_of_none hnone] at hpass
    exact hpass.steps

theorem voiceSteps_takes (sound : PlayoutSound x.1.pe) (silenceLevel : Nat) (judge : Bool) :
    Takes x (voiceSteps res c silenceLevel judge x) := by
  unfold voiceSteps
  dsimp only
  split
  · exact ⟨.refl, silence_length⟩
  · split
    · have hskip := skipNumber_plays (res := res) (c := c) (x := x)
      exact .after hskip (takeBlock_takes (hskip.sound sound))
    · exact takeBlock_takes sound

theorem skipOldest_plays : PlaySteps x.1.pe (skipOldest res c x).1.pe := by
  unfold skipOldest
  split
  · exact .refl
  · next e rest hqueue =>
    have hpass : (x.1.pe.moveTo e).pass = { x.1.pe.moveTo e with queue := rest, nextPlay := e.seq + 1 } := by
      simp [Playout.pass, Playout.moveTo, hqueue, Playout.atNext]
    refine (PlayStep.moveTo (e := e) (by rw [hqueue]; rfl)).steps.trans ?_
    have := (PlayStep.pass (x.1.pe.moveTo e)).steps
    rw [hpass] at this
    exact this

theorem dataSteps_takes (sound : PlayoutSound x.1.pe) (judge : Bool) : Takes x (dataSteps res c judge x) := by
  unfold dataSteps
  dsimp only
  split
  · exact ⟨.refl, sound.lastPlayed⟩
  · split
    · have hskip := skipOldest_plays (res := res) (c := c) (x := x)
      exact .after hskip (takeBlock_takes (hskip.sound sound))
    · exact takeBlock_takes sound

/-- A slip leaves the playout and changes a whole block by one sample at most (R72). -/
theorem slip_block (ch : Channel) {block : List Sample} (h : block.length = 80) :
    (ch.slip block).2.pe = ch.pe ∧ 79 ≤ (ch.slip block).1.length ∧ (ch.slip block).1.length ≤ 81 := by
  unfold Channel.slip
  dsimp only
  (repeat' split) <;> simp [h]

/-- A block of 79 to 81 samples becomes the current one. -/
theorem begin_plays {ch : Channel} (sound : PlayoutSound ch.pe) {block : List Sample}
    (length : 79 ≤ block.length ∧ block.length ≤ 81) (peak : Nat) : PlaySteps ch.pe (ch.begin block peak).pe := by
  refine PlayStep.steps (.aside rfl rfl rfl rfl rfl rfl sound.lastPlayed sound.missing fun b hb => ?_)
  obtain rfl := Option.some.inj hb
  exact ⟨length.1, length.2, Nat.zero_le _⟩

theorem finishTick_plays {ch : Channel} (sound : PlayoutSound ch.pe) {b : TickBlock} (block : b.samples.length = 80) :
    PlaySteps ch.pe (finishTick b ch).pe := by
  have hprimed : PlayStep ch.pe
      (if rePrimes ch b then { ch with pe := { ch.pe with playState := .priming } } else ch).pe := by
    refine .of_frame sound ?_
    split <;> rfl
  have hfinish (primed : Channel) (hsound : PlayoutSound primed.pe) :
      PlaySteps primed.pe (match ch.mode with
        | .voice => (primed.slip b.samples).2.begin (primed.slip b.samples).1 b.peak
        | .data => primed.begin b.samples b.peak).pe := by
    obtain ⟨hpe, hlength⟩ := slip_block primed block
    cases ch.mode with
    | voice =>
      rw [← hpe] at hsound ⊢
      exact begin_plays hsound hlength _
    | data => exact begin_plays hsound (by omega) _
  exact hprimed.steps.trans (hfinish _ (hprimed.sound sound))

theorem playingTick_plays (sound : PlayoutSound x.1.pe) (silenceLevel : Nat) (judge : Bool) :
    PlaySteps x.1.pe (playingTick res c silenceLevel judge x).1.pe := by
  have htakes : Takes x (match x.1.mode with
      | .voice => voiceSteps res c silenceLevel judge x
      | .data => dataSteps res c judge x) := by
    split
    · exact voiceSteps_takes sound silenceLevel judge
    · exact dataSteps_takes sound judge
  exact htakes.steps.trans (finishTick_plays (htakes.steps.sound sound) htakes.block)

theorem startPlaying_plays {ch : Channel} (sound : PlayoutSound ch.pe) {e : QEntry} (oldest : ch.pe.queue.head? = some e) :
    PlaySteps ch.pe (ch.startPlaying e).pe :=
  (PlayStep.moveTo oldest).steps.trans (PlayStep.of_frame (sound.moveTo oldest) rfl).steps

theorem tickBlock_plays (sound : PlayoutSound x.1.pe) (silenceLevel : Nat) :
    PlaySteps x.1.pe (tickBlock res c silenceLevel x).1.pe := by
  unfold tickBlock
  split
  · exact playingTick_plays sound _ _
  · split
    · have hsilent := begin_plays sound (block := silence) (by rw [silence_length]; omega) 0
      unfold primingTick
      split
      · exact hsilent
      · next e rest hqueue =>
        split
        · exact hsilent
        · have hstart := startPlaying_plays sound (e := e) (by rw [hqueue]; rfl)
          exact hstart.trans (playingTick_plays (x := (x.1.startPlaying e, x.2)) (hstart.sound sound) _ _)
    · exact playingTick_plays sound _ _

end

theorem drained_plays {ch : Channel} (sound : PlayoutSound ch.pe) (now : Word) : PlaySteps ch.pe (ch.drained now).pe := by
  unfold Channel.drained
  split
  · next e rest _ hqueue =>
    have hstart := startPlaying_plays sound (e := e) (by rw [hqueue]; rfl)
    exact hstart.trans (PlayStep.of_frame (hstart.sound sound) rfl).steps
  · exact .refl

theorem sampleTaken_plays {ch : Channel} (sound : PlayoutSound ch.pe) : PlaySteps ch.pe ch.sampleTaken.pe := by
  unfold Channel.sampleTaken
  split
  · exact .refl
  · split
    · exact (PlayStep.of_frame sound rfl).steps
    · next b hb =>
      obtain ⟨hlow, hhigh, -⟩ := sound.current b hb
      refine PlayStep.steps (.aside rfl rfl rfl rfl rfl rfl sound.lastPlayed sound.missing fun b' hb' => ?_)
      obtain rfl := Option.some.inj hb'
      exact ⟨hlow, hhigh, Nat.min_le_right _ _⟩

theorem ChanMove.plays {x y : Channel} (h : ChanMove x y) (sound : PlayoutSound x.pe) :
    PlaySteps x.pe y.pe ∧ y.settings = x.settings := by
  cases h with
  | keepNotice n =>
    unfold Channel.keepNotice
    split <;> exact ⟨.refl, rfl⟩
  | build start samples =>
    unfold Channel.build Channel.putHistory
    dsimp only
    (repeat' split) <;> exact ⟨.refl, rfl⟩
  | sampleTaken =>
    refine ⟨sampleTaken_plays sound, ?_⟩
    unfold Channel.sampleTaken
    (repeat' split) <;> rfl
  | stats | det | voice | discardNotices | toData | toVoice | formed | completed | cut => exact ⟨.refl, rfl⟩

theorem Rebind.plays {up : Port → Prop} {x y : Channel} (h : Rebind up x y) (sound : PlayoutSound x.pe) :
    PlaySteps x.pe y.pe ∧ y.settings = x.settings := by
  cases h with
  | drained _ now =>
    refine ⟨drained_plays sound now, ?_⟩
    unfold Channel.drained
    split <;> rfl
  | fallback | parkFallback | parked | claimed => exact ⟨.refl, rfl⟩

/-- A CHANNEL_SET keeps an open channel's queue, but for what lies beyond a lowered maximum depth. -/
theorem applyChannelSet_queue (res : PerChan Nat) (c : Chan) (k : TemplateKey) (new : ChannelSettings) (x : ChanPool) :
    (applyChannelSet res c k new x).1.settings = new ∧
      ∃ keep : QEntry → Bool, (applyChannelSet res c k new x).1.pe = { x.1.pe with queue := x.1.pe.queue.filter keep }
        ∧ ∀ e, keep e = true → new.depthMax < x.1.settings.depthMax → x.1.pe.dist e < new.depthMax := by
  unfold applyChannelSet
  dsimp only
  split
  · refine ⟨rfl, _, rfl, fun e he _ => ?_⟩
    simpa [Playout.dist] using he
  · next hnot => exact ⟨rfl, fun _ => true, by simp, fun _ _ hlt => absurd hlt hnot⟩

theorem PoolMove.sound {res : PerChan Nat} {c : Chan} {x y : ChanPool} (h : PoolMove res c x y)
    (hx : PlayoutSound x.1.pe) : PlayoutSound y.1.pe := by
  cases h with
  | tick _ level => exact (tickBlock_plays hx level).sound hx
  | @set k v new =>
    obtain ⟨-, keep, hpe, -⟩ := applyChannelSet_queue res c k new x
    rw [hpe]
    exact (PlayStep.drop x.1.pe keep).sound hx

/-! ### Arriving media (O9) -/

/-- A block stored in the queue (R47). -/
def Playout.store (seq : Half) (samples : List Sample) (pe : Playout) : Playout :=
  { pe with queue := insertEntry pe.anchor ⟨pe.epochIn, seq, samples, peakOf samples⟩ pe.queue }

theorem storeBlock_pe (res : PerChan Nat) (c : Chan) (seq : Half) (samples : List Sample) (x : ChanPool) :
    (storeBlock res c seq samples x).1.1.pe = x.1.pe
      ∨ (storeBlock res c seq samples x).1.1.pe = x.1.pe.store seq samples := by
  unfold storeBlock
  split
  · exact .inl rfl
  · exact .inr rfl

theorem mem_insertEntry {anchor : Half} {e f : QEntry} {q : List QEntry} :
    f ∈ insertEntry anchor e q ↔ f = e ∨ f ∈ q := by
  induction q with
  | nil => simp [insertEntry]
  | cons x rest ih =>
    unfold insertEntry
    split
    · simp
    · rw [List.mem_cons, ih, List.mem_cons]
      tauto

/-- Entries of other epochs stay in front (R39). -/
theorem insertEntry_append {anchor : Half} {e : QEntry} {old : List QEntry} (h : ∀ x ∈ old, x.epoch ≠ e.epoch)
    (new : List QEntry) : insertEntry anchor e (old ++ new) = old ++ insertEntry anchor e new := by
  induction old with
  | nil => rfl
  | cons x rest ih =>
    obtain ⟨hx, hrest⟩ := List.forall_mem_cons.mp h
    rw [List.cons_append, insertEntry, if_neg fun hh => hx hh.1, ih hrest, List.cons_append]

theorem PlayoutSound.store {pe : Playout} (h : PlayoutSound pe) (seq : Half) {samples : List Sample}
    (length : samples.length = 80) : PlayoutSound (pe.store seq samples) := by
  obtain ⟨old, new, hqueue, hold, hnew⟩ := h.epochs
  refine { h with epochs := ?_, entries := fun e he => ?_ }
  · by_cases hepoch : pe.playEpoch = pe.epochIn
    · refine ⟨(pe.store seq samples).queue, [], (List.append_nil _).symm, fun e he => ?_, by simp⟩
      obtain rfl | he := mem_insertEntry.mp he
      · exact hepoch.symm
      · exact (h.epoch_cases he).elim id fun hin => hin.trans hepoch.symm
    · have happend := insertEntry_append (anchor := pe.anchor) (e := ⟨pe.epochIn, seq, samples, peakOf samples⟩)
        (fun x hx => by rw [hold x hx]; exact hepoch) new
      refine ⟨old, _, by rw [Playout.store, hqueue, happend], hold, fun e he => ?_⟩
      obtain rfl | he := mem_insertEntry.mp he
      · rfl
      · exact hnew e he
  · obtain rfl | he := mem_insertEntry.mp he
    · exact ⟨length, rfl⟩
    · exact h.entries e he

/-- The arrival epoch's number moves on, when every entry is of the playing epoch (R45). -/
theorem PlayoutSound.beginEpoch {pe : Playout} (h : PlayoutSound pe) (playing : ∀ e ∈ pe.queue, e.epoch = pe.playEpoch)
    (epochIn : Byte) (baseIn : Half) : PlayoutSound { pe with epochIn := epochIn, baseIn := baseIn } :=
  { h with epochs := ⟨pe.queue, [], (List.append_nil _).symm, playing, by simp⟩ }

/-- The first steps of a resync (R45). -/
def Playout.readied (res : PerChan Nat) (c : Chan) (x : ChanPool) : Playout :=
  (dropOldEpoch res c x).1.pe.adoptArrivalEpoch

theorem dropOldEpoch_plays (res : PerChan Nat) (c : Chan) (x : ChanPool) :
    PlaySteps x.1.pe (dropOldEpoch res c x).1.pe ∧ (dropOldEpoch res c x).1.pe.epochIn = x.1.pe.epochIn
      ∧ (dropOldEpoch res c x).1.pe.playEpoch = x.1.pe.playEpoch := by
  unfold dropOldEpoch
  split
  · exact ⟨(PlayStep.drop x.1.pe _).steps, rfl, rfl⟩
  · exact ⟨.refl, rfl, rfl⟩

/-- With the older epoch dropped, the entries are all of one epoch. -/
theorem dropOldEpoch_one (res : PerChan Nat) (c : Chan) {x : ChanPool} (h : PlayoutSound x.1.pe) :
    (∀ e ∈ (dropOldEpoch res c x).1.pe.queue, e.epoch = (dropOldEpoch res c x).1.pe.playEpoch)
      ∨ ∀ e ∈ (dropOldEpoch res c x).1.pe.queue, e.epoch = (dropOldEpoch res c x).1.pe.epochIn := by
  obtain ⟨old, new, hqueue, hold, hnew⟩ := h.epochs
  cases old with
  | nil =>
    right
    obtain ⟨hsteps, hepoch, -⟩ := dropOldEpoch_plays res c x
    intro e he
    rw [hepoch]
    refine hnew e ?_
    have hsub : (dropOldEpoch res c x).1.pe.queue ⊆ x.1.pe.queue := by
      unfold dropOldEpoch
      split
      · exact List.filter_sublist.subset
      · exact List.Subset.refl _
    simpa [hqueue] using hsub he
  | cons f rest =>
    have holdest : x.1.pe.oldestEpoch = x.1.pe.playEpoch := by
      rw [Playout.oldestEpoch, hqueue]
      exact hold f (.head _)
    unfold dropOldEpoch
    split
    · right
      intro e he
      obtain ⟨hmem, hgone⟩ := List.mem_filter.mp he
      have hne : e.epoch ≠ x.1.pe.playEpoch := by simpa [holdest] using hgone
      exact (h.epoch_cases hmem).resolve_left hne
    · next htwo =>
      left
      intro e he
      have := htwo
      simp only [Playout.twoEpochs, List.any_eq_true, not_exists, not_and, bne_iff_ne, not_not, holdest] at this
      exact this e he

theorem readied_plays (res : PerChan Nat) (c : Chan) {x : ChanPool} (h : PlayoutSound x.1.pe) :
    PlaySteps x.1.pe (Playout.readied res c x) ∧ (Playout.readied res c x).epochIn = x.1.pe.epochIn
      ∧ ((Playout.readied res c x).playEpoch = x.1.pe.playEpoch
        ∨ (Playout.readied res c x).playEpoch = x.1.pe.epochIn)
      ∧ ∀ e ∈ (Playout.readied res c x).queue, e.epoch = (Playout.readied res c x).playEpoch := by
  obtain ⟨hsteps, hepoch, hplay⟩ := dropOldEpoch_plays res c x
  have hone := dropOldEpoch_one res c h
  unfold Playout.readied
  generalize (dropOldEpoch res c x).1.pe = pe at *
  unfold Playout.adoptArrivalEpoch
  split
  · next hadopt =>
    obtain ⟨hne, hnone⟩ := hadopt
    have hall : ∀ e ∈ pe.queue, e.epoch = pe.epochIn := by
      refine hone.elim (fun hplaying e he => ?_) id
      have := List.all_eq_true.mp hnone e he
      simp [hplaying e he] at this
    split
    · next e he =>
      have hfound : pe.queue.head? = some e := by
        rw [← he]
        cases hqueue : pe.queue with
        | nil => rfl
        | cons f rest => simp [hall f (by simp [hqueue])]
      have hepoch' := hall e (List.mem_of_mem_head? hfound)
      have hmove : pe.moveTo e = { pe with playEpoch := pe.epochIn, nextPlay := e.seq } := by
        rw [Playout.moveTo, hepoch']
      exact ⟨hsteps.trans (hmove ▸ (PlayStep.moveTo hfound).steps), hepoch, .inr hepoch, hall⟩
    · next hfind =>
      have hempty : pe.queue = [] := by
        refine List.eq_nil_iff_forall_not_mem.mpr fun e he => ?_
        have := List.find?_eq_none.mp hfind e he
        simp [hall e he] at this
      exact ⟨hsteps, hepoch, .inl hplay, by simp [hempty]⟩
  · next hstay =>
    refine ⟨hsteps, hepoch, .inl hplay, fun e he => ?_⟩
    obtain hplaying | harriving := hone
    · exact hplaying e he
    · by_contra hne
      refine hstay ⟨fun heq => hne ((harriving e he).trans heq), List.all_eq_true.mpr fun f hf => ?_⟩
      rw [bne_iff_ne, harriving f hf, ← harriving e he]
      exact hne

theorem handOver_pe (arrival : Word) (a : Arrival) (x : ChanPool) :
    (handOver arrival a x).1.pe = x.1.pe ∧ (handOver arrival a x).1.settings = x.1.settings := by
  unfold handOver
  split <;> exact ⟨rfl, rfl⟩

theorem storeArrival_pe (res : PerChan Nat) (c : Chan) (arrival : Word) (a : Arrival) (x : ChanPool) :
    (storeArrival res c arrival a x).1.pe = x.1.pe
      ∨ (storeArrival res c arrival a x).1.pe = x.1.pe.store a.seq a.samples := by
  have h := storeBlock_pe res c a.seq a.samples x
  unfold storeArrival
  dsimp only
  rw [(handOver_pe arrival a _).1]
  split <;> exact h

theorem resync_pe (res : PerChan Nat) (c : Chan) (seq : Half) (samples : List Sample) (x : ChanPool) :
    let begun : Playout := { Playout.readied res c x with epochIn := (Playout.readied res c x).epochIn + 1, baseIn := seq }
    (resync res c seq samples x).1.pe = begun ∨ (resync res c seq samples x).1.pe = begun.store seq samples :=
  storeBlock_pe res c seq samples (_, _)

/-- The first block after OPEN as the anchor (R43). -/
def Playout.anchorAt (seq : Half) (pe : Playout) : Playout := { pe with nextPlay := seq, baseIn := seq, anchored := true }

/-- The next arrival epoch, begun at a block (R45). -/
def Playout.beginEpoch (seq : Half) (pe : Playout) : Playout := { pe with epochIn := pe.epochIn + 1, baseIn := seq }

/-- next_play brought within depth_max numbers of an overrun block (R46). -/
def Playout.advance (depth : Nat) (seq : Half) (pe : Playout) : Playout :=
  { pe with
    queue := pe.queue.filter fun e =>
      !(e.epoch == pe.playEpoch && decide (seqDist pe.nextPlay e.seq < seqDist pe.nextPlay seq - depth + 1))
    nextPlay := seq - BitVec.ofNat 16 depth + 1 }

/-- A block stored or refused by the pool (R47). -/
def Playout.Offered (seq : Half) (samples : List Sample) (x y : Playout) : Prop := y = x ∨ y = x.store seq samples

/-- What a block's classification does to the playout (R42 to R47). -/
inductive Arrives (depth : Nat) (seq : Half) (samples : List Sample) : Playout → Playout → Prop
  | none (x : Playout) : Arrives depth seq samples x x
  | anchor {x y : Playout} (fresh : x.anchored = false)
      (stored : (x.anchorAt seq).Offered seq samples y) : Arrives depth seq samples x y
  | resync {x r y : Playout} (anchored : x.anchored = true) (steps : PlaySteps x r) (epochIn : r.epochIn = x.epochIn)
      (playEpoch : r.playEpoch = x.playEpoch ∨ r.playEpoch = x.epochIn)
      (playing : ∀ e ∈ r.queue, e.epoch = r.playEpoch)
      (stored : (r.beginEpoch seq).Offered seq samples y) : Arrives depth seq samples x y
  | advance {x y : Playout} (anchored : x.anchored = true) (near : seqDist x.anchor seq < 1024)
      (duplicate : ∀ e ∈ x.queue, e.epoch = x.epochIn → e.seq ≠ seq) (beyond : (depth : Int) ≤ seqDist x.anchor seq)
      (one : x.playEpoch = x.epochIn)
      (stored : (x.advance depth seq).Offered seq samples y) : Arrives depth seq samples x y
  | store {x y : Playout} (anchored : x.anchored = true) (duplicate : ∀ e ∈ x.queue, e.epoch = x.epochIn → e.seq ≠ seq)
      (low : 0 ≤ seqDist x.anchor seq) (high : seqDist x.anchor seq < depth) (stored : y = x.store seq samples) :
      Arrives depth seq samples x y

theorem classify_arrives (res : PerChan Nat) (c : Chan) (arrival : Word) {x : ChanPool} (sound : PlayoutSound x.1.pe)
    (a : Arrival) :
    Arrives x.1.settings.depthMax a.seq a.samples x.1.pe (classify res c arrival x a).1.pe := by
  unfold classify
  dsimp only
  split
  · next hanchored =>
    refine .anchor (by simpa using hanchored) ?_
    unfold anchorBlock
    dsimp only
    rw [(handOver_pe arrival a _).1]
    exact storeBlock_pe res c a.seq a.samples (_, _)
  · next hanchored =>
    replace hanchored : x.1.pe.anchored = true := by simpa using hanchored
    split
    · rw [(handOver_pe arrival a _).1]
      obtain ⟨hsteps, hepoch, hplay, hplaying⟩ := readied_plays res c sound
      exact .resync hanchored hsteps hepoch hplay hplaying (resync_pe res c a.seq a.samples x)
    · next hnear =>
      split
      · exact .none _
      · next hlow =>
        split
        · exact .none _
        · next hduplicate =>
          replace hduplicate : ∀ e ∈ x.1.pe.queue, e.epoch = x.1.pe.epochIn → e.seq ≠ a.seq := by
            intro e he hepoch hseq
            exact hduplicate (List.any_eq_true.mpr ⟨e, he, by simp [hepoch, hseq]⟩)
          split
          · next hbeyond =>
            split
            · next hone =>
              exact .advance hanchored (by omega) hduplicate hbeyond hone
                (storeArrival_pe res c arrival a (overrunAdvance res c a.seq x))
            · rw [(handOver_pe arrival a _).1]
              exact .none _
          · next hwithin =>
            obtain h | h := storeArrival_pe res c arrival a x
            · rw [h]
              exact .none _
            · exact .store hanchored hduplicate (by omega) (by omega) h

theorem Arrives.sound {depth : Nat} {seq : Half} {samples : List Sample} {x y : Playout}
    (h : Arrives depth seq samples x y) (length : samples.length = 80) (hx : PlayoutSound x) : PlayoutSound y := by
  have hstored {z y : Playout} (stored : z.Offered seq samples y) (hz : PlayoutSound z) : PlayoutSound y := by
    obtain rfl | rfl := stored
    · exact hz
    · exact hz.store seq length
  cases h with
  | none => exact hx
  | anchor _ stored => exact hstored stored { hx with }
  | resync _ steps _ _ playing stored => exact hstored stored ((steps.sound hx).beginEpoch playing _ _)
  | advance _ _ _ _ _ stored => exact hstored stored (hx.sublist List.filter_sublist rfl rfl rfl rfl rfl)
  | store _ _ _ _ stored => exact hstored (.inr stored) hx

theorem classify_settings (res : PerChan Nat) (c : Chan) (arrival : Word) (x : ChanPool) (a : Arrival) :
    (classify res c arrival x a).1.settings = x.1.settings := (classify_shift arrival x a).settings

theorem playMedia_sound (res : PerChan Nat) (c : Chan) (arrival : Word) (m : MediaMsg) (x : ChanPool)
    (whole : ∀ a ∈ m.arrivals, a.samples.length = 80) (hx : PlayoutSound x.1.pe) :
    PlayoutSound (playMedia res c arrival m x).1.pe := by
  unfold playMedia
  generalize m.arrivals = l at whole
  induction l generalizing x with
  | nil => exact hx
  | cons a rest ih =>
    obtain ⟨ha, hrest⟩ := List.forall_mem_cons.mp whole
    exact ih _ ((classify_arrives res c arrival hx a).sound ha hx) hrest

theorem cleared_sound (afterOpen : Bool) : PlayoutSound { Playout.cleared with afterOpen := afterOpen } :=
  ⟨⟨[], [], rfl, by simp, by simp⟩, by simp [Playout.cleared], silence_length, by simp [Playout.cleared],
    by simp [Playout.cleared]⟩

theorem playoutSound_kept {s t : State} (hs : ∀ c, PlayoutSound (s.chan c).pe) (h : step s = .next t) (c : Chan) :
    PlayoutSound (t.chan c).pe :=
  step_keeps_chans (P := fun x => PlayoutSound x.pe) (fun h hx => (h.plays hx).1.sound hx)
    (fun h hx => (h.plays hx).1.sound hx) (fun h hx => h.sound hx)
    (fun res c arrival m x whole hx => playMedia_sound res c arrival m x whole hx) (fun _ => cleared_sound false)
    (fun h => h) (fun _ _ _ _ _ _ => cleared_sound true) (fun _ => cleared_sound false) hs h c

end Sys2Proof.Machine

namespace Sys2Proof.Machine

/-! ### Arriving media keeps the order of the queue (O9) -/

theorem Playout.Ordered.of_empty {depth : Nat} {pe : Playout} (h : pe.queue = []) : pe.Ordered depth :=
  ⟨fun _ => h, by simp [h], by simp [h], fun hne => absurd h hne⟩

theorem PlaySteps.anchored {x y : Playout} (h : PlaySteps x y) : y.anchored = x.anchored := by
  induction h with
  | refl => rfl
  | tail _ hstep ih =>
    refine Eq.trans ?_ ih
    cases hstep with
    | aside queue anchored => exact anchored
    | drop | moveTo | pass => rfl

/-- An entry of a number that is not queued goes in its place in the order (R39). -/
theorem insertEntry_pairwise {anchor : Half} {e : QEntry} {q : List QEntry} {dist : QEntry → Int}
    (he : dist e = seqDist anchor e.seq) (hq : ∀ f ∈ q, f.epoch = e.epoch → dist f = seqDist anchor f.seq ∧ dist f ≠ dist e)
    (h : q.Pairwise fun x y => x.epoch = y.epoch → dist x < dist y) :
    (insertEntry anchor e q).Pairwise fun x y => x.epoch = y.epoch → dist x < dist y := by
  induction q with
  | nil => exact List.pairwise_singleton _ _
  | cons x rest ih =>
    obtain ⟨hx, hrest⟩ := List.pairwise_cons.mp h
    obtain ⟨hqx, hqrest⟩ := List.forall_mem_cons.mp hq
    unfold insertEntry
    split
    · next hbefore =>
      obtain ⟨hepoch, hlt⟩ := hbefore
      have hex : dist e < dist x := by rw [he, (hqx hepoch).1]; exact hlt
      refine List.pairwise_cons.mpr ⟨fun f hf hfe => ?_, h⟩
      obtain rfl | hf := List.mem_cons.mp hf
      · exact hex
      · exact hex.trans (hx f hf (hepoch.trans hfe))
    · next hafter =>
      refine List.pairwise_cons.mpr ⟨fun f hf hxf => ?_, ih hqrest hrest⟩
      obtain rfl | hf := mem_insertEntry.mp hf
      · obtain ⟨hdist, hne⟩ := hqx hxf
        have : ¬ seqDist anchor f.seq < seqDist anchor x.seq := fun hlt => hafter ⟨hxf, hlt⟩
        omega
      · exact hx f hf hxf

/-- A block stored within depth_max numbers of its anchor, of a number that is not queued (R47). -/
theorem Playout.Ordered.store {depth : Nat} {pe : Playout} (h : pe.Ordered depth) (anchored : pe.anchored = true)
    (small : depth ≤ 64) {seq : Half} (duplicate : ∀ e ∈ pe.queue, e.epoch = pe.epochIn → e.seq ≠ seq)
    (low : 0 ≤ seqDist pe.anchor seq) (high : seqDist pe.anchor seq < depth) (samples : List Sample) :
    (pe.store seq samples).Ordered depth := by
  have hanchor (f : QEntry) (hf : f.epoch = pe.epochIn) : pe.dist f = seqDist pe.anchor f.seq := by
    simp only [Playout.dist, Playout.anchorOf, Playout.anchor, hf, eq_comm]
  refine ⟨fun hnot => by simp [Playout.store, anchored] at hnot, fun e he => ?_, ?_, fun _ => small⟩
  · obtain rfl | he := mem_insertEntry.mp he
    · have := hanchor ⟨pe.epochIn, seq, samples, peakOf samples⟩ rfl
      have hsame : (pe.store seq samples).dist ⟨pe.epochIn, seq, samples, peakOf samples⟩ = seqDist pe.anchor seq := this
      omega
    · exact h.window e he
  · refine insertEntry_pairwise (dist := pe.dist) (hanchor _ rfl) (fun f hf hepoch => ⟨hanchor f hepoch, fun heq => ?_⟩)
      h.order
    obtain ⟨hfl, hfh⟩ := h.window f hf
    rw [hanchor f hepoch, hanchor _ rfl] at heq
    rw [hanchor f hepoch] at hfl hfh
    have hzero := seqDist_rebase (a := pe.anchor) (a' := f.seq) (b := seq) (by omega) (by omega)
    rw [heq, sub_self, seqDist_eq_zero] at hzero
    exact duplicate f hf hepoch hzero.symm

/-- The number that lies depth_max - 1 numbers before a block (R46). -/
theorem seqDist_back {a b : Half} {depth : Nat} (pos : 1 ≤ depth) (small : depth ≤ 64) (low : depth ≤ seqDist a b)
    (high : seqDist a b < 1024) : seqDist a (b - BitVec.ofNat 16 depth + 1) = seqDist a b - depth + 1 := by
  have hdepth : (BitVec.ofNat 16 (depth - 1)).toInt = depth - 1 := by
    rw [BitVec.toInt_eq_toNat_bmod, BitVec.toNat_ofNat, Nat.mod_eq_of_lt (by omega),
      Int.bmod_eq_of_le (by omega) (by omega)]
    omega
  have h : b - BitVec.ofNat 16 depth + 1 - a = (b - a) - BitVec.ofNat 16 (depth - 1) := by
    obtain ⟨n, rfl⟩ : ∃ n, depth = n + 1 := ⟨depth - 1, by omega⟩
    rw [Nat.add_sub_cancel, BitVec.ofNat_add]
    bv_omega
  unfold seqDist at low high ⊢
  rw [h, BitVec.toInt_sub, hdepth, Int.bmod_eq_of_le (by omega) (by omega)]
  omega

theorem Playout.Ordered.advance {depth : Nat} {pe : Playout} (h : pe.Ordered depth) (pos : 1 ≤ depth)
    (small : depth ≤ 64) {seq : Half} (low : depth ≤ seqDist pe.nextPlay seq) (high : seqDist pe.nextPlay seq < 1024) :
    (pe.advance depth seq).Ordered depth := by
  have hback := seqDist_back pos small low high
  refine h.rebase List.filter_sublist rfl
    (fun n => if n = pe.playEpoch then seqDist pe.nextPlay seq - depth + 1 else 0)
    (fun n => by split <;> omega) fun e he => ?_
  obtain ⟨hmem, hkept⟩ := List.mem_filter.mp he
  obtain ⟨hlow, hhigh⟩ := h.window e hmem
  by_cases hepoch : e.epoch = pe.playEpoch
  · have hdist : pe.dist e = seqDist pe.nextPlay e.seq := by simp [Playout.dist, Playout.anchorOf, hepoch]
    have hfar : seqDist pe.nextPlay seq - depth + 1 ≤ seqDist pe.nextPlay e.seq := by simpa [hepoch] using hkept
    have hnew : (pe.advance depth seq).dist e = seqDist (seq - BitVec.ofNat 16 depth + 1) e.seq := by
      simp [Playout.dist, Playout.anchorOf, Playout.advance, hepoch]
    rw [hnew, hdist, if_pos hepoch,
      seqDist_rebase (a := pe.nextPlay) (a' := seq - BitVec.ofNat 16 depth + 1) (b := e.seq) (by omega) (by omega), hback]
    omega
  · have hsame : (pe.advance depth seq).dist e = pe.dist e := by
      simp [Playout.dist, Playout.anchorOf, Playout.advance, hepoch]
    rw [if_neg hepoch]
    omega

/-- A classified block keeps the order, when the next arrival epoch's number is not the playing epoch's (log 37). -/
theorem Arrives.ordered {depth : Nat} {seq : Half} {samples : List Sample} {x y : Playout}
    (h : Arrives depth seq samples x y) (pos : 1 ≤ depth) (small : depth ≤ 64) (next : x.epochIn + 1 ≠ x.playEpoch)
    (sound : PlayoutSound x) (hx : x.Ordered depth) : y.Ordered depth := by
  cases h with
  | none => exact hx
  | anchor fresh stored =>
    have hqueue := hx.anchored fresh
    have hz : (x.anchorAt seq).Ordered depth := .of_empty hqueue
    obtain rfl | rfl := stored
    · exact hz
    · have hanchor : (x.anchorAt seq).anchor = seq := by
        unfold Playout.anchor Playout.anchorAt
        split <;> rfl
      exact hz.store rfl small (by simp [Playout.anchorAt, hqueue]) (by simp [hanchor]) (by simp [hanchor]; omega) _
  | @resync r _ anchored steps epochIn playEpoch playing stored =>
    have hz : (r.beginEpoch seq).Ordered depth := by
      have hr := steps.ordered sound hx
      refine hr.rebase (.refl _) rfl (fun _ => 0) (fun _ => le_rfl) fun e he => ?_
      have hdist : (r.beginEpoch seq).dist e = r.dist e := by
        simp [Playout.dist, Playout.anchorOf, Playout.beginEpoch, playing e he]
      exact ⟨by omega, hdist ▸ (hr.window e he).1⟩
    have hne : r.playEpoch ≠ r.epochIn + 1 := by
      rw [epochIn]
      obtain playEpoch | playEpoch := playEpoch
      · rw [playEpoch]
        exact next.symm
      · rw [playEpoch]
        bv_omega
    obtain rfl | rfl := stored
    · exact hz
    · have hanchor : (r.beginEpoch seq).anchor = seq := if_neg hne
      exact hz.store (steps.anchored.trans anchored) small
        (fun e he hepoch => absurd ((playing e he).symm.trans hepoch) hne) (by simp [hanchor])
        (by simp [hanchor]; omega) _
  | advance anchored near duplicate beyond one stored =>
    have hanchor : x.anchor = x.nextPlay := if_pos one
    rw [hanchor] at near beyond
    have hz := hx.advance pos small beyond near
    obtain rfl | rfl := stored
    · exact hz
    · have hback := seqDist_back pos small beyond near
      have hnew : (x.advance depth seq).anchor = seq - BitVec.ofNat 16 depth + 1 := if_pos one
      have hdist := seqDist_rebase (a := x.nextPlay) (a' := seq - BitVec.ofNat 16 depth + 1) (b := seq) (by omega)
        (by omega)
      exact hz.store anchored small (fun e he => duplicate e (List.mem_filter.mp he).1) (by rw [hnew]; omega)
        (by rw [hnew]; omega) _
  | store anchored duplicate low high stored => exact stored ▸ hx.store anchored small duplicate low high _

/-- A classified block begins one epoch at most (R45). -/
theorem Arrives.epochs {depth n : Nat} {seq : Half} {samples : List Sample} {x y : Playout}
    (h : Arrives depth seq samples x y) (hn : n ≤ 6)
    (clear : ∀ k, 1 ≤ k → k ≤ n + 1 → x.epochIn + BitVec.ofNat 8 k ≠ x.playEpoch) :
    ∀ k, 1 ≤ k → k ≤ n → y.epochIn + BitVec.ofNat 8 k ≠ y.playEpoch := by
  have hsame (epochIn : y.epochIn = x.epochIn) (playEpoch : y.playEpoch = x.playEpoch) :
      ∀ k, 1 ≤ k → k ≤ n → y.epochIn + BitVec.ofNat 8 k ≠ y.playEpoch := by
    rw [epochIn, playEpoch]
    exact fun k h1 hk => clear k h1 (by omega)
  cases h with
  | none => exact hsame rfl rfl
  | anchor _ stored => obtain rfl | rfl := stored <;> exact hsame rfl rfl
  | advance _ _ _ _ _ stored => obtain rfl | rfl := stored <;> exact hsame rfl rfl
  | store _ _ _ _ stored => subst stored; exact hsame rfl rfl
  | @resync r _ _ _ epochIn playEpoch _ stored =>
    have hy : y.epochIn = x.epochIn + 1 ∧ y.playEpoch = r.playEpoch := by
      rw [← epochIn]
      obtain rfl | rfl := stored <;> exact ⟨rfl, rfl⟩
    rw [hy.1, hy.2]
    intro k h1 hk
    have hsucc : x.epochIn + 1 + BitVec.ofNat 8 k = x.epochIn + BitVec.ofNat 8 (k + 1) := by
      rw [BitVec.ofNat_add]
      bv_omega
    rw [hsucc]
    obtain playEpoch | playEpoch := playEpoch
    · rw [playEpoch]
      exact clear (k + 1) (by omega) (by omega)
    · rw [playEpoch]
      intro heq
      have := congrArg BitVec.toNat heq
      simp only [BitVec.toNat_add, BitVec.toNat_ofNat] at this
      have := x.epochIn.isLt
      omega

theorem classify_list_ordered (res : PerChan Nat) (c : Chan) (arrival : Word) {l : List Arrival} {x : ChanPool}
    (whole : ∀ a ∈ l, a.samples.length = 80) (count : l.length ≤ 7) (pos : 1 ≤ x.1.settings.depthMax)
    (small : x.1.settings.depthMax ≤ 64)
    (clear : ∀ k, 1 ≤ k → k ≤ l.length → x.1.pe.epochIn + BitVec.ofNat 8 k ≠ x.1.pe.playEpoch)
    (sound : PlayoutSound x.1.pe) (hx : x.1.pe.Ordered x.1.settings.depthMax) :
    (l.foldl (classify res c arrival) x).1.pe.Ordered x.1.settings.depthMax := by
  induction l generalizing x with
  | nil => exact hx
  | cons a rest ih =>
    obtain ⟨ha, hrest⟩ := List.forall_mem_cons.mp whole
    have harrives := classify_arrives res c arrival sound a
    have hsettings := classify_settings res c arrival x a
    rw [List.length_cons] at count clear
    have := ih hrest (by omega) (hsettings ▸ pos) (hsettings ▸ small) (harrives.epochs (by omega) clear)
      (harrives.sound ha sound)
    rw [hsettings] at this
    exact this (harrives.ordered pos small (clear 1 le_rfl (by omega)) sound hx)

/-! ### The order of the queues along a course (O9) -/

/-- The order of a channel's queue, with a bounded maximum depth while it is open. -/
structure Channel.QueueKept (ch : Channel) : Prop where
  sound : PlayoutSound ch.pe
  ordered : QueueOrdered ch
  small : ch.state ≠ .idle → ch.pe.queue ≠ [] → ch.settings.depthMax ≤ 64

theorem Channel.QueueKept.of_steps {x y : Channel} (h : x.QueueKept) (live : x.state ≠ .idle) (steps : PlaySteps x.pe y.pe)
    (settings : y.settings = x.settings) : y.QueueKept := by
  have hy := steps.ordered h.sound ((queueOrdered_iff (h.small live)).mp h.ordered)
  rw [← settings] at hy
  exact ⟨steps.sound h.sound, (queueOrdered_iff hy.small).mpr hy, fun _ => hy.small⟩

theorem Channel.QueueKept.of_empty {ch : Channel} (sound : PlayoutSound ch.pe) (queue : ch.pe.queue = []) : ch.QueueKept :=
  ⟨sound, ⟨fun _ => queue, by simp [queue], by simp [queue]⟩, fun _ hne => absurd queue hne⟩

/-- A move of a channel that is IDLE leaves its playout. -/
theorem ChanMove.idle_pe {x y : Channel} (h : ChanMove x y) (idle : x.state = .idle) :
    y.pe = x.pe ∧ y.settings = x.settings := by
  cases h with
  | keepNotice n =>
    unfold Channel.keepNotice
    split <;> exact ⟨rfl, rfl⟩
  | build start samples =>
    unfold Channel.build Channel.putHistory
    dsimp only
    (repeat' split) <;> exact ⟨rfl, rfl⟩
  | sampleTaken =>
    unfold Channel.sampleTaken
    rw [if_pos idle]
    exact ⟨rfl, rfl⟩
  | stats | det | voice | discardNotices | toData | toVoice | formed | completed | cut => exact ⟨rfl, rfl⟩

theorem QueueOrdered.congr {x y : Channel} (h : QueueOrdered x) (pe : y.pe = x.pe) (settings : y.settings = x.settings) :
    QueueOrdered y := by
  obtain ⟨anchored, window, order⟩ := h
  exact ⟨by rw [pe]; exact anchored, by rw [pe, settings]; exact window, by rw [pe]; exact order⟩

theorem ChanMove.queueKept {x y : Channel} (h : ChanMove x y) (hx : x.QueueKept) : y.QueueKept := by
  by_cases idle : x.state = .idle
  · obtain ⟨hpe, hsettings⟩ := h.idle_pe idle
    exact ⟨hpe ▸ hx.sound, hx.ordered.congr hpe hsettings, fun hlive => absurd (h.sameBinding.state.trans idle) hlive⟩
  · obtain ⟨hsteps, hsettings⟩ := h.plays hx.sound
    exact hx.of_steps idle hsteps hsettings

theorem Rebind.queueKept {up : Port → Prop} {x y : Channel} (h : Rebind up x y) (hx : x.QueueKept) : y.QueueKept := by
  obtain ⟨hsteps, hsettings⟩ := h.plays hx.sound
  exact hx.of_steps h.place.1 hsteps hsettings

/-- A write leaves the maximum depth or brings it to 64 at most (R185). -/
theorem TemplateKey.write_depthMax {k : TemplateKey} {v : Nat} {x y : ChannelSettings} (hw : k.write v x = some y) :
    y.depthMax = x.depthMax ∨ y.depthMax ≤ 64 := by
  cases k <;> simp only [TemplateKey.write, Option.some.injEq] at hw
  case depthMax =>
    subst hw
    right
    simp only [boundDepths, clampNat]
    omega
  case autoData | suppressDigits => obtain ⟨_, _, rfl⟩ := Option.map_eq_some_iff.mp hw; exact .inl rfl
  all_goals subst hw; exact .inl rfl

theorem PoolMove.queueKept {res : PerChan Nat} {c : Chan} {x y : ChanPool} (h : PoolMove res c x y)
    (hx : x.1.QueueKept) : y.1.QueueKept := by
  cases h with
  | tick live level => exact hx.of_steps live (tickBlock_plays hx.sound level) (tickBlock_shift level x).settings
  | @set k v new run _ write =>
    obtain ⟨hsettings, keep, hpe, hnear⟩ := applyChannelSet_queue res c k new x
    have hsound := (PlayStep.drop x.1.pe keep).sound hx.sound
    obtain ⟨anchored, window, order⟩ := hx.ordered
    have hsub : (applyChannelSet res c k new x).1.pe.queue.Sublist x.1.pe.queue := by
      rw [hpe]
      exact List.filter_sublist
    refine ⟨hpe ▸ hsound, ⟨fun hfresh => ?_, fun e he => ?_, ?_⟩, fun _ hne => ?_⟩
    · rw [hpe] at hfresh
      exact List.sublist_nil.mp (anchored hfresh ▸ hsub)
    · rw [hpe] at he ⊢
      obtain ⟨hmem, hkeep⟩ := List.mem_filter.mp he
      obtain ⟨hlow, hhigh⟩ := window e hmem
      refine ⟨hlow, ?_⟩
      rw [hsettings]
      by_cases hlt : new.depthMax < x.1.settings.depthMax
      · exact hnear e hkeep hlt
      · exact hhigh.trans_le (by exact_mod_cast Nat.le_of_not_lt hlt)
    · rw [hpe]
      exact order.filter keep
    · rw [hsettings]
      obtain hsame | hbound := k.write_depthMax write
      · rw [hsame]
        refine hx.small (by simp [run]) fun hempty => hne ?_
        exact List.sublist_nil.mp (hempty ▸ hsub)
      · exact hbound

theorem Steps.queueKept {s t : State} (h : Steps s t) (hs : ∀ c, (s.chan c).QueueKept) : ∀ c, (t.chan c).QueueKept :=
  h.keep (I := fun s => ∀ c, (s.chan c).QueueKept)
    (fun hmove hs => hmove.chans (P := Channel.QueueKept) (·.queueKept) (·.queueKept) (·.queueKept)
      (fun _ => .of_empty (cleared_sound false) rfl)
      (fun h => ⟨h.sound, h.ordered.congr rfl rfl, h.small⟩)
      (fun _ _ _ _ _ _ => .of_empty (cleared_sound true) rfl) hs) hs

/-- The queues keep their order, when no message's epochs can come round to the playing epoch (log 37). -/
theorem Course.queueOrdered {s t : State} (h : Course s t) (sound : ∀ c, PlayoutSound (s.chan c).pe)
    (held : ∀ c, s.settingsHeld c) (ordered : ∀ c, QueueOrdered (s.chan c))
    (clear : ∀ (c : Chan) (k : Nat), 1 ≤ k → k ≤ 7 →
      (s.chan c).pe.epochIn + BitVec.ofNat 8 k ≠ (s.chan c).pe.playEpoch) (c : Chan) : QueueOrdered (t.chan c) := by
  have hs : ∀ c, (s.chan c).QueueKept := fun c =>
    ⟨sound c, ordered c, fun live _ => (held c live).1.depthMax.2⟩
  cases h with
  | quiet h => exact (h.queueKept hs c).ordered
  | request taken _ _ answered =>
    obtain ⟨a, r, hact, hrest⟩ := answered
    exact (hrest.queueKept (hact.queueKept (taken.queueKept hs)) c).ordered
  | silence cut parks => exact (parks.queueKept (cut.queueKept hs) c).ordered
  | reset fresh =>
    obtain ⟨set, hset⟩ := fresh.chans c
    rw [hset]
    exact (Channel.QueueKept.of_empty (ch := .afterReset set) (cleared_sound false) rfl).ordered
  | @media a d m taken same run count blocks =>
    rw [State.chan_modChanPool]
    split
    · obtain ⟨hstate, hpe, hsettings⟩ := same d
      have hdepth := (held d (by rw [← hstate, run]; simp)).1.depthMax
      have hin := (queueOrdered_iff fun _ => hdepth.2).mp (ordered d)
      have hshift := (playMedia_shift (res := a.reserves) (c := d) a.timebase m (a.chan d, a.pool)).settings
      rw [← hsettings] at hdepth hin
      rw [← hpe] at hin
      have hout := classify_list_ordered a.reserves d a.timebase (x := (a.chan d, a.pool)) blocks count
        (show 1 ≤ (a.chan d).settings.depthMax by omega)
        hdepth.2 (fun k h1 hk => by rw [hpe]; exact clear d k h1 (hk.trans count)) (by rw [hpe]; exact sound d) hin
      exact (queueOrdered_iff fun _ => by rw [hshift]; exact hdepth.2).mpr (by rw [hshift]; exact hout)
    · obtain ⟨-, hpe, hsettings⟩ := same c
      exact (ordered c).congr hpe hsettings

/-- Settles O9. -/
theorem playoutKept : Obligations.PlayoutKept := by
  refine ⟨fun s t hs h => playoutSound_kept hs h, fun s t sound held ordered clear hstep => ?_⟩
  obtain ⟨q, hcourse⟩ := step_course hstep
  exact hcourse.queueOrdered sound held ordered clear

end Sys2Proof.Machine

namespace Sys2Proof.Machine

/-! ### Requests on a ready port reach their owner in the counted state (R175) -/

section
variable {s : State} {p : Port} (h : s.ready p) (tag : Byte) (params : List Byte)
include h

theorem exec_openReq_ready : exec (.openReq p tag params) s = .next (openBody p tag params (s.counted p)) :=
  congrArg _ (State.request_ready h _)

theorem exec_handoffReq_ready : exec (.handoffReq p tag params) s = .next (handoffBody p tag params (s.counted p)) :=
  congrArg _ (State.request_ready h _)

theorem exec_closeReq_ready : exec (.closeReq p tag params) s = .next (closeBody p tag params (s.counted p)) :=
  congrArg _ (State.request_ready h _)

theorem exec_connectReq_ready : exec (.connectReq p tag params) s = .next (connectBody p tag params (s.counted p)) :=
  congrArg _ (State.request_ready h _)

theorem exec_setFallbackReq_ready : exec (.setFallbackReq p tag params) s = .next (setFallbackBody p tag params (s.counted p)) :=
  congrArg _ (State.request_ready h _)

theorem exec_channelSetReq_ready : exec (.channelSetReq p tag params) s = .next (channelSetBody p tag params (s.counted p)) :=
  congrArg _ (State.request_ready h _)

theorem exec_modeReq_ready : exec (.modeReq p tag params) s = .next (modeBody p tag params (s.counted p)) :=
  congrArg _ (State.request_ready h _)

theorem exec_statsReq_ready : exec (.statsReq p tag params) s = .next (statsBody p tag params (s.counted p)) :=
  congrArg _ (State.request_ready h _)

theorem exec_polarityReq_ready : exec (.polarityReq p tag params) s = .next (polarityBody p tag params (s.counted p)) :=
  congrArg _ (State.request_ready h _)

theorem exec_denyReq_ready : exec (.denyReq p tag params) s = .next (denyBody p tag params (s.counted p)) :=
  congrArg _ (State.request_ready h _)

theorem exec_toneReq_ready : exec (.toneReq p tag params) s = .next (toneBody p tag params (s.counted p)) :=
  congrArg _ (State.request_ready h _)

theorem exec_toneStopReq_ready : exec (.toneStopReq p tag params) s = .next (toneStopBody p tag params (s.counted p)) :=
  congrArg _ (State.request_ready h _)

theorem exec_toneDefineReq_ready : exec (.toneDefineReq p tag params) s = .next (toneDefineBody p tag params (s.counted p)) :=
  congrArg _ (State.request_ready h _)

theorem exec_gainReq_ready : exec (.gainReq p tag params) s = .next (gainBody p tag params (s.counted p)) :=
  congrArg _ (State.request_ready h _)

theorem exec_ringReq_ready : exec (.ringReq p tag params) s = .next (ringBody p tag params (s.counted p)) :=
  congrArg _ (State.request_ready h _)

theorem exec_ringStopReq_ready : exec (.ringStopReq p tag params) s = .next (ringStopBody p tag params (s.counted p)) :=
  congrArg _ (State.request_ready h _)

theorem exec_testReq_ready : exec (.testReq p tag params) s = .next (testBody p tag params (s.counted p)) :=
  congrArg _ (State.request_ready h _)

theorem exec_setReq_ready : exec (.setReq p tag params) s = .next (setBody p tag params (s.counted p)) :=
  congrArg _ (State.request_ready h _)

theorem exec_getReq_ready : exec (.getReq p tag params) s = .next (getBody p tag params (s.counted p)) :=
  congrArg _ (State.request_ready h _)

theorem exec_inquireReq_ready : exec (.inquireReq p tag params) s = .next (inquireBody p tag params (s.counted p)) :=
  congrArg _ (State.request_ready h _)

theorem exec_profileSaveReq_ready : exec (.profileSaveReq p tag params) s = .next (profileSaveBody p tag params (s.counted p)) :=
  congrArg _ (State.request_ready h _)

theorem exec_profileLoadReq_ready : exec (.profileLoadReq p tag params) s = .next (profileLoadBody p tag params (s.counted p)) :=
  congrArg _ (State.request_ready h _)

theorem exec_profileStartReq_ready : exec (.profileStartReq p tag params) s = .next (profileStartBody p tag params (s.counted p)) :=
  congrArg _ (State.request_ready h _)

theorem exec_restartReq_ready : exec (.restartReq p tag params) s = .next (restartBody p tag params (s.counted p)) :=
  congrArg _ (State.request_ready h _)

end

/-- A holder-only request on a ready port names its channel first (R3). -/
theorem State.holderOnly_badNumber {b : Byte} (hb : 4 ≤ b.toNat) (s : State) (p : Port) (tag : Byte) (act : Chan → State) :
    s.holderOnly p tag b act = s.refuse p tag .badParam := by simp only [State.holderOnly, Chan.ofByte_none hb]

theorem State.holderOnly_notHolder {s : State} {p : Port} {c : Chan} (h : (s.chan c).heldBy p = false) (tag : Byte)
    (act : Chan → State) : s.holderOnly p tag (Chan.byte c) act = s.refuse p tag .notHolder := by
  simp [State.holderOnly, h]

theorem State.holderOnly_holder {s : State} {p : Port} {c : Chan} (h : (s.chan c).heldBy p = true) (tag : Byte)
    (act : Chan → State) : s.holderOnly p tag (Chan.byte c) act = act c := by
  simp [State.holderOnly, h]

/-- Settles O1. -/
theorem stepRunsTheFrontCommand : Obligations.StepRunsTheFrontCommand := by
  intro c rest s hpending
  simp only [step, hpending]

/-- Settles O13. -/
theorem requestOverrunDiscards : Obligations.RequestOverrunDiscards := by
  intro s i r hreq hcode hup hfull
  obtain ⟨body, hexec⟩ := exec_of_requestOf hreq hcode
  have hfull' : 4 ≤ ((s.heard r.port).port r.port).outstanding := by simpa [State.heard] using hfull
  rw [hexec, State.request, State.messageTaken_of_up hup]
  exact congrArg _ (if_pos hfull')

/-! ### Requests of the wrong length (R175, R200) -/

/-- A request's body refuses parameters of any other length than its layout's. -/
def RefusesOtherLengths (n : Nat) (body : Port → Byte → List Byte → State → State) : Prop :=
  ∀ p tag params s, params.length ≠ n → body p tag params s = s.refuse p tag .badParam

theorem openBody_refusesOtherLengths : RefusesOtherLengths 13 openBody := by
  intro p tag params s h
  have hnone : OpenParams.ofBytes params = none := by
    unfold OpenParams.ofBytes
    split
    · exact absurd rfl h
    · rfl
  simp only [openBody, hnone]

theorem claimBody_refusesOtherLengths : RefusesOtherLengths 1 claimBody := by
  intro p tag params s h
  unfold claimBody
  split
  · exact absurd rfl h
  · rfl

theorem handoffBody_refusesOtherLengths : RefusesOtherLengths 2 handoffBody := by
  intro p tag params s h
  unfold handoffBody
  split
  · exact absurd rfl h
  · rfl

theorem closeBody_refusesOtherLengths : RefusesOtherLengths 2 closeBody := by
  intro p tag params s h
  unfold closeBody
  split
  · exact absurd rfl h
  · rfl

theorem connectBody_refusesOtherLengths : RefusesOtherLengths 2 connectBody := by
  intro p tag params s h
  unfold connectBody
  split
  · exact absurd rfl h
  · rfl

theorem setFallbackBody_refusesOtherLengths : RefusesOtherLengths 2 setFallbackBody := by
  intro p tag params s h
  unfold setFallbackBody
  split
  · exact absurd rfl h
  · rfl

theorem channelSetBody_refusesOtherLengths : RefusesOtherLengths 6 channelSetBody := by
  intro p tag params s h
  unfold channelSetBody
  split
  · exact absurd rfl h
  · rfl

theorem statsBody_refusesOtherLengths : RefusesOtherLengths 2 statsBody := by
  intro p tag params s h
  unfold statsBody
  split
  · exact absurd rfl h
  · rfl

theorem modeBody_refusesOtherLengths : RefusesOtherLengths 2 modeBody := by
  intro p tag params s h
  unfold modeBody
  split
  · exact absurd rfl h
  · rfl

theorem polarityBody_refusesOtherLengths : RefusesOtherLengths 2 polarityBody := by
  intro p tag params s h
  unfold polarityBody
  split
  · exact absurd rfl h
  · rfl

theorem denyBody_refusesOtherLengths : RefusesOtherLengths 3 denyBody := by
  intro p tag params s h
  unfold denyBody
  split
  · exact absurd rfl h
  · rfl

theorem toneBody_refusesOtherLengths : RefusesOtherLengths 2 toneBody := by
  intro p tag params s h
  unfold toneBody
  split
  · exact absurd rfl h
  · rfl

theorem toneStopBody_refusesOtherLengths : RefusesOtherLengths 1 toneStopBody := by
  intro p tag params s h
  unfold toneStopBody
  split
  · exact absurd rfl h
  · rfl

theorem gainBody_refusesOtherLengths : RefusesOtherLengths 5 gainBody := by
  intro p tag params s h
  unfold gainBody
  split
  · exact absurd rfl h
  · rfl

theorem ringStopBody_refusesOtherLengths : RefusesOtherLengths 1 ringStopBody := by
  intro p tag params s h
  unfold ringStopBody
  split
  · exact absurd rfl h
  · rfl

theorem testBody_refusesOtherLengths : RefusesOtherLengths 1 testBody := by
  intro p tag params s h
  unfold testBody
  split
  · exact absurd rfl h
  · rfl

theorem setBody_refusesOtherLengths : RefusesOtherLengths 6 setBody := by
  intro p tag params s h
  unfold setBody
  split
  · exact absurd rfl h
  · rfl

theorem getBody_refusesOtherLengths : RefusesOtherLengths 2 getBody := by
  intro p tag params s h
  unfold getBody
  split
  · exact absurd rfl h
  · rfl

theorem inquireBody_refusesOtherLengths : RefusesOtherLengths 0 inquireBody := by
  intro p tag params s h
  unfold inquireBody
  split
  · exact absurd rfl h
  · rfl

theorem profileSaveBody_refusesOtherLengths : RefusesOtherLengths 1 profileSaveBody := by
  intro p tag params s h
  unfold profileSaveBody
  split
  · exact absurd rfl h
  · rfl

theorem profileLoadBody_refusesOtherLengths : RefusesOtherLengths 1 profileLoadBody := by
  intro p tag params s h
  unfold profileLoadBody
  split
  · exact absurd rfl h
  · rfl

theorem profileStartBody_refusesOtherLengths : RefusesOtherLengths 1 profileStartBody := by
  intro p tag params s h
  unfold profileStartBody
  split
  · exact absurd rfl h
  · rfl

theorem restartBody_refusesOtherLengths : RefusesOtherLengths 0 restartBody := by
  intro p tag params s h
  unfold restartBody
  split
  · exact absurd rfl h
  · rfl

/-- Every request whose layout fixes the length of its parameters (R200). -/
theorem exec_of_paramLength {i : Instr} {r : RequestParts} {n : Nat} (hreq : requestOf i = some r)
    (hcode : paramLength r.code = some n) (hknown : ∀ p tag code params, i ≠ .unknownRequestCode p tag code params) :
    ∃ body, RefusesOtherLengths n body ∧ ∀ s, exec i s = .next (s.request r.port (body r.port r.tag r.params)) := by
  have hfixed {body : Port → Byte → List Byte → State → State} {m : Nat} (h : RefusesOtherLengths m body)
      (hm : paramLength r.code = some m)
      (hexec : ∀ s, exec i s = .next (s.request r.port (body r.port r.tag r.params))) :
      ∃ body, RefusesOtherLengths n body ∧ ∀ s, exec i s = .next (s.request r.port (body r.port r.tag r.params)) := by
    obtain rfl : m = n := Option.some.inj (hm.symm.trans hcode)
    exact ⟨body, h, hexec⟩
  cases i
  case unknownRequestCode => exact absurd rfl (hknown _ _ _ _)
  case openReq => cases hreq; exact hfixed openBody_refusesOtherLengths rfl fun _ => rfl
  case claimReq => cases hreq; exact hfixed claimBody_refusesOtherLengths rfl fun _ => rfl
  case handoffReq => cases hreq; exact hfixed handoffBody_refusesOtherLengths rfl fun _ => rfl
  case closeReq => cases hreq; exact hfixed closeBody_refusesOtherLengths rfl fun _ => rfl
  case connectReq => cases hreq; exact hfixed connectBody_refusesOtherLengths rfl fun _ => rfl
  case setFallbackReq => cases hreq; exact hfixed setFallbackBody_refusesOtherLengths rfl fun _ => rfl
  case channelSetReq => cases hreq; exact hfixed channelSetBody_refusesOtherLengths rfl fun _ => rfl
  case statsReq => cases hreq; exact hfixed statsBody_refusesOtherLengths rfl fun _ => rfl
  case modeReq => cases hreq; exact hfixed modeBody_refusesOtherLengths rfl fun _ => rfl
  case polarityReq => cases hreq; exact hfixed polarityBody_refusesOtherLengths rfl fun _ => rfl
  case denyReq => cases hreq; exact hfixed denyBody_refusesOtherLengths rfl fun _ => rfl
  case toneReq => cases hreq; exact hfixed toneBody_refusesOtherLengths rfl fun _ => rfl
  case toneStopReq => cases hreq; exact hfixed toneStopBody_refusesOtherLengths rfl fun _ => rfl
  case gainReq => cases hreq; exact hfixed gainBody_refusesOtherLengths rfl fun _ => rfl
  case ringStopReq => cases hreq; exact hfixed ringStopBody_refusesOtherLengths rfl fun _ => rfl
  case testReq => cases hreq; exact hfixed testBody_refusesOtherLengths rfl fun _ => rfl
  case setReq => cases hreq; exact hfixed setBody_refusesOtherLengths rfl fun _ => rfl
  case getReq => cases hreq; exact hfixed getBody_refusesOtherLengths rfl fun _ => rfl
  case inquireReq => cases hreq; exact hfixed inquireBody_refusesOtherLengths rfl fun _ => rfl
  case profileSaveReq => cases hreq; exact hfixed profileSaveBody_refusesOtherLengths rfl fun _ => rfl
  case profileLoadReq => cases hreq; exact hfixed profileLoadBody_refusesOtherLengths rfl fun _ => rfl
  case profileStartReq => cases hreq; exact hfixed profileStartBody_refusesOtherLengths rfl fun _ => rfl
  case restartReq => cases hreq; exact hfixed restartBody_refusesOtherLengths rfl fun _ => rfl
  case toneDefineReq | ringReq => cases hreq; cases hcode
  all_goals cases hreq

/-- A parsed list of segments has 7 bytes for each (R200). -/
theorem parseSegments_length {n : Nat} {bytes : List Byte} {g : List Segment} (h : parseSegments n bytes = some g) :
    bytes.length = 7 * n := by
  induction n generalizing bytes g with
  | zero =>
    cases bytes with
    | nil => rfl
    | cons b rest => simp [parseSegments] at h
  | succ n ih =>
    unfold parseSegments at h
    split at h
    · next heq => cases heq
    · next heq =>
      cases heq
      obtain ⟨rest, hrest, -⟩ := Option.map_eq_some_iff.mp h
      have := ih hrest
      simp only [List.length_cons]
      omega
    · cases h

theorem toneDefineBody_misshapen {count : Byte} {rest : List Byte} (h : rest.length ≠ 7 * count.toNat)
    (s : State) (p : Port) (tag number repeats : Byte) :
    toneDefineBody p tag (number :: count :: repeats :: rest) s = s.refuse p tag .badParam := by
  have hnone : parseSegments count.toNat rest = none := by
    by_contra hsome
    obtain ⟨g, hg⟩ := Option.ne_none_iff_exists'.mp hsome
    exact h (parseSegments_length hg)
  simp only [toneDefineBody, hnone]
  split
  · next heq => cases heq
  · rfl

/-- Settles O15. -/
theorem unknownAndMisshapenRequests : Obligations.UnknownAndMisshapenRequests := by
  refine ⟨⟨fun s i r n hreq hcode hknown hlength hready => ?fixed, fun s p tag number count repeats rest hlength hready =>
    ?segments⟩, fun s p tag code params hcode hready => ?unknown⟩
  case fixed =>
    obtain ⟨body, hrefuses, hexec⟩ := exec_of_paramLength hreq hcode hknown
    rw [hexec, State.request_ready hready, hrefuses _ _ _ _ hlength, State.refuse_counted]
  case segments =>
    rw [exec_toneDefineReq_ready hready, toneDefineBody_misshapen hlength, State.refuse_counted]
  case unknown =>
    have hexec : exec (.unknownRequestCode p tag code params) s = .next (s.request p fun s => s.refuse p tag .unknown) := by
      simp [exec, execUnknownRequestCode, hcode]
    rw [hexec, State.request_ready hready, State.refuse_counted]

/-! ### KEEP and bad frames (R171, R172) -/

/-- Settles O17: the channel check, then the holder check, of each holder-only request. -/
theorem holderOnlyRequestsRefused : Obligations.HolderOnlyRequestsRefused := by
  intro s p tag b key v3 v2 v1 v0 drain hready
  dsimp only
  rw [exec_handoffReq_ready hready, exec_closeReq_ready hready, exec_connectReq_ready hready,
    exec_setFallbackReq_ready hready, exec_channelSetReq_ready hready, exec_modeReq_ready hready,
    exec_statsReq_ready hready]
  simp only [handoffBody, closeBody, flagOf_flagByte, connectBody, setFallbackBody, channelSetBody, modeBody, statsBody]
  refine ⟨fun hb => ?_, fun c hc hheld => ?_⟩
  · simp only [State.holderOnly_badNumber hb, Chan.ofByte_none hb, State.refuse_counted, and_self]
  · subst hc
    have hheld' : ((s.counted p).chan c).heldBy p = false := hheld
    have hclear : flagOf 1 = some true := rfl
    simp only [State.holderOnly_notHolder hheld', Chan.ofByte_byte, hclear, hheld', Bool.false_eq_true, if_false,
      State.refuse_counted, and_self]

end Sys2Proof.Machine

namespace Sys2Proof.Machine

/-! ### Fields of bytes (13) -/

theorem half_toNat (hi lo : Byte) : (half hi lo).toNat = 256 * hi.toNat + lo.toNat := by
  unfold half
  rw [BitVec.toNat_append, Nat.shiftLeft_eq, Nat.mul_comm, ← Nat.two_pow_add_eq_or_of_lt lo.isLt]

theorem bytes16_half (hi lo : Byte) : bytes16 (half hi lo) = [hi, lo] := by
  have hhi : (half hi lo).extractLsb' 8 8 = hi := by
    apply BitVec.eq_of_toNat_eq
    rw [BitVec.extractLsb'_toNat, half_toNat, Nat.shiftRight_eq_div_pow]
    have := hi.isLt
    have := lo.isLt
    omega
  have hlo : (half hi lo).extractLsb' 0 8 = lo := by
    apply BitVec.eq_of_toNat_eq
    rw [BitVec.extractLsb'_toNat, half_toNat, Nat.shiftRight_zero]
    have := lo.isLt
    omega
  rw [bytes16, hhi, hlo]

/-- A 16-bit field from the two bytes it is sent as. -/
theorem half_bytes16 (v : Half) : half (v.extractLsb' 8 8) (v.extractLsb' 0 8) = v := by
  apply BitVec.eq_of_toNat_eq
  rw [half_toNat, BitVec.extractLsb'_toNat, BitVec.extractLsb'_toNat, Nat.shiftRight_eq_div_pow, Nat.shiftRight_zero]
  have := v.isLt
  omega

theorem word_eq (b3 b2 b1 b0 : Byte) : (word b3 b2 b1 b0).toNat = 65536 * (half b3 b2).toNat + (half b1 b0).toNat := by
  have hassoc : (word b3 b2 b1 b0).toNat = (half b3 b2 ++ half b1 b0).toNat := by
    unfold word half
    simp only [BitVec.toNat_append]
    rw [Nat.shiftLeft_or_distrib, ← Nat.shiftLeft_add, Nat.or_assoc, Nat.shiftLeft_or_distrib]
  rw [hassoc, BitVec.toNat_append, Nat.shiftLeft_eq, Nat.mul_comm, ← Nat.two_pow_add_eq_or_of_lt (half b1 b0).isLt]

theorem word_toNat (b3 b2 b1 b0 : Byte) :
    (word b3 b2 b1 b0).toNat = 16777216 * b3.toNat + 65536 * b2.toNat + 256 * b1.toNat + b0.toNat := by
  rw [word_eq, half_toNat, half_toNat]
  omega

theorem bytes32_word (b3 b2 b1 b0 : Byte) : bytes32 (word b3 b2 b1 b0) = [b3, b2, b1, b0] := by
  have hbyte (k : Nat) (b : Byte) (h : (word b3 b2 b1 b0).toNat / 2 ^ k % 256 = b.toNat) :
      (word b3 b2 b1 b0).extractLsb' k 8 = b := by
    apply BitVec.eq_of_toNat_eq
    rw [BitVec.extractLsb'_toNat, Nat.shiftRight_eq_div_pow]
    exact h
  have h3 := b3.isLt
  have h2 := b2.isLt
  have h1 := b1.isLt
  have h0 := b0.isLt
  rw [bytes32, hbyte 24 b3 (by rw [word_toNat]; omega), hbyte 16 b2 (by rw [word_toNat]; omega),
    hbyte 8 b1 (by rw [word_toNat]; omega), hbyte 0 b0 (by rw [word_toNat]; omega)]

/-- A 32-bit field from the four bytes it is sent as. -/
theorem word_bytes32 (v : Word) :
    word (v.extractLsb' 24 8) (v.extractLsb' 16 8) (v.extractLsb' 8 8) (v.extractLsb' 0 8) = v := by
  apply BitVec.eq_of_toNat_eq
  simp only [word_toNat, BitVec.extractLsb'_toNat, Nat.shiftRight_eq_div_pow]
  have := v.isLt
  omega

/-! ### The check (R197) -/

/-- Eight shifts of the check register. -/
def crcShifts (x : Half) : Half :=
  crcShift (crcShift (crcShift (crcShift (crcShift (crcShift (crcShift (crcShift x)))))))

theorem crcByte_eq (r : Half) (b : Byte) : crcByte r b = crcShifts (r ^^^ (b.setWidth 16 <<< 8)) := rfl

/-- A register whose top bit is clear is shifted without the polynomial. -/
theorem crcShift_toNat {x : Half} {n : Nat} (hx : x.toNat = n) (hn : n < 32768) : (crcShift x).toNat = 2 * n := by
  have hmsb : x.msb = false := by
    rw [BitVec.msb_eq_false_iff_two_mul_lt]
    omega
  simp only [crcShift, hmsb, Bool.false_eq_true, if_false, BitVec.toNat_shiftLeft, Nat.shiftLeft_eq]
  omega

/-- Eight shifts move a low byte to the top. -/
theorem crcShifts_toNat {x : Half} {n : Nat} (hx : x.toNat = n) (hn : n < 256) : (crcShifts x).toNat = 256 * n := by
  have h1 := crcShift_toNat hx (by omega)
  have h2 := crcShift_toNat h1 (by omega)
  have h3 := crcShift_toNat h2 (by omega)
  have h4 := crcShift_toNat h3 (by omega)
  have h5 := crcShift_toNat h4 (by omega)
  have h6 := crcShift_toNat h5 (by omega)
  have h7 := crcShift_toNat h6 (by omega)
  have h8 := crcShift_toNat h7 (by omega)
  rw [crcShifts, h8]
  omega

/-- A register followed by its own two bytes ends at 0. -/
theorem crcByte_self (hi lo : Byte) : crcByte (crcByte (half hi lo) hi) lo = 0 := by
  have hfirst : half hi lo ^^^ (hi.setWidth 16 <<< 8) = lo.setWidth 16 := by
    ext i h
    simp only [half, BitVec.getElem_xor, BitVec.getElem_append, BitVec.getElem_shiftLeft, BitVec.getElem_setWidth]
    by_cases h8 : i < 8
    · simp [h8]
    · have : i - 8 < 8 := by omega
      simpa [h8, this] using (BitVec.getLsbD_of_ge lo i (by omega))
  have hsecond : crcShifts (lo.setWidth 16) = lo.setWidth 16 <<< 8 := by
    apply BitVec.eq_of_toNat_eq
    have hlo := lo.isLt
    have hwide : (lo.setWidth 16).toNat = lo.toNat := by
      rw [BitVec.toNat_setWidth, Nat.mod_eq_of_lt (by omega)]
    rw [crcShifts_toNat hwide hlo, BitVec.toNat_shiftLeft, hwide, Nat.shiftLeft_eq]
    omega
  rw [crcByte_eq, crcByte_eq, hfirst, hsecond, BitVec.xor_self]
  rfl

theorem crc_append_self (bytes : List Byte) : crc (bytes ++ bytes16 (crc bytes)) = 0 := by
  have h := crcByte_self ((crc bytes).extractLsb' 8 8) ((crc bytes).extractLsb' 0 8)
  rw [half_bytes16] at h
  unfold crc at h ⊢
  rw [List.foldl_append]
  exact h

/-! ### A media body reads back (R198) -/

theorem blockBytes_length (samples : List Sample) : (blockBytes samples).length = 2 * samples.length := by
  induction samples with
  | nil => rfl
  | cons v rest ih =>
    rw [blockBytes, List.flatMap_cons, List.length_append]
    have : (bytes16 v).length = 2 := rfl
    rw [this]
    unfold blockBytes at ih
    rw [ih, List.length_cons]
    omega

theorem samplesOf_blockBytes (samples : List Sample) : samplesOf (blockBytes samples) = samples := by
  induction samples with
  | nil => rfl
  | cons v rest ih =>
    show half _ _ :: samplesOf (blockBytes rest) = v :: rest
    rw [ih, half_bytes16]

theorem blocksOf_flatMap {blocks : List (List Sample)} (whole : ∀ b ∈ blocks, b.length = 80) (more : List Byte) :
    blocksOf blocks.length (blocks.flatMap blockBytes ++ more) = blocks := by
  induction blocks with
  | nil => rfl
  | cons b rest ih =>
    obtain ⟨hb, hrest⟩ := List.forall_mem_cons.mp whole
    have hlength : (blockBytes b).length = 160 := by rw [blockBytes_length, hb]
    rw [List.length_cons, blocksOf, List.flatMap_cons, List.append_assoc, List.take_left' hlength,
      List.drop_left' hlength, samplesOf_blockBytes, ih hrest]

theorem flatMap_blockBytes_length {blocks : List (List Sample)} (whole : ∀ b ∈ blocks, b.length = 80) :
    (blocks.flatMap blockBytes).length = 160 * blocks.length := by
  induction blocks with
  | nil => rfl
  | cons b rest ih =>
    obtain ⟨hb, hrest⟩ := List.forall_mem_cons.mp whole
    rw [List.flatMap_cons, List.length_append, blockBytes_length, hb, ih hrest, List.length_cons]
    omega

theorem mediaCounts {p r : Nat} (hp : p ≤ 4) (hr : r ≤ 3) :
    ((byteOf (16 * p + r)).extractLsb' 4 4).toNat = p ∧ ((byteOf (16 * p + r)).extractLsb' 0 4).toNat = r := by
  simp only [byteOf, BitVec.extractLsb'_toNat, BitVec.toNat_ofNat, Nat.shiftRight_eq_div_pow]
  omega

theorem mediaFlags (data continued : Bool) :
    (byteOf ((if data then 1 else 0) + if continued then 4 else 0)).getLsbD 0 = data
      ∧ (byteOf ((if data then 1 else 0) + if continued then 4 else 0)).getLsbD 1 = false := by
  cases data <;> cases continued <;> decide

theorem parseMedia_body {m : MediaOut} (hp1 : 1 ≤ m.primaries.length) (hp4 : m.primaries.length ≤ 4)
    (hr : m.redundant.length ≤ 3) (whole : ∀ b ∈ m.primaries ++ m.redundant, b.length = 80) :
    parseMedia m.body = some
      { chan := Chan.byte m.chan, first := m.first, stamp := m.stamp, dataHint := m.dataFlag, resync := false,
        primaries := m.primaries, redundant := m.redundant } := by
  have hprimary : ∀ b ∈ m.primaries, b.length = 80 := fun b hb => whole b (List.mem_append_left _ hb)
  have hredundant : ∀ b ∈ m.redundant, b.length = 80 := fun b hb => whole b (List.mem_append_right _ hb)
  obtain ⟨hcountP, hcountR⟩ := mediaCounts hp4 hr
  obtain ⟨hflag, hresync⟩ := mediaFlags m.dataFlag m.continued
  have hlengthP := flatMap_blockBytes_length hprimary
  have hlength : (m.primaries.flatMap blockBytes ++ m.redundant.flatMap blockBytes).length
      = 160 * (m.primaries.length + m.redundant.length) := by
    rw [List.length_append, hlengthP, flatMap_blockBytes_length hredundant]
    omega
  have hlastR := blocksOf_flatMap hredundant []
  rw [List.append_nil] at hlastR
  unfold MediaOut.body bytes16 bytes32
  simp only [List.cons_append, List.nil_append, parseMedia, hcountP, hcountR, hflag, hresync]
  rw [if_pos ⟨hp1, hp4, hr, hlength⟩, half_bytes16, word_bytes32, blocksOf_flatMap hprimary, List.drop_left' hlengthP,
    hlastR]

/-! ### The messages the part sends, byte by byte (13, R199, R202) -/

theorem sentBits_length (x : PortState) : x.sentBits.length = 8 * x.sent.length := by
  unfold PortState.sentBits
  induction x.sent with
  | nil => rfl
  | cons b rest ih =>
    rw [List.flatMap_cons, List.length_append, ih, List.length_cons]
    have : (linkBits b).length = 8 := rfl
    omega

theorem linkBits_getElem? (b : Byte) {j : Nat} (hj : j < 8) : (linkBits b)[j]? = some (b.getLsbD (7 - j)) := by
  interval_cases j <;> rfl

theorem flatMap_linkBits_getElem? {bytes : List Byte} {k : Nat} {b : Byte} (h : bytes[k]? = some b) {j : Nat} (hj : j < 8) :
    (bytes.flatMap linkBits)[8 * k + j]? = some (b.getLsbD (7 - j)) := by
  induction bytes generalizing k with
  | nil => simp at h
  | cons a rest ih =>
    have hlength : (linkBits a).length = 8 := rfl
    rw [List.flatMap_cons]
    cases k with
    | zero =>
      obtain rfl : a = b := by simpa using h
      rw [List.getElem?_append_left (by omega), Nat.mul_zero, Nat.zero_add, linkBits_getElem? a hj]
    | succ k =>
      rw [List.getElem?_append_right (by omega), hlength, show 8 * (k + 1) + j - 8 = 8 * k + j by omega]
      exact ih (by simpa using h)

theorem mediaFlagByte (data continued : Bool) :
    byteOf ((if data then 1 else 0) + if continued then 4 else 0)
      = (if data then 0x01 else 0x00) + (if continued then 0x04 else 0x00) := by
  cases data <;> cases continued <;> rfl

theorem MediaOut.body_eq (m : MediaOut) :
    m.body
      = [Chan.byte m.chan] ++ bytes16 m.first ++ bytes32 m.stamp
        ++ [(if m.dataFlag then 0x01 else 0x00) + (if m.continued then 0x04 else 0x00),
            BitVec.ofNat 8 (16 * m.primaries.length + m.redundant.length)]
        ++ (m.primaries ++ m.redundant).flatMap fun b => b.flatMap bytes16 := by
  rw [MediaOut.body, mediaFlagByte, List.flatMap_append, ← List.append_assoc]
  rfl

/-- The four caller states a ring can end with (R141). -/
def RingSummary.Ends (r : RingSummary) : Prop :=
  r.status = .none ∨ r.status = .notSent ∨ r.status = .complete ∨ r.status = .aborted

theorem RingSummary.Ends.statusByte {r : RingSummary} (h : r.Ends) :
    r.status.statusByte
      = if r.status = .none then 0 else if r.status = .notSent then 1 else if r.status = .complete then 2 else 3 := by
  obtain h | h | h | h := h <;> rw [h] <;> rfl

/-- Settles O11: the check's own residue, the fields of bytes, and each message's layout. -/
theorem checkAndMediaLayouts : Obligations.CheckAndMediaLayouts := by
  refine ⟨⟨by decide +kernel, crc_append_self⟩, fun m hp1 hp4 hr whole => parseMedia_body hp1 hp4 hr whole,
    fun hi lo => ⟨bytes16_half hi lo, half_toNat hi lo⟩, fun b3 b2 b1 b0 => ⟨bytes32_word b3 b2 b1 b0, word_toNat b3 b2 b1 b0⟩,
    fun x k b hb => ⟨sentBits_length x, fun j hj => flatMap_linkBits_getElem? hb hj⟩, ?frame, MediaOut.body_eq, ?reply,
    ?notice⟩
  case frame =>
    intro kind body
    simp only [frame, List.append_assoc, List.cons_append, List.nil_append]
  case reply =>
    intro r
    simp only [Entry.frame, Reply.body]
    cases r.code <;> rfl
  case notice =>
    intro n flag status ended ends record hanswered hdone htone
    have hended (r : RingSummary) (h : ends r) : ended r = r.bytes := by
      simp only [ended, status, RingSummary.bytes, RingSummary.Ends.statusByte h]
    have hrecord : record = ([n.data.code], n.data.bytes) := by
      simp only [record]
      cases hdata : n.data with
      | answered r => exact congrArg (Prod.mk [0x06]) (hended r (hanswered r hdata))
      | ringDone reason r =>
        have hbytes := hended r (hdone reason r hdata)
        cases reason with
        | completed => exact congrArg (fun b => ([0x07], 0 :: b)) hbytes
        | stopped => exact congrArg (fun b => ([0x07], 1 :: b)) hbytes
      | digit d m k => cases m <;> rfl
      | modeChange m switched path band =>
        cases m <;> cases path <;> cases band with
        | none => rfl
        | some b => cases b <;> rfl
      | drainDone reason => cases reason <;> rfl
      | toneDone k cause =>
        obtain ⟨hdigit, htaken⟩ := htone k
        cases cause with
        | digit => exact absurd hdata hdigit
        | taken => exact absurd hdata htaken
        | completed | stopped | replaced | hangup => rfl
      | testDone outcome a b load isOver =>
        cases outcome <;> cases load <;> rfl
      | takeoverOffer lead m cause old ms => cases m <;> cases cause <;> rfl
      | start cause slot fallback => cases cause <;> cases slot <;> rfl
      | seize | badDigit | flash | hangup | parkExpired | saveDone | linkUp | overflow => rfl
    rw [hrecord]
    cases hloop : n.loop <;> cases hchan : n.chan <;> simp only [Entry.frame, Notice.body, hloop, hchan] <;> rfl

end Sys2Proof.Machine

namespace Sys2Proof.Machine

/-! ### The receiver (R171) -/

theorem takeAll_cons_nothing {r r' : Receiver} {b : Byte} (h : r.take b = (r', .nothing)) (rest : List Byte) :
    r.takeAll (b :: rest) = r'.takeAll rest := by
  simp only [Receiver.takeAll, h]

/-- Bytes that neither end a frame nor break one. -/
theorem takeAll_append {r r' : Receiver} {a : List Byte} (h : r.takeAll a = (r', 0, false)) (b : List Byte) :
    r.takeAll (a ++ b) = r'.takeAll b := by
  induction a generalizing r with
  | nil =>
    cases h
    rfl
  | cons x rest ih =>
    cases hone : r.take x with
    | mk one got =>
      simp only [Receiver.takeAll, hone, List.cons_append] at h ⊢
      cases got with
      | nothing => exact ih h
      | bad => simp at h
      | valid => simp at h

theorem takeAll_single (r : Receiver) (b : Byte) :
    r.takeAll [b]
      = ((r.take b).1, (if (r.take b).2 = .bad then 1 else 0), match (r.take b).2 with | .valid _ _ => true | _ => false) := by
  cases h : r.take b with
  | mk one got => cases got <;> simp [Receiver.takeAll, h]

section
variable {hi lo : Byte} {content : List Byte}

/-- A frame whose length lies in its range waits for its content and its check. -/
theorem frameBytes_waits {rest : List Byte} (h1 : 1 ≤ (half hi lo).toNat) (h2 : (half hi lo).toNat ≤ 1395)
    (hshort : rest.length < (half hi lo).toNat + 2) : frameBytes (hi :: lo :: rest) = (.frame (hi :: lo :: rest), .nothing) := by
  have hlength : ¬((half hi lo).toNat = 0 ∨ 1395 < (half hi lo).toNat) := by omega
  simp only [frameBytes, hlength, if_false, hshort, if_true]

theorem takeAll_gathers {rest more : List Byte} (h1 : 1 ≤ (half hi lo).toNat) (h2 : (half hi lo).toNat ≤ 1395)
    (hshort : (rest ++ more).length < (half hi lo).toNat + 2) :
    (Receiver.frame (hi :: lo :: rest)).takeAll more = (.frame (hi :: lo :: (rest ++ more)), 0, false) := by
  induction more generalizing rest with
  | nil => rw [List.append_nil]; rfl
  | cons b more ih =>
    have hassoc : rest ++ b :: more = (rest ++ [b]) ++ more := by simp
    rw [hassoc] at hshort ⊢
    have htake : (Receiver.frame (hi :: lo :: rest)).take b = (.frame (hi :: lo :: (rest ++ [b])), .nothing) :=
      frameBytes_waits h1 h2 (by rw [List.length_append] at hshort; exact Nat.lt_of_le_of_lt (Nat.le_add_right _ _) hshort)
    rw [takeAll_cons_nothing htake]
    exact ih hshort

/-- The sync byte and the length of a frame, and as much of its content and check as does not end it. -/
theorem takeAll_frame_begun {more : List Byte} (h1 : 1 ≤ (half hi lo).toNat) (h2 : (half hi lo).toNat ≤ 1395)
    (hshort : more.length < (half hi lo).toNat + 2) :
    Receiver.hunt.takeAll (0xA7 :: hi :: lo :: more) = (.frame (hi :: lo :: more), 0, false) := by
  have hsync : Receiver.hunt.take 0xA7 = (.frame [], .nothing) := rfl
  have hhi : (Receiver.frame []).take hi = (.frame [hi], .nothing) := rfl
  have hlo : (Receiver.frame [hi]).take lo = (.frame [hi, lo], .nothing) :=
    frameBytes_waits (rest := []) h1 h2 (Nat.zero_lt_succ _)
  rw [takeAll_cons_nothing hsync, takeAll_cons_nothing hhi, takeAll_cons_nothing hlo]
  exact takeAll_gathers (rest := []) h1 h2 hshort

/-- A frame with all its bytes: the check decides, then the kind and the form. -/
theorem frameBytes_complete {kind : Byte} {body : List Byte} {c1 c0 : Byte}
    (hlength : (half hi lo).toNat = (kind :: body).length) (h2 : (half hi lo).toNat ≤ 1395) :
    frameBytes (hi :: lo :: (kind :: body ++ [c1, c0]))
      = if crc (hi :: lo :: kind :: body) = half c1 c0 ∧ bodyValid kind body = true then (.hunt, .valid kind body)
        else (.hunt, .bad) := by
  have hrange : ¬((half hi lo).toNat = 0 ∨ 1395 < (half hi lo).toNat) := by
    rw [List.length_cons] at hlength
    omega
  have hfull : ¬(kind :: body ++ [c1, c0]).length < (kind :: body).length + 2 := by simp
  have htake : (kind :: body ++ [c1, c0]).take (kind :: body).length = kind :: body := List.take_left' rfl
  have hc1 : (kind :: body ++ [c1, c0]).getD (kind :: body).length 0 = c1 := by
    rw [List.getD_append_right _ _ _ _ le_rfl]
    simp
  have hc0 : (kind :: body ++ [c1, c0]).getD ((kind :: body).length + 1) 0 = c0 := by
    rw [List.getD_append_right _ _ _ _ (Nat.le_succ _)]
    simp
  simp only [frameBytes]
  rw [if_neg hrange, hlength, if_neg hfull, htake, hc1, hc0]
  by_cases hcrc : crc (hi :: lo :: kind :: body) = half c1 c0
  · by_cases hvalid : bodyValid kind body = true <;> simp [hcrc, hvalid]
  · simp [hcrc]

end

/-- A length field's two bytes. -/
theorem half_nat16 {n : Nat} (h : n < 65536) :
    ∃ hi lo, nat16 n = [hi, lo] ∧ (half hi lo).toNat = n := by
  refine ⟨_, _, rfl, ?_⟩
  rw [half_bytes16, BitVec.toNat_ofNat, Nat.mod_eq_of_lt h]

/-- Settles O12. -/
theorem framesAreReceivedWhole : Obligations.FramesAreReceivedWhole := by
  intro kind body hvalid hlength
  obtain ⟨hi, lo, hnat, hhalf⟩ := half_nat16 (n := body.length + 1) (by omega)
  obtain ⟨c1, c0, hbytes, hcrc⟩ : ∃ c1 c0, bytes16 (crc (hi :: lo :: kind :: body)) = [c1, c0]
      ∧ crc (hi :: lo :: kind :: body) = half c1 c0 := ⟨_, _, rfl, (half_bytes16 _).symm⟩
  have hframe : frame kind body = (0xA7 :: hi :: lo :: (kind :: body ++ [c1])) ++ [c0] := by
    simp only [frame, hnat, List.cons_append, List.nil_append, hbytes, List.append_assoc]
  refine ⟨_, c0, _, hframe, takeAll_frame_begun (by omega) (by omega) (by simp; omega), ?_⟩
  have hcomplete := frameBytes_complete (c1 := c1) (c0 := c0) (kind := kind) (body := body) (by rw [hhalf]; rfl) (by omega)
  rw [if_pos ⟨hcrc, hvalid⟩] at hcomplete
  rw [Receiver.take, ← hcomplete]
  simp

/-! ### KEEP and bad frames (R171, R172) -/

/-- Bytes that end in one bad frame, for a receiver in HUNT that is left in HUNT. -/
theorem exec_badFrame_one {s : State} {p : Port} (hunt : (s.port p).receiver = .hunt) {bytes : List Byte}
    (h : Receiver.hunt.takeAll bytes = (.hunt, 1, false)) :
    exec (.badFrame p bytes) s = .next (s.modPort p fun x => { x with badFrames := bump x.badFrames }) := by
  show execBadFrame p bytes s = _
  rw [execBadFrame, hunt, h]
  refine congrArg Host.Outcome.next (State.modPort_congr ?_)
  rw [← hunt]
  rfl

theorem takeAll_bad_of_last {first : List Byte} {r : Receiver} (h : Receiver.hunt.takeAll first = (r, 0, false)) {last : Byte}
    (hlast : r.take last = (.hunt, .bad)) : Receiver.hunt.takeAll (first ++ [last]) = (.hunt, 1, false) := by
  rw [takeAll_append h, takeAll_single, hlast]
  rfl

theorem exec_badFrame_content {s : State} {p : Port} (hunt : (s.port p).receiver = .hunt) {kind : Byte} {body : List Byte}
    (hlength : (kind :: body).length ≤ 1395) {hi lo c1 c0 : Byte} (hhalf : (half hi lo).toNat = (kind :: body).length)
    (hbad : ¬(crc (hi :: lo :: kind :: body) = half c1 c0 ∧ bodyValid kind body = true)) :
    exec (.badFrame p (0xA7 :: hi :: lo :: (kind :: body ++ [c1, c0]))) s
      = .next (s.modPort p fun x => { x with badFrames := bump x.badFrames }) := by
  refine exec_badFrame_one hunt ?_
  have hsplit : 0xA7 :: hi :: lo :: (kind :: body ++ [c1, c0]) = (0xA7 :: hi :: lo :: (kind :: body ++ [c1])) ++ [c0] := by
    simp
  rw [hsplit]
  refine takeAll_bad_of_last
    (takeAll_frame_begun (by rw [hhalf, List.length_cons]; omega) (by omega) (by rw [hhalf]; simp)) ?_
  have hcomplete := frameBytes_complete (c1 := c1) (c0 := c0) hhalf (by omega)
  rw [if_neg hbad] at hcomplete
  rw [Receiver.take, ← hcomplete]
  simp

/-- Settles O16. -/
theorem keepAndBadFrames : Obligations.KeepAndBadFrames := by
  refine ⟨fun s p body => ⟨fun hup => ?keep, fun hbody => ?misshapen⟩, fun s p hunt => ?zero,
    fun s p hi lo hunt hlong hhi hlo => ?long, fun s p content check hunt h1 h2 hcheck => ?check,
    fun s p kind body hunt hlength hinvalid => ?form⟩
  case keep => rw [exec_keep_nil, State.messageTaken_of_up hup]
  case misshapen =>
    show execKeep p body s = _
    rw [execKeep, if_neg (by simpa using hbody)]
    rfl
  case zero => exact exec_badFrame_one hunt rfl
  case long =>
    refine exec_badFrame_one hunt (takeAll_bad_of_last (first := [0xA7, hi]) (r := .frame [hi]) rfl ?_)
    simp only [Receiver.take, List.singleton_append, frameBytes]
    rw [if_pos (.inr hlong)]
    rw [huntByte, if_neg hhi]
    exact congrArg (·, Received.bad) (if_neg hlo)
  case check =>
    cases content with
    | nil => simp at h1
    | cons kind body =>
      obtain ⟨hi, lo, hnat, hhalf⟩ := half_nat16 (n := (kind :: body).length) (by omega)
      rw [hnat] at hcheck ⊢
      refine exec_badFrame_content hunt h2 hhalf fun hboth => hcheck ?_
      rw [half_bytes16] at hboth
      exact hboth.1.symm
  case form =>
    obtain ⟨hi, lo, hnat, hhalf⟩ := half_nat16 (n := (kind :: body).length) (by simp; omega)
    have hframe : frame kind body = 0xA7 :: hi :: lo :: (kind :: body
        ++ [(crc (hi :: lo :: kind :: body)).extractLsb' 8 8, (crc (hi :: lo :: kind :: body)).extractLsb' 0 8]) := by
      have hnat' : nat16 (body.length + 1) = [hi, lo] := hnat
      simp only [frame, hnat', List.cons_append, List.nil_append, bytes16]
    rw [hframe]
    exact exec_badFrame_content hunt (by simp; omega) hhalf fun hboth => by simp [hinvalid] at hboth

end Sys2Proof.Machine


namespace Sys2Proof.Machine

/-! ### The control queue (R178, R179) -/

theorem masked_iff {mask : Word} {d : NoticeData} :
    masked mask d = true ↔ d.maskable = true ∧ mask.getLsbD d.code.toNat = false := by
  simp [masked]

section
variable {x : PortState} {mask : Word} {n : Notice} (now : Word) (p : Port)

theorem PortState.offer_down (hdown : x.up = false) : x.offer now p mask n = x := by
  rw [PortState.offer, hdown]
  rfl

theorem PortState.offer_masked (hmask : masked mask n.data = true) : x.offer now p mask n = x := by
  unfold PortState.offer
  rw [if_pos hmask]
  exact ite_self x

theorem PortState.offer_dropped (hup : x.up = true) (hmask : ¬masked mask n.data = true)
    (hfull : x.overflowMark = true ∨ 28 ≤ x.noticeCount) :
    x.offer now p mask n = x.dropNotice.settleOverflow now p := by
  have hcond : (x.overflowMark || decide (28 ≤ x.noticeCount)) = true := by simpa using hfull
  simp only [PortState.offer, hup, hmask, hcond, Bool.not_true, if_true, if_false, Bool.false_eq_true]

theorem PortState.settleOverflow_settles (hmark : x.overflowMark = true) (hroom : x.noticeCount < 28) :
    x.settleOverflow now p
      = { x.enqueue (.notice ⟨.overflow p x.dropped, none, none, now⟩) with overflowMark := false, dropped := 0 } := by
  simp only [PortState.settleOverflow, hmark, hroom, decide_true, Bool.and_self, if_true]

theorem PortState.settleOverflow_stays (h : x.overflowMark = false ∨ ¬x.noticeCount < 28) : x.settleOverflow now p = x := by
  rw [PortState.settleOverflow, if_neg]
  simpa [imp_iff_not_or] using h

theorem PortState.dropNotice_eq (x : PortState) :
    x.dropNotice
      = { x with noticesDropped := bump x.noticesDropped, overflowMark := true, dropped := min 65535 (x.dropped + 1) } := by
  rw [PortState.dropNotice, stopAt, Nat.min_comm]

end

/-- A change that leaves the port's value alone leaves the state alone. -/
theorem State.modPort_id {s : State} {p : Port} {f : PortState → PortState} (h : f (s.port p) = s.port p) :
    s.modPort p f = s := by
  rw [State.modPort_congr (g := id) h]
  simp [State.modPort]

/-! ### Where notices go (R24 to R26) -/

section
variable {s : State} {c : Chan}

theorem State.routeChannel_held (h : (s.chan c).state = .run ∨ (s.chan c).state = .draining) (n : Notice) :
    s.routeChannel c n = s.offerTo (s.chan c).holder n := by
  obtain hrun | hdraining := h
  · simp only [State.routeChannel, hrun]
  · simp only [State.routeChannel, hdraining]

theorem State.routeChannel_parked (h : (s.chan c).state = .parked) (n : Notice) :
    s.routeChannel c n = s.modChan c (·.keepNotice n) := by
  simp only [State.routeChannel, h]

theorem State.modChan_congr {f g : Channel → Channel} (h : f (s.chan c) = g (s.chan c)) : s.modChan c f = s.modChan c g := by
  unfold State.chan at h
  simp only [State.modChan, h]

end

/-- Settles O18: each branch of the offer and of the routing, by the rule of that branch. -/
theorem noticesQueuedAndRouted : Obligations.NoticesQueuedAndRouted := by
  refine ⟨fun s p n _ => ?offered, fun s n => ⟨?held, ?parked, ?full, ?led, ?unled, ?ring⟩⟩
  case offered =>
    dsimp only
    rw [← masked_iff]
    refine ⟨fun hdown => ?_, fun _ hmask => ?_, fun hup hmask hmark hroom => ?_, fun hup hmask hfull => ?_,
      fun hup hmask hmark hroom => ?_⟩
    · exact State.modPort_id (PortState.offer_down _ _ hdown)
    · exact State.modPort_id (PortState.offer_masked _ _ hmask)
    · exact State.modPort_congr (PortState.offer_queued hup (by simpa using hmask) hmark hroom _ _)
    · refine State.modPort_congr ?_
      rw [PortState.offer_dropped _ _ hup hmask (.inr hfull),
        PortState.settleOverflow_stays (x := (s.port p).dropNotice) _ _ (.inr (Nat.not_lt.mpr hfull)),
        PortState.dropNotice_eq]
    · refine State.modPort_congr ?_
      rw [PortState.offer_dropped _ _ hup hmask (.inl hmark),
        PortState.settleOverflow_settles (x := (s.port p).dropNotice) _ _ rfl hroom,
        PortState.dropNotice_eq]
      rfl
  case held =>
    intro c p hstate hholder
    rw [State.routeChannel_held hstate, hholder]
    rfl
  case parked =>
    intro c hstate hlength
    rw [State.routeChannel_parked hstate]
    exact State.modChan_congr (if_neg (Nat.not_le.mpr hlength))
  case full =>
    intro c oldest rest hstate hnotices hlength
    rw [State.routeChannel_parked hstate]
    refine State.modChan_congr ?_
    have hfull : 8 ≤ (s.chan c).notices.length := by rw [hnotices, List.length_cons, hlength]
    rw [Channel.keepNotice, if_pos hfull, hnotices]
    rfl
  case led =>
    intro l c hlead
    simp only [State.routeLoop, hlead]
  case unled =>
    intro l hlead
    simp only [State.routeLoop, hlead]
    rfl
  case ring => exact fun l owner => ⟨rfl, rfl⟩

end Sys2Proof.Machine


namespace Sys2Proof.Machine

/-! ### The arbiter's choice (R84, R180) -/

/-- A channel is due, in the words of R84. -/
theorem State.due_iff {s : State} {p : Port} {c : Chan} :
    s.due p c = true
      ↔ (s.chan c).state = .run ∧ (s.chan c).holder = some p ∧ (s.port p).up = true
        ∧ (s.chan c).settings.packet ≤ (s.chan c).uf.unsentCount ∧ (s.chan c).uf.transfer = none := by
  simp [State.due, and_assoc]

theorem mem_cyclicAfter (last : Option Chan) (c : Chan) : c ∈ cyclicAfter last := by
  cases last with
  | none => cases c <;> decide
  | some d => cases d <;> cases c <;> decide

theorem State.nextDue_none {s : State} {p : Port} (h : ∀ c, ¬s.due p c = true) : s.nextDue p = none :=
  List.find?_eq_none.mpr fun c _ => h c

theorem State.nextDue_first {s : State} {p : Port} {before after : List Chan} {c : Chan}
    (order : cyclicAfter (s.port p).lastServed = before ++ c :: after) (passed : ∀ d ∈ before, ¬s.due p d = true)
    (due : s.due p c = true) : s.nextDue p = some c := by
  refine List.find?_eq_some_iff_append.mpr ⟨due, before, after, order, fun d hd => ?_⟩
  simpa using passed d hd

theorem State.attention_iff {s : State} {p : Port} :
    s.attention p = true
      ↔ (s.port p).queue ≠ [] ∨ (∃ c, s.due p c = true) ∨ (s.port p).transfer.isSome = true := by
  have hdue : Chan.all.any (s.due p) = true ↔ ∃ c, s.due p c = true := by
    rw [List.any_eq_true]
    exact ⟨fun ⟨c, _, hc⟩ => ⟨c, hc⟩, fun ⟨c, hc⟩ => ⟨c, mem_chanAll c, hc⟩⟩
  simp only [State.attention, Bool.or_eq_true, hdue, Bool.not_eq_true', List.isEmpty_eq_false_iff, or_assoc, ne_eq]

/-! ### A message that begins (R170, R180) -/

theorem Entry.frame_sync (e : Entry) : e.frame[0]? = some 0xA7 := by
  cases e <;> rfl

theorem exec_messageBegin_inTransfer {s : State} {p : Port} {t : Transfer} (h : (s.port p).transfer = some t) :
    exec (.messageBegin p) s = .next (s.modPort p PortState.sendByte) := by
  have hchoose : s.chooseMessage p = s := by simp only [State.chooseMessage, h, Option.isSome_some, if_true]
  rw [exec, execMessageBegin, hchoose]

theorem exec_messageBegin_control {s : State} {p : Port} {e : Entry} {rest : List Entry}
    (idle : (s.port p).transfer = none) (queue : (s.port p).queue = e :: rest) :
    exec (.messageBegin p) s
      = .next (s.modPort p fun x => { x with sent := [0xA7], transfer := some ⟨.control, e.frame, 1⟩ }) := by
  have hchoose : s.chooseMessage p = s.modPort p fun x => { x with transfer := some ⟨.control, e.frame, 0⟩ } := by
    simp only [State.chooseMessage, idle, queue, Option.isSome_none, Bool.false_eq_true, if_false]
  rw [exec, execMessageBegin, hchoose, State.modPort_modPort]
  refine congrArg _ (State.modPort_congr ?_)
  exact PortState.sendByte_next _ ⟨.control, e.frame, 0⟩ 0xA7 rfl e.frame_sync

theorem exec_messageBegin_fill {s : State} {p : Port} (idle : (s.port p).transfer = none) (queue : (s.port p).queue = [])
    (none : s.nextDue p = none) : exec (.messageBegin p) s = .next (s.modPort p fun x => { x with sent := [0x00] }) := by
  have hchoose : s.chooseMessage p = s := by
    simp only [State.chooseMessage, idle, queue, none, Option.isSome_none, Bool.false_eq_true, if_false]
  rw [exec, execMessageBegin, hchoose]
  exact congrArg _ (State.modPort_congr (PortState.sendByte_idle _ idle))

theorem exec_messageBegin_media {s : State} {p : Port} {c : Chan} (idle : (s.port p).transfer = none)
    (queue : (s.port p).queue = []) (next : s.nextDue p = some c) :
    let m := (s.chan c).formMedia c
    exec (.messageBegin p) s
      = .next ((s.modChan c (·.mediaFormed p m)).modPort p fun x =>
          { x with sent := [0xA7], transfer := some ⟨.media m true, m.frame, 1⟩, lastServed := some c }) := by
  intro m
  have hchoose : s.chooseMessage p = s.beginMedia p c := by
    simp only [State.chooseMessage, idle, queue, next, Option.isSome_none, Bool.false_eq_true, if_false]
  rw [exec, execMessageBegin, hchoose, State.beginMedia, State.modPort_modPort]
  refine congrArg _ (State.modPort_congr ?_)
  exact PortState.sendByte_next _ ⟨.media m true, m.frame, 0⟩ 0xA7 rfl (frame_head _ _)

/-! ### What a MEDIA_OUT carries (R85) -/

theorem Framer.copies_length (uf : Framer) (n : Nat) (seq : Half) : (uf.copies n seq).length ≤ n := by
  induction n generalizing seq with
  | zero => exact Nat.le_refl 0
  | succ n ih =>
    unfold Framer.copies
    split
    · exact Nat.zero_le _
    · exact Nat.succ_le_succ (ih _)

theorem Framer.entry_some {uf : Framer} {seq : Half} {e : HEntry} (h : uf.entry seq = some e) : e ∈ uf.ring ∧ e.seq = seq :=
  ⟨List.mem_of_find?_eq_some h, by simpa using List.find?_some h⟩

theorem Framer.entry_none {uf : Framer} {seq : Half} (h : uf.entry seq = none) : ∀ e ∈ uf.ring, e.seq ≠ seq := by
  simpa [Framer.entry] using h

theorem half_sub_succ (seq : Half) (k : Nat) : seq - 1 - BitVec.ofNat 16 k = seq - BitVec.ofNat 16 (k + 1) := by
  rw [BitVec.ofNat_add]
  generalize BitVec.ofNat 16 k = x
  bv_omega

/-- Copy `k` is the ring's block `k` numbers down. -/
theorem Framer.copies_getElem? {uf : Framer} {n : Nat} {seq : Half} {k : Nat} {b : List Sample}
    (h : (uf.copies n seq)[k]? = some b) : ∃ e ∈ uf.ring, e.seq = seq - BitVec.ofNat 16 k ∧ e.samples = b := by
  induction n generalizing seq k with
  | zero => cases h
  | succ n ih =>
    unfold Framer.copies at h
    split at h
    · cases h
    · next e hentry =>
      obtain ⟨hmem, hseq⟩ := Framer.entry_some hentry
      cases k with
      | zero => exact ⟨e, hmem, by simpa using hseq, by simpa using h⟩
      | succ k =>
        rw [← half_sub_succ]
        exact ih h

/-- The copies stop short of their limit at a number that is not in the ring. -/
theorem Framer.copies_stop {uf : Framer} {n : Nat} {seq : Half} (h : (uf.copies n seq).length < n) :
    ∀ e ∈ uf.ring, e.seq ≠ seq - BitVec.ofNat 16 (uf.copies n seq).length := by
  induction n generalizing seq with
  | zero => cases h
  | succ n ih =>
    unfold Framer.copies at h ⊢
    split
    · next hentry => simpa using Framer.entry_none hentry
    · next e hentry =>
      rw [hentry] at h
      rw [List.length_cons, ← half_sub_succ]
      exact ih (Nat.lt_of_succ_lt_succ h)

/-- The redundant copies of a message, with the limit its mode sets. -/
theorem Channel.formMedia_redundant (ch : Channel) (c : Chan) :
    (ch.formMedia c).redundant
      = ch.uf.copies (if ch.mode = .data then ch.settings.redundancy else 0) (ch.uf.sendPtr - 1) := by
  unfold Channel.formMedia
  cases ch.mode <;> rfl

theorem Channel.formMedia_count {ch : Channel} (h : ch.settings.packet ≤ ch.uf.unsentCount) (c : Chan) :
    (ch.formMedia c).primaries.length = ch.settings.packet := by
  have hcount : ch.settings.packet ≤ (ch.uf.ring.filter ch.uf.unsent).length := by
    rwa [← List.countP_eq_length_filter]
  simpa [Channel.formMedia] using hcount

theorem Channel.formMedia_stamp {ch : Channel} (packet : 1 ≤ ch.settings.packet) {e : HEntry}
    (h : (ch.uf.ring.filter ch.uf.unsent).head? = some e) (c : Chan) : (ch.formMedia c).stamp = e.stamp := by
  have hnot : ¬ch.settings.packet = 0 := by omega
  simp only [Channel.formMedia, List.head?_take, h, hnot, if_false]
  rfl

/-- Settles O19: each choice of the arbiter in turn. -/
theorem messageBeginChooses : Obligations.MessageBeginChooses := by
  intro s p
  dsimp only
  refine ⟨fun t ht => ⟨fun b hb => ?next, fun hb => ?done⟩, fun idle e rest queue => ?control,
    fun idle queue notDue => ?fill, fun idle queue before after c order passed due held => ?media, ?attention⟩
  case next =>
    rw [exec_messageBegin_inTransfer ht]
    exact congrArg _ (State.modPort_congr (PortState.sendByte_next _ t b ht hb))
  case done =>
    rw [exec_messageBegin_inTransfer ht]
    exact congrArg _ (State.modPort_id (PortState.sendByte_done _ t ht hb))
  case control => exact exec_messageBegin_control idle queue
  case fill => exact exec_messageBegin_fill idle queue (State.nextDue_none fun c hc => notDue c (State.due_iff.mp hc))
  case media =>
    have horder : cyclicAfter (s.port p).lastServed = before ++ c :: after := by
      rw [← order]
      rfl
    have hnext := State.nextDue_first horder (fun d hd hdue => passed d hd (State.due_iff.mp hdue)) (State.due_iff.mpr due)
    obtain ⟨hrun, -, -, hunsent, -⟩ := due
    have hsettings := (held (by simp [hrun])).1
    refine ⟨(s.chan c).formMedia c, exec_messageBegin_media idle queue hnext, rfl, rfl, rfl, rfl, rfl,
      Channel.formMedia_count hunsent c, fun e he => Channel.formMedia_stamp hsettings.packet.1 he c, ?_⟩
    rw [Channel.formMedia_redundant]
    exact ⟨Framer.copies_length _ _ _, fun k b hb => Framer.copies_getElem? hb, Framer.copies_stop⟩
  case attention => exact State.attention_iff.trans (by simp only [State.due_iff]; rfl)

end Sys2Proof.Machine


namespace Sys2Proof.Machine

/-! ### The end of a transfer (R86, R170, R176, R179, R194) -/

theorem State.modPort_modChan (s : State) (p : Port) (f : PortState → PortState) (c : Chan) (g : Channel → Channel) :
    (s.modPort p f).modChan c g = (s.modChan c g).modPort p f := rfl

theorem State.sendRest_transfer {s : State} {p : Port} {t : Transfer} (h : (s.port p).transfer = some t) :
    s.modPort p PortState.sendRest = s.modPort p fun x => { x with sent := t.frame.drop t.position } := by
  refine State.modPort_congr ?_
  simp only [PortState.sendRest, h]

theorem exec_transferComplete_none {s : State} {p : Port} (h : (s.port p).transfer = none) :
    exec (.transferComplete p) s = .next s := by
  have hrest : s.modPort p PortState.sendRest = s := State.modPort_id (by simp only [PortState.sendRest, h])
  rw [exec, execTransferComplete, hrest]
  simp only [State.completeTransfer, h]

section
variable {s : State} {p : Port} {bytes : List Byte} {n : Nat}

theorem exec_transferComplete_control {e : Entry} {rest : List Entry}
    (transfer : (s.port p).transfer = some ⟨.control, bytes, n⟩) (queue : (s.port p).queue = e :: rest) :
    exec (.transferComplete p) s
      = .next { s.modPort p fun x => ({ x with sent := bytes.drop n }.leaveQueue e).settleOverflow s.timebase p with
          restart := s.restart.afterEntry e } := by
  rw [exec, execTransferComplete, State.sendRest_transfer transfer]
  simp only [State.completeTransfer, State.port_modPort_same, transfer, queue, State.modPort_modPort]
  rfl

theorem exec_transferComplete_media {m : MediaOut} {current : Bool}
    (transfer : (s.port p).transfer = some ⟨.media m current, bytes, n⟩) :
    exec (.transferComplete p) s
      = .next ((if current then s.modChan m.chan (Channel.mediaCompleted m) else s).modPort p fun x =>
          { x with sent := bytes.drop n, transfer := none }) := by
  rw [exec, execTransferComplete, State.sendRest_transfer transfer]
  simp only [State.completeTransfer, State.port_modPort_same, transfer]
  cases current
  · simp only [Bool.false_eq_true, if_false, State.modPort_modPort]
  · simp only [if_true]
    rw [State.modPort_modChan, State.modPort_modPort]

theorem PortState.leaveQueue_sent {x : PortState} {e : Entry} {rest : List Entry} (queue : x.queue = e :: rest) :
    { x with sent := bytes.drop n }.leaveQueue e
      = { x with
          queue := rest
          transfer := none
          outstanding := if e.isNotice then x.outstanding else x.outstanding - 1
          sent := bytes.drop n } := by
  simp only [PortState.leaveQueue, queue, List.drop_one, List.tail_cons]

variable {e : Entry} {rest : List Entry} (transfer : (s.port p).transfer = some ⟨.control, bytes, n⟩)
  (queue : (s.port p).queue = e :: rest)
include transfer queue

/-- The entry leaves, and the overflow mark is clear or finds no room. -/
theorem exec_transferComplete_leaves (stays : (s.port p).overflowMark = false ∨ ¬rest.countP Entry.isNotice < 28) :
    exec (.transferComplete p) s
      = .next { s.modPort p fun x =>
            { x with
              queue := rest
              transfer := none
              outstanding := if e.isNotice then (s.port p).outstanding else (s.port p).outstanding - 1
              sent := bytes.drop n } with
          restart := s.restart.afterEntry e } := by
  rw [exec_transferComplete_control transfer queue]
  refine congrArg (fun t : State => Host.Outcome.next { t with restart := s.restart.afterEntry e }) (State.modPort_congr ?_)
  rw [PortState.leaveQueue_sent queue]
  exact PortState.settleOverflow_stays _ _ stays

/-- The entry leaves, and the overflow mark finds room. -/
theorem exec_transferComplete_settles (marked : (s.port p).overflowMark = true) (room : rest.countP Entry.isNotice < 28) :
    exec (.transferComplete p) s
      = .next { s.modPort p fun x =>
            { x with
              queue := rest ++ [.notice ⟨.overflow p x.dropped, none, none, s.timebase⟩]
              transfer := none
              sent := bytes.drop n
              outstanding := if e.isNotice then (s.port p).outstanding else (s.port p).outstanding - 1
              overflowMark := false
              dropped := 0 } with
          restart := s.restart.afterEntry e } := by
  rw [exec_transferComplete_control transfer queue]
  refine congrArg (fun t : State => Host.Outcome.next { t with restart := s.restart.afterEntry e }) (State.modPort_congr ?_)
  rw [PortState.leaveQueue_sent queue]
  exact PortState.settleOverflow_settles _ _ marked room

end

/-- Settles O20: a control entry with and without a mark to settle, and a MEDIA_OUT current or not. -/
theorem transferEnds : Obligations.TransferEnds := by
  intro s p bytes n
  refine ⟨exec_transferComplete_none, fun e rest transfer queue => ?control, fun m transfer => ?stale,
    fun m transfer => ?current⟩
  case control =>
    have hleaves := exec_transferComplete_leaves transfer queue
    have hsettles := exec_transferComplete_settles transfer queue
    cases e with
    | reply r => exact ⟨hleaves, hsettles⟩
    | notice n => exact ⟨hleaves, hsettles⟩
  case stale => exact exec_transferComplete_media transfer
  case current => exact exec_transferComplete_media transfer

end Sys2Proof.Machine


namespace Sys2Proof.Machine

/-! ### A channel that parks as its holder's port goes DOWN (R8 to R10, R174) -/

/-- The port is offered the channel that parks as port `p` goes DOWN (R10). -/
def State.wantsOffer (s : State) (p q : Port) (c : Chan) : Bool :=
  match (s.chan c).parkFallback.or (s.chan c).fallback with
  | some f =>
    if (s.port f).up && f != p then q == f
    else (s.loopSet (s.chan c).loop).offerSet.get q && (s.port q).up && q != p
  | none => (s.loopSet (s.chan c).loop).offerSet.get q && (s.port q).up && q != p

/-- The channel is in RUN and held by the port: it parks when the port goes DOWN (R8). -/
def State.parks (s : State) (p : Port) (c : Chan) : Bool := (s.chan c).state == .run && (s.chan c).holder == some p

/-- The TAKEOVER_OFFER of the channel that parks as port `p` goes DOWN (R10). -/
def State.parkingOffer (s : State) (p : Port) (c : Chan) : Notice :=
  ⟨.takeoverOffer (s.chan c).lead (s.chan c).mode .portDown p
      (msLeft s.timebase (s.timebase + msSpan (s.chan c).settings.parkTime)),
    some (s.chan c).loop, some c, s.timebase⟩

/-- A channel that parks as port `p` goes DOWN, before the park is counted (R8). -/
def Channel.parking (now : Word) (p : Port) (ch : Channel) : Channel :=
  { ch with
    state := .parked
    holder := none
    oldHolder := p
    parkCause := .portDown
    parkDeadline := now + msSpan ch.settings.parkTime }

/-- A channel once it has parked as port `p` went DOWN (R8). -/
def Channel.parkedDown (now : Word) (p : Port) (ch : Channel) : Channel :=
  { ch.parking now p with stats := { ch.stats with parks := bump ch.stats.parks } }

theorem State.park_portDown (s : State) (p : Port) (c : Chan) :
    s.park c .portDown p
      = (((s.modChan c (·.parking s.timebase p)).offerEach ((s.modChan c (·.parking s.timebase p)).offerRecipients c)
            ((s.modChan c (·.parking s.timebase p)).takeoverOffer c)).modChan c fun ch =>
          { ch with stats := { ch.stats with parks := bump ch.stats.parks } }) := rfl

theorem State.parking_takeoverOffer (s : State) (p : Port) (c : Chan) :
    (s.modChan c (·.parking s.timebase p)).takeoverOffer c = s.parkingOffer p c := by
  unfold State.takeoverOffer
  rw [State.chan_modChan_same]
  rfl

theorem State.offerEach_port {ps : List Port} (nodup : ps.Nodup) (s : State) (n : Notice) (q : Port) :
    (s.offerEach ps n).port q
      = if q ∈ ps then (s.port q).offer s.timebase q (s.live.port.get q).noticeMask n else s.port q := by
  induction ps generalizing s with
  | nil => simp [State.offerEach]
  | cons r rest ih =>
    obtain ⟨hr, hrest⟩ := List.nodup_cons.mp nodup
    have hfold : s.offerEach (r :: rest) n = (s.offer r n).offerEach rest n := rfl
    rw [hfold, ih hrest, State.offer, State.port_modPort]
    by_cases hq : q = r
    · subst hq
      simp [hr]
    · simp [hq]

theorem State.offerRecipients_nodup (s : State) (c : Chan) : (s.offerRecipients c).Nodup := by
  have hall : Port.all.Nodup := by decide
  have hothers := (hall.filter fun q => (s.loopSet (s.chan c).loop).offerSet.get q && (s.port q).up).filter
    (· != (s.chan c).oldHolder)
  unfold State.offerRecipients
  dsimp only
  split
  · split
    · exact List.nodup_singleton _
    · exact hothers
  · exact hothers

/-- Who is offered a channel that has just parked. -/
theorem State.mem_parking_offerRecipients (s : State) (p : Port) (c : Chan) (q : Port) :
    q ∈ (s.modChan c (·.parking s.timebase p)).offerRecipients c ↔ s.wantsOffer p q c = true := by
  have hothers : q ∈ (s.offerPorts (s.chan c).loop).filter (· != p)
      ↔ ((s.loopSet (s.chan c).loop).offerSet.get q && (s.port q).up && q != p) = true := by
    have hall : q ∈ Port.all := by cases q <;> decide
    simp only [State.offerPorts, List.mem_filter, hall, true_and, Bool.and_eq_true]
  unfold State.offerRecipients State.wantsOffer
  simp only [State.chan_modChan_same, Channel.parking]
  cases (s.chan c).parkFallback.or (s.chan c).fallback with
  | none => exact hothers
  | some f =>
    dsimp only
    rw [State.port_modChan]
    split
    · simp
    · exact hothers

theorem State.park_portDown_chan (s : State) (p : Port) (c : Chan) :
    (s.park c .portDown p).chan c = (s.chan c).parkedDown s.timebase p := by
  rw [State.park_portDown, State.chan_modChan_same, State.chan, (State.offerEach_untouched _ _ _).2.2.1]
  exact congrArg (fun ch : Channel => { ch with stats := { ch.stats with parks := bump ch.stats.parks } })
    (State.chan_modChan_same s c _)

theorem State.park_portDown_port (s : State) (p : Port) (c : Chan) (q : Port) :
    (s.park c .portDown p).port q
      = if s.wantsOffer p q c then
          (s.port q).offer s.timebase q (s.live.port.get q).noticeMask (s.parkingOffer p c)
        else s.port q := by
  rw [State.park_portDown, State.port_modChan, State.offerEach_port (State.offerRecipients_nodup _ _),
    State.parking_takeoverOffer]
  simp only [State.mem_parking_offerRecipients]
  rfl

/-! ### The channels of a port that goes DOWN park in order (R8) -/

/-- What a park reads of the channels looked at later, and of the ports, is as it was. -/
structure State.ParkedAlike (s t : State) : Prop where
  timebase : t.timebase = s.timebase
  live : t.live = s.live
  up : ∀ q, (t.port q).up = (s.port q).up

theorem State.parkIfHeld_alike (s : State) (p : Port) (c : Chan) : State.ParkedAlike s (s.parkIfHeld p c) := by
  unfold State.parkIfHeld
  split
  · refine ⟨(State.park_untouched ..).1, (State.park_untouched ..).2.2.2.2.2.2.1, fun q => ?_⟩
    rw [State.park_portDown_port]
    split
    · exact (PortState.offer_untouched _ _ _ _ _).1
    · rfl
  · exact ⟨rfl, rfl, fun _ => rfl⟩

theorem State.ParkedAlike.wantsOffer {s t : State} (h : State.ParkedAlike s t) {c : Chan}
    (chan : t.chan c = s.chan c) (p q : Port) : t.wantsOffer p q c = s.wantsOffer p q c := by
  unfold State.wantsOffer State.loopSet
  simp only [chan, h.live, h.up]

theorem State.parks_congr {s t : State} {c : Chan} (chan : t.chan c = s.chan c) (p : Port) : t.parks p c = s.parks p c := by
  rw [State.parks, State.parks, chan]

theorem State.ParkedAlike.parkingOffer {s t : State} (h : State.ParkedAlike s t) {c : Chan}
    (chan : t.chan c = s.chan c) (p : Port) : t.parkingOffer p c = s.parkingOffer p c := by
  rw [State.parkingOffer, State.parkingOffer, chan, h.timebase]

theorem State.parks_iff {s : State} {p : Port} {c : Chan} :
    s.parks p c = true ↔ (s.chan c).state = .run ∧ (s.chan c).holder = some p := by
  simp [State.parks]

theorem State.parkIfHeld_eq (s : State) (p : Port) (c : Chan) :
    s.parkIfHeld p c = if s.parks p c then s.park c .portDown p else s := by
  simp only [State.parkIfHeld, State.parks_iff]

theorem State.parkIfHeld_chan (s : State) (p : Port) (c d : Chan) :
    (s.parkIfHeld p c).chan d
      = if d = c ∧ s.parks p c = true then (s.chan c).parkedDown s.timebase p else s.chan d := by
  rw [State.parkIfHeld_eq]
  by_cases hparks : s.parks p c = true
  · by_cases hd : d = c
    · subst hd
      simp [hparks, State.park_portDown_chan]
    · simp [hparks, hd, (s.park_chan c d .portDown p).1 hd]
  · simp [hparks]

theorem State.parkIfHeld_port (s : State) (p : Port) (c : Chan) (q : Port) :
    (s.parkIfHeld p c).port q
      = if s.parks p c && s.wantsOffer p q c then
          (s.port q).offer s.timebase q (s.live.port.get q).noticeMask (s.parkingOffer p c)
        else s.port q := by
  rw [State.parkIfHeld_eq]
  by_cases hparks : s.parks p c = true
  · simp only [hparks, if_true, State.park_portDown_port, Bool.true_and]
  · simp [hparks]

theorem State.parkEach_chan {cs : List Chan} (nodup : cs.Nodup) (s : State) (p : Port) (d : Chan) :
    (cs.foldl (State.parkIfHeld p) s).chan d
      = if d ∈ cs ∧ s.parks p d = true then (s.chan d).parkedDown s.timebase p else s.chan d := by
  induction cs generalizing s with
  | nil => simp
  | cons c rest ih =>
    obtain ⟨hc, hrest⟩ := List.nodup_cons.mp nodup
    rw [List.foldl_cons, ih hrest]
    by_cases hd : d = c
    · subst hd
      simp [hc, State.parkIfHeld_chan]
    · have hsame : (s.parkIfHeld p c).chan d = s.chan d := by simp [State.parkIfHeld_chan, hd]
      simp only [List.mem_cons, hd, false_or, hsame, State.parks_congr hsame, (s.parkIfHeld_alike p c).timebase]

theorem State.parkEach_port {cs : List Chan} (nodup : cs.Nodup) (s : State) (p q : Port) :
    (cs.foldl (State.parkIfHeld p) s).port q
      = (cs.filter fun c => s.parks p c && s.wantsOffer p q c).foldl
          (fun x c => x.offer s.timebase q (s.live.port.get q).noticeMask (s.parkingOffer p c)) (s.port q) := by
  induction cs generalizing s with
  | nil => rfl
  | cons c rest ih =>
    obtain ⟨hc, hrest⟩ := List.nodup_cons.mp nodup
    have halike := s.parkIfHeld_alike p c
    have hsame (d : Chan) (hd : d ∈ rest) : (s.parkIfHeld p c).chan d = s.chan d := by
      have hne : d ≠ c := fun h => hc (h ▸ hd)
      simp [State.parkIfHeld_chan, hne]
    have hfilter : (rest.filter fun d => (s.parkIfHeld p c).parks p d && (s.parkIfHeld p c).wantsOffer p q d)
        = rest.filter fun d => s.parks p d && s.wantsOffer p q d :=
      List.filter_congr fun d hd => by rw [State.parks_congr (hsame d hd), halike.wantsOffer (hsame d hd)]
    rw [List.foldl_cons, ih hrest, hfilter, halike.timebase, halike.live, State.parkIfHeld_port]
    have hfold (x : PortState) :
        (rest.filter fun d => s.parks p d && s.wantsOffer p q d).foldl
            (fun x d => x.offer s.timebase q (s.live.port.get q).noticeMask ((s.parkIfHeld p c).parkingOffer p d)) x
          = (rest.filter fun d => s.parks p d && s.wantsOffer p q d).foldl
              (fun x d => x.offer s.timebase q (s.live.port.get q).noticeMask (s.parkingOffer p d)) x :=
      List.foldl_ext _ _ _ fun x d hd => by
        rw [halike.parkingOffer (hsame d (List.mem_of_mem_filter hd))]
    rw [hfold, List.filter_cons]
    split
    · rfl
    · rfl

end Sys2Proof.Machine


namespace Sys2Proof.Machine

/-- Two states that agree in every part are one. -/
theorem State.eq_of_parts {s t : State} (timebase : t.timebase = s.timebase) (sampleDue : t.sampleDue = s.sampleDue)
    (chan : ∀ c, t.chan c = s.chan c) (pool : t.pool = s.pool) (loop : ∀ l, t.loop l = s.loop l)
    (port : ∀ p, t.port p = s.port p) (stepIndex : t.stepIndex = s.stepIndex)
    (nextBoundary : t.nextBoundary = s.nextBoundary) (live : t.live = s.live) (store : t.store = s.store)
    (restart : t.restart = s.restart) (freeCount : t.freeCount = s.freeCount) (pending : t.pending = s.pending) : t = s := by
  have hchans := PerChan.ext_get chan
  have hloops := PerLoop.ext_get loop
  have hports := PerPort.ext_get port
  cases s
  cases t
  simp_all only

/-- The port is sending a MEDIA_OUT of the channel that the channel's framer knows of (R86). -/
def State.cuts (s : State) (p : Port) (c : Chan) : Bool :=
  match (s.port p).transfer with
  | some ⟨.media m true, _, _⟩ => m.chan == c
  | _ => false

theorem State.cutTransfer_chan (s : State) (p : Port) (c : Chan) :
    (s.cutTransfer p).chan c = if s.cuts p c then (s.chan c).mediaCut else s.chan c := by
  unfold State.cutTransfer State.cuts
  rcases (s.port p).transfer with - | ⟨- | ⟨m, - | -⟩, bytes, position⟩
  case some.media.true =>
    rw [State.chan_modChan]
    by_cases hc : c = m.chan
    · simp [hc]
    · simp [hc, Ne.symm hc]
  all_goals rfl

/-- The state in which the channels of a port that goes DOWN begin to park (R174, steps 1 to 4). -/
def State.cleared (s : State) (p : Port) : State :=
  let t := (s.cutTransfer p).modPort p PortState.goDown
  { t with restart := t.restart.lostWith p }

theorem State.portDown_eq (s : State) (p : Port) :
    s.portDown p
      = ((Chan.all.foldl (State.parkIfHeld p) (s.cleared p)).modLoop .a (·.ownerDown p)).modLoop .b (·.ownerDown p) := rfl

theorem State.cleared_chan (s : State) (p : Port) (c : Chan) :
    (s.cleared p).chan c = if s.cuts p c then (s.chan c).mediaCut else s.chan c := s.cutTransfer_chan p c

theorem State.cleared_port (s : State) (p q : Port) :
    (s.cleared p).port q = if q = p then (s.port p).goDown else s.port q := by
  have hports (r : Port) : (s.cutTransfer p).port r = s.port r := by
    rw [State.port, (State.cutTransfer_untouched s p).2.2.2.2.1]
    rfl
  unfold State.cleared
  dsimp only
  calc
    _ = ((s.cutTransfer p).modPort p PortState.goDown).port q := rfl
    _ = if q = p then (s.port q).goDown else s.port q := by rw [State.port_modPort, hports]
    _ = if q = p then (s.port p).goDown else s.port q := by
      split
      · next h => rw [h]
      · rfl

theorem State.cleared_alike (s : State) (p : Port) :
    (s.cleared p).timebase = s.timebase ∧ (s.cleared p).live = s.live ∧ (s.cleared p).loops = s.loops := by
  simp [State.cleared]

theorem State.cleared_parks (s : State) (p : Port) (c : Chan) : (s.cleared p).parks p c = s.parks p c := by
  unfold State.parks
  rw [State.cleared_chan]
  split <;> rfl

theorem State.cleared_parkingOffer (s : State) (p : Port) (c : Chan) :
    (s.cleared p).parkingOffer p c = s.parkingOffer p c := by
  unfold State.parkingOffer
  rw [State.cleared_chan, (s.cleared_alike p).1]
  split <;> rfl

theorem State.cleared_wantsOffer (s : State) (p q : Port) (c : Chan) :
    (s.cleared p).wantsOffer p q c = s.wantsOffer p q c := by
  have hup (r : Port) : (((s.cleared p).port r).up && r != p) = ((s.port r).up && r != p) := by
    rw [State.cleared_port]
    by_cases hr : r = p
    · simp [hr]
    · simp [hr]
  have hchan : ((s.cleared p).chan c).parkFallback = (s.chan c).parkFallback
      ∧ ((s.cleared p).chan c).fallback = (s.chan c).fallback ∧ ((s.cleared p).chan c).loop = (s.chan c).loop := by
    rw [State.cleared_chan]
    split <;> exact ⟨rfl, rfl, rfl⟩
  obtain ⟨hpark, hfallback, hloop⟩ := hchan
  have hset : (s.cleared p).loopSet (s.chan c).loop = s.loopSet (s.chan c).loop := by
    rw [State.loopSet, (s.cleared_alike p).2.1]
    rfl
  unfold State.wantsOffer
  simp only [hpark, hfallback, hloop, hset, hup, Bool.and_assoc]

/-- A port that goes DOWN is not offered the channels that park. -/
theorem State.wantsOffer_self (s : State) (p : Port) (c : Chan) : s.wantsOffer p p c = false := by
  unfold State.wantsOffer
  split
  · next f _ =>
    by_cases hf : f = p
    · simp [hf]
    · simp [Ne.symm hf]
  · simp

theorem State.parkIfHeld_untouched (s : State) (p : Port) (c : Chan) :
    (s.parkIfHeld p c).timebase = s.timebase ∧ (s.parkIfHeld p c).sampleDue = s.sampleDue
      ∧ (s.parkIfHeld p c).pool = s.pool ∧ (s.parkIfHeld p c).loops = s.loops
      ∧ (s.parkIfHeld p c).stepIndex = s.stepIndex ∧ (s.parkIfHeld p c).nextBoundary = s.nextBoundary
      ∧ (s.parkIfHeld p c).live = s.live ∧ (s.parkIfHeld p c).store = s.store
      ∧ (s.parkIfHeld p c).restart = s.restart ∧ (s.parkIfHeld p c).freeCount = s.freeCount
      ∧ (s.parkIfHeld p c).pending = s.pending := by
  unfold State.parkIfHeld
  split <;> simp

theorem parkEach_untouched (cs : List Chan) (s : State) (p : Port) :
    let t := cs.foldl (State.parkIfHeld p) s
    t.timebase = s.timebase ∧ t.sampleDue = s.sampleDue ∧ t.pool = s.pool ∧ t.loops = s.loops
      ∧ t.stepIndex = s.stepIndex ∧ t.nextBoundary = s.nextBoundary ∧ t.live = s.live ∧ t.store = s.store
      ∧ t.restart = s.restart ∧ t.freeCount = s.freeCount ∧ t.pending = s.pending := by
  induction cs generalizing s with
  | nil => simp
  | cons c rest ih => simpa [State.parkIfHeld_untouched] using ih (s.parkIfHeld p c)

theorem LoopState.ownerDown_eq (p : Port) (x : LoopState) :
    x.ownerDown p = { x with ring := x.ring.map fun r => { r with ownerLost := r.ownerLost || r.owner == p } } := by
  have hrest (y : LoopState) (hy : x.ownerDown p = y) : y = { x with ring := y.ring } := by
    unfold LoopState.ownerDown at hy
    split at hy
    · split at hy <;> (subst hy; rfl)
    · subst hy
      rfl
  have hring : (x.ownerDown p).ring = x.ring.map fun r => { r with ownerLost := r.ownerLost || r.owner == p } := by
    unfold LoopState.ownerDown
    cases h : x.ring with
    | none => exact h
    | some r =>
      dsimp only [Option.map_some]
      by_cases ho : r.owner = p
      · simp [ho]
      · have hne : (r.owner == p) = false := by simp [ho]
        simp [ho, hne, h]
  rw [hrest _ rfl, hring]

theorem State.portDown_chan (s : State) (p : Port) (c : Chan) :
    (s.portDown p).chan c
      = let x := if s.cuts p c then (s.chan c).mediaCut else s.chan c
        if s.parks p c then
          { x with
            state := .parked
            holder := none
            oldHolder := p
            parkCause := .portDown
            parkDeadline := s.timebase + msSpan (s.chan c).settings.parkTime
            stats := { x.stats with parks := bump x.stats.parks } }
        else x := by
  have hnodup : Chan.all.Nodup := by decide
  rw [State.portDown_eq, State.chan_modLoop, State.chan_modLoop, State.parkEach_chan hnodup, State.cleared_parks,
    (s.cleared_alike p).1, State.cleared_chan]
  simp only [mem_chanAll, true_and]
  cases s.cuts p c <;> rfl

theorem State.portDown_loop (s : State) (p : Port) (l : Loop) :
    (s.portDown p).loop l
      = { s.loop l with ring := (s.loop l).ring.map fun r => { r with ownerLost := r.ownerLost || r.owner == p } } := by
  have hloops : (Chan.all.foldl (State.parkIfHeld p) (s.cleared p)).loop l = s.loop l := by
    rw [State.loop, (parkEach_untouched Chan.all (s.cleared p) p).2.2.2.1, (s.cleared_alike p).2.2]
    rfl
  rw [State.portDown_eq, ← LoopState.ownerDown_eq, ← hloops]
  cases l with
  | a => rw [State.loop_modLoop_ne _ (by decide), State.loop_modLoop_same]
  | b => rw [State.loop_modLoop_same, State.loop_modLoop_ne _ (by decide)]

theorem State.portDown_port (s : State) (p q : Port) :
    (s.portDown p).port q
      = if q = p then (s.port p).goDown
        else
          (Chan.all.filter fun c => s.parks p c && s.wantsOffer p q c).foldl
            (fun x c => x.offer s.timebase q (s.live.port.get q).noticeMask (s.parkingOffer p c)) (s.port q) := by
  have hnodup : Chan.all.Nodup := by decide
  rw [State.portDown_eq, State.port_modLoop, State.port_modLoop, State.parkEach_port hnodup, (s.cleared_alike p).1,
    (s.cleared_alike p).2.1, State.cleared_port]
  simp only [State.cleared_parks, State.cleared_wantsOffer, State.cleared_parkingOffer]
  split
  · next hq =>
    subst hq
    have hnone : (Chan.all.filter fun c => s.parks q c && s.wantsOffer q q c) = [] := by
      refine List.filter_eq_nil_iff.mpr fun c _ => ?_
      simp only [s.wantsOffer_self, Bool.and_false, Bool.false_eq_true, not_false_eq_true]
    rw [hnone]
    rfl
  · rfl

theorem State.portDown_untouched (s : State) (p : Port) :
    (s.portDown p).timebase = s.timebase ∧ (s.portDown p).sampleDue = s.sampleDue ∧ (s.portDown p).pool = s.pool
      ∧ (s.portDown p).stepIndex = s.stepIndex ∧ (s.portDown p).nextBoundary = s.nextBoundary
      ∧ (s.portDown p).live = s.live ∧ (s.portDown p).store = s.store
      ∧ (s.portDown p).restart = s.restart.lostWith p ∧ (s.portDown p).freeCount = s.freeCount
      ∧ (s.portDown p).pending = s.pending := by
  simp [State.portDown_eq, State.parkIfHeld_untouched, State.cleared]

/-- Settles O21: the parts of the state are read one by one, the channels and ports after the parks in order. -/
theorem silenceExpiryParks : Obligations.SilenceExpiryParks := by
  intro s p
  refine ⟨fun h => ?early, fun up expired => ?down⟩
  case early =>
    have hcond : ¬((s.port p).up && reached s.timebase (s.port p).silenceEnd) = true := by
      obtain h | h := h <;> simp [h]
    exact if_neg hcond
  case down =>
    have hexec : exec (.silenceTimerExpiry p) s = .next (s.portDown p) := by
      rw [exec, execSilenceTimerExpiry, if_pos (by simp [up, expired])]
    obtain ⟨time, sampleDue, pool, stepIndex, boundary, live, store, restart, free, pending⟩ := s.portDown_untouched p
    rw [hexec]
    refine congrArg _ (State.eq_of_parts time sampleDue (fun c => ?chan) pool (fun l => ?loop) (fun q => ?port) stepIndex
      boundary live store restart free pending)
    case chan =>
      rw [State.portDown_chan]
      cases c <;> rfl
    case loop =>
      rw [State.portDown_loop]
      cases l <;> rfl
    case port =>
      rw [State.portDown_port]
      cases q <;> rfl

end Sys2Proof.Machine


namespace Sys2Proof.Machine

/-! ### What a pool that keeps its accounts grants (R4, R28 to R30) -/

/-- A pool that keeps its accounts is given by what the channels hold. -/
theorem Pool.Fits.eq_of_held {res : PerChan Nat} {a b : Pool} (ha : a.Fits res) (hb : b.Fits res) (held : a.held = b.held) :
    a = b := by
  have hfree : a.free = b.free := PerChan.ext_get fun c => by rw [ha.free, hb.free, held]
  have hshared : a.shared = b.shared := by
    have h := ha.shared
    have h' := hb.shared
    rw [held] at h
    omega
  cases a
  cases b
  simp_all

/-- A run of grants that stops short has used the shared part up. -/
theorem Pool.Fits.grantRun_short {res : PerChan Nat} {c : Chan} {n : Nat} {b : Pool} (h : b.Fits res)
    (short : (b.grantRun res c n).1 < n) : (b.grantRun res c n).2.grant res c = none := by
  induction n generalizing b with
  | zero => cases short
  | succ n ih =>
    unfold Pool.grantRun at short ⊢
    split
    · assumption
    · next b' hb' =>
      rw [hb'] at short
      exact ih (h.grant hb').1 (Nat.lt_of_succ_lt_succ short)

theorem Pool.grant_eq_none {res : PerChan Nat} {c : Chan} {b : Pool} (h : b.grant res c = none) :
    res.get c ≤ b.held.get c ∧ b.shared = 0 := by
  unfold Pool.grant at h
  split at h
  · cases h
  · split at h
    · cases h
    · omega

theorem Pool.grantRun_le (res : PerChan Nat) (c : Chan) (n : Nat) (b : Pool) : (b.grantRun res c n).1 ≤ n := by
  induction n generalizing b with
  | zero => exact Nat.le_refl 0
  | succ n ih =>
    unfold Pool.grantRun
    split
    · exact Nat.zero_le _
    · exact Nat.succ_le_succ (ih _)

section
variable {res : PerChan Nat} {c : Chan} {n : Nat} {b : Pool} (h : b.Fits res) (empty : b.held.get c = 0)
include h empty

/-- The whole history ring of a channel that holds nothing is granted when its reserve and the shared part suffice. -/
theorem Pool.Fits.grantRing_granted (enough : n ≤ res.get c + b.shared) :
    (b.grantRing res c n).1
      = some { held := b.held.put c n, free := b.free.put c (res.get c - n), shared := b.shared - (n - res.get c) } := by
  obtain ⟨hfits, hheld⟩ := h.grantRun (c := c) (n := n)
  have hexcess := PerChan.excess_put b.held res c (b.grantRun res c n).1
  have hshared := h.shared
  rw [empty, Nat.zero_add] at hheld
  have hafter := hfits.shared
  rw [hheld] at hafter
  have hcount : (b.grantRun res c n).1 = n := by
    by_contra hne
    have hle := Nat.lt_of_le_of_ne (Pool.grantRun_le res c n b) hne
    obtain ⟨hfull, hempty⟩ := Pool.grant_eq_none (h.grantRun_short hle)
    rw [hheld, PerChan.get_put_same] at hfull
    omega
  rw [hcount] at hexcess hafter hheld
  have heq : (b.grantRun res c n).2
      = { held := b.held.put c n, free := b.free.put c (res.get c - n), shared := b.shared - (n - res.get c) } := by
    refine hfits.eq_of_held ⟨fun d => ?_, by dsimp only; omega⟩ hheld
    by_cases hd : d = c
    · subst hd
      simp
    · simp [PerChan.get_put_ne _ hd, h.free]
  simp only [Pool.grantRing, hcount, if_true, heq]

/-- It is refused, and the pool is as it was, when they do not. -/
theorem Pool.Fits.grantRing_short (short : res.get c + b.shared < n) : b.grantRing res c n = (none, b) := by
  have hnone : (b.grantRing res c n).1 = none := by
    by_contra hsome
    obtain ⟨b', hb'⟩ := Option.ne_none_iff_exists'.mp hsome
    obtain ⟨hfits, hheld⟩ := h.grantRing hb'
    have hexcess := PerChan.excess_put b.held res c (b.held.get c + n)
    have hshared := h.shared
    have hafter := hfits.shared
    rw [hheld] at hafter
    omega
  obtain ⟨hfits, hheld⟩ := h.grantRing_refused hnone
  exact Prod.ext hnone (hfits.eq_of_held h hheld)

end

theorem PoolAccounts.held_idle {s : State} (h : PoolAccounts s) {c : Chan} (idle : (s.chan c).state = .idle) :
    s.pool.held.get c = 0 := by
  obtain ⟨hqueue, hring⟩ := h.idle c idle
  simp [h.held c, hqueue, hring]

/-! ### OPEN (R4, R5) -/

/-- A change that leaves the loop's value alone leaves the state alone. -/
theorem State.modLoop_id {s : State} {l : Loop} {f : LoopState → LoopState} (h : f (s.loop l) = s.loop l) :
    s.modLoop l f = s := by
  rw [State.modLoop_congr (g := id) h]
  simp [State.modLoop]

theorem State.endTone_none {s : State} {l : Loop} (h : (s.loop l).player = none) (cause : ToneCause) (moment : Word) :
    s.endTone l cause moment = s := by
  simp only [State.endTone, h]

/-- An automatic dial tone ends without a notice (R156). -/
theorem State.endTone_auto {s : State} {l : Loop} {t : Tone} (player : (s.loop l).player = some t)
    (kind : t.kind = .auto) (cause : ToneCause) (moment : Word) :
    s.endTone l cause moment = s.modLoop l fun x => { x with player := none, autoTone := false } := by
  simp only [State.endTone, player, State.toneEnded, kind, State.modLoop_modLoop]

/-- What an OPEN does to the dial buffer and the dial tone of a loop it leads (R5). -/
theorem State.takeDial_eq {s : State} {l : Loop}
    (auto : (s.loop l).autoTone = true → ∃ t, (s.loop l).player = some t ∧ t.kind = .auto) (lead take : Bool) :
    s.takeDial l lead take = s.modLoop l fun x =>
      if lead then
        let y : LoopState := { x with dial := [], dialOverflow := false }
        if take && x.autoTone then { y with player := none, autoTone := false } else y
      else x := by
  unfold State.takeDial
  cases lead with
  | false => exact (State.modLoop_id rfl).symm
  | true =>
    simp only [if_true, State.loop_modLoop_same, LoopState.emptyDial]
    by_cases htake : (take && (s.loop l).autoTone) = true
    · obtain ⟨-, hauto⟩ := Bool.and_eq_true_iff.mp htake
      obtain ⟨t, hplayer, hkind⟩ := auto hauto
      rw [if_pos htake, State.endTone_auto (t := t) (by rw [State.loop_modLoop_same]; exact hplayer) hkind,
        State.modLoop_modLoop]
      refine State.modLoop_congr ?_
      rw [if_pos htake]
      rfl
    · rw [if_neg htake]
      refine State.modLoop_congr ?_
      rw [if_neg htake]
      rfl

/-- An accepted OPEN, part by part. -/
theorem State.openChannel_eq {s : State} {o : OpenParams} (auto : (s.loop o.loop).autoTone = true →
      ∃ t, (s.loop o.loop).player = some t ∧ t.kind = .auto) (p : Port) (tag : Byte) (c : Chan) (pool : Pool) :
    let lead := (s.attached o.loop).isEmpty
    let digits := if lead && o.takeDial then (s.loop o.loop).dial else []
    let lost := if lead && o.takeDial then (s.loop o.loop).dialOverflow else false
    s.openChannel p tag o c pool
      = ((({ s with pool := pool } : State).modChan c
            (Channel.opened p o s.live.template (s.nextBlockTime o.loop) lead)).modLoop o.loop fun x =>
          if lead then
            let y : LoopState := { x with dial := [], dialOverflow := false }
            if o.takeDial && x.autoTone then { y with player := none, autoTone := false } else y
          else x).acceptClamped p tag (o.drift != o.driftHint)
            ([Chan.byte c, flagByte lead, flagByte lost, byteOf digits.length] ++ digits) := by
  unfold State.openChannel
  dsimp only
  rw [State.takeDial_eq (by exact auto)]
  unfold dialTaken
  cases (s.attached o.loop).isEmpty && o.takeDial <;> rfl

section
variable {s : State} {p : Port} {params : List Byte} (tag : Byte)

theorem openBody_badParams (h : OpenParams.ofBytes params = none) : openBody p tag params s = s.refuse p tag .badParam := by
  simp only [openBody, h]

variable {o : OpenParams} (h : OpenParams.ofBytes params = some o)
include h

theorem openBody_noIdle (none : s.lowestIdle = none) : openBody p tag params s = s.refuse p tag .noChannel := by
  simp only [openBody, h, none]

variable {c : Chan} (lowest : s.lowestIdle = some c)
include lowest

theorem openBody_busy (two : 2 ≤ (s.attached o.loop).length) : openBody p tag params s = s.refuse p tag .loopBusy := by
  simp only [openBody, h, lowest, two, if_true]

variable (room : (s.attached o.loop).length < 2)
include room

theorem openBody_short (grant : Pool.grantRing s.reserves c s.live.template.history s.pool = (none, s.pool)) :
    openBody p tag params s = s.refuse p tag .noPool := by
  simp only [openBody, h, lowest, Nat.not_le.mpr room, if_false, grant]

theorem openBody_opens {b : Pool} (grant : (Pool.grantRing s.reserves c s.live.template.history s.pool).1 = some b) :
    openBody p tag params s = s.openChannel p tag o c b := by
  have hpair : Pool.grantRing s.reserves c s.live.template.history s.pool
      = (some b, (Pool.grantRing s.reserves c s.live.template.history s.pool).2) := Prod.ext grant rfl
  simp only [openBody, h, lowest, Nat.not_le.mpr room, if_false]
  rw [hpair]

end

theorem State.lowestIdle_idle {s : State} {c : Chan} (h : s.lowestIdle = some c) : (s.chan c).state = .idle := by
  simpa using List.find?_some h

theorem State.lowestIdle_none {s : State} (h : ∀ c, (s.chan c).state ≠ .idle) : s.lowestIdle = none :=
  List.find?_eq_none.mpr fun c _ => by simpa using h c

/-! ### The parameters of an OPEN (R4, R5, R199) -/

theorem byteOf_toNat {n : Nat} (h : n < 256) : (byteOf n).toNat = n := by
  rw [byteOf, BitVec.toNat_ofNat, Nat.mod_eq_of_lt h]

/-- What the parameter bytes written from their values are read as. -/
theorem OpenParams.ofBytes_written (l : Loop) (m : Mode) {k : Nat} (h1 : 1 ≤ k) (h4 : k ≤ 4) (f : Option Port) (seq : Half)
    (stamp : Word) (drift : Half) (take : Bool) :
    OpenParams.ofBytes
        ([Loop.byte l, m.byte, byteOf k, portOrNoneByte f] ++ bytes16 seq ++ bytes32 stamp ++ bytes16 drift
          ++ [flagByte take])
      = some ⟨l, m, k, f, seq, stamp, drift.toInt, take⟩ := by
  have hk := byteOf_toNat (n := k) (by omega)
  simp only [bytes16, bytes32, List.cons_append, List.nil_append, OpenParams.ofBytes, Loop.ofByte_byte, Mode.ofByte_byte,
    portOrNone_byte, flagOf_flagByte, hk, h1, h4, and_self, if_true, half_bytes16, word_bytes32]

theorem portOrNone_none {b : Byte} (h : 3 ≤ b.toNat ∧ b ≠ 0xFF) : portOrNone b = none := by
  rw [portOrNone, if_neg h.2, Port.ofByte_none h.1]
  rfl

theorem byte_lt_two {b : Byte} (h : b.toNat < 2) : b = 0 ∨ b = 1 := by
  obtain h | h : b.toNat = 0 ∨ b.toNat = 1 := by omega
  · exact .inl (BitVec.eq_of_toNat_eq h)
  · exact .inr (BitVec.eq_of_toNat_eq h)

theorem Loop.ofByte_some {b : Byte} (h : b.toNat < 2) : ∃ l, Loop.ofByte b = some l := by
  obtain rfl | rfl := byte_lt_two h
  · exact ⟨.a, rfl⟩
  · exact ⟨.b, rfl⟩

theorem Mode.ofByte_some {b : Byte} (h : b.toNat < 2) : ∃ m, Mode.ofByte b = some m := by
  obtain rfl | rfl := byte_lt_two h
  · exact ⟨_, rfl⟩
  · exact ⟨_, rfl⟩

theorem flagOf_some {b : Byte} (h : b.toNat < 2) : ∃ f, flagOf b = some f := by
  obtain rfl | rfl := byte_lt_two h
  · exact ⟨false, rfl⟩
  · exact ⟨true, rfl⟩

theorem Port.ofByte_some {b : Byte} (h : b.toNat < 3) : ∃ p, Port.ofByte b = some p := by
  by_cases h2 : b.toNat < 2
  · obtain rfl | rfl := byte_lt_two h2
    · exact ⟨.p0, rfl⟩
    · exact ⟨.p1, rfl⟩
  · have hb : b = 2 := BitVec.eq_of_toNat_eq (y := 2) (by change b.toNat = 2; omega)
    exact ⟨.p2, hb ▸ rfl⟩

theorem portOrNone_some {b : Byte} (h : b.toNat < 3 ∨ b = 0xFF) : ∃ f, portOrNone b = some f := by
  unfold portOrNone
  split
  · exact ⟨_, rfl⟩
  · next hff =>
    obtain ⟨p, hp⟩ := Port.ofByte_some (h.resolve_right hff)
    exact ⟨some p, by rw [hp]; rfl⟩

section
variable (l m k f s1 s0 b3 b2 b1 b0 d1 d0 t : Byte)

/-- A parameter of an OPEN lies outside its range (R4, step 1). -/
def openRefuses : Prop :=
  2 ≤ l.toNat ∨ 2 ≤ m.toNat ∨ k.toNat = 0 ∨ 5 ≤ k.toNat ∨ (3 ≤ f.toNat ∧ f ≠ 0xFF) ∨ 2 ≤ t.toNat

variable {l m k f t}

theorem OpenParams.ofBytes_refused (h : openRefuses l m k f t) :
    OpenParams.ofBytes [l, m, k, f, s1, s0, b3, b2, b1, b0, d1, d0, t] = none := by
  unfold OpenParams.ofBytes
  obtain hl | hm | hk | hk | hf | ht := h
  · simp only [Loop.ofByte_none hl]
  · simp only [Mode.ofByte_none hm]
    cases Loop.ofByte l <;> rfl
  · simp only [hk]
    split <;> rfl
  · have hnot : ¬(1 ≤ k.toNat ∧ k.toNat ≤ 4) := by omega
    simp only [hnot, if_false]
    split <;> rfl
  · simp only [portOrNone_none hf]
    cases Loop.ofByte l <;> cases Mode.ofByte m <;> rfl
  · simp only [flagOf_none ht]
    cases Loop.ofByte l <;> cases Mode.ofByte m <;> cases portOrNone f <;> rfl

theorem OpenParams.ofBytes_read (h : ¬openRefuses l m k f t) :
    ∃ o, OpenParams.ofBytes [l, m, k, f, s1, s0, b3, b2, b1, b0, d1, d0, t] = some o ∧ Loop.ofByte l = some o.loop := by
  unfold openRefuses at h
  push Not at h
  obtain ⟨hl, hm, hk0, hk5, hf, ht⟩ := h
  obtain ⟨loop, hloop⟩ := Loop.ofByte_some hl
  obtain ⟨mode, hmode⟩ := Mode.ofByte_some hm
  obtain ⟨fallback, hfallback⟩ := portOrNone_some (b := f) (by by_cases h3 : f.toNat < 3; exacts [.inl h3, .inr (hf (by omega))])
  obtain ⟨take, htake⟩ := flagOf_some ht
  have hk : 1 ≤ k.toNat ∧ k.toNat ≤ 4 := by omega
  refine ⟨⟨loop, mode, k.toNat, fallback, half s1 s0, word b3 b2 b1 b0, (half d1 d0).toInt, take⟩, ?_, hloop⟩
  simp only [OpenParams.ofBytes, hloop, hmode, hfallback, htake, hk, and_self, if_true]

end

/-- Settles O22: the ring is granted by the pool's accounts, and the rest is what an accepted OPEN sets. -/
theorem openAnswered : Obligations.OpenAnswered := by
  constructor
  case left =>
    intro s p tag l m k f seq stamp drift take c ready accounts feed h1 h4 lowest two ring own enough lead digits lost hint
      first
    have hparams := OpenParams.ofBytes_written l m h1 h4 f seq stamp drift take
    have hgrant := ((poolAccounts_iff s).mp accounts).2.1.grantRing_granted
      (accounts.held_idle (State.lowestIdle_idle lowest)) enough
    rw [exec_openReq_ready ready, openBody_opens tag hparams (s := s.counted p) lowest two hgrant,
      State.openChannel_eq (s := s.counted p) (o := ⟨l, m, k, f, seq, stamp, drift.toInt, take⟩) feed.auto.mp,
      State.replied_eq]
    rfl
  case right =>
    intro s p tag l m k f s1 s0 b3 b2 b1 b0 d1 d0 t ready accounts
    dsimp only
    refine ⟨fun bad => ?_, fun good none => ?_, fun loop c good hl lowest => ?_⟩
    · rw [exec_openReq_ready ready, openBody_badParams tag (OpenParams.ofBytes_refused _ _ _ _ _ _ _ _ bad),
        State.refuse_counted]
    · obtain ⟨o, ho, -⟩ := OpenParams.ofBytes_read s1 s0 b3 b2 b1 b0 d1 d0 good
      rw [exec_openReq_ready ready, openBody_noIdle tag ho (s := s.counted p) (State.lowestIdle_none none),
        State.refuse_counted]
    · obtain ⟨o, ho, hloop⟩ := OpenParams.ofBytes_read s1 s0 b3 b2 b1 b0 d1 d0 good
      obtain rfl : o.loop = loop := by simpa [hl] using hloop.symm
      refine ⟨fun two => ?_, fun room short => ?_⟩
      · rw [exec_openReq_ready ready, openBody_busy tag ho (s := s.counted p) lowest two, State.refuse_counted]
      · have hgrant := ((poolAccounts_iff s).mp accounts).2.1.grantRing_short
          (accounts.held_idle (State.lowestIdle_idle lowest)) short
        rw [exec_openReq_ready ready, openBody_short tag ho (s := s.counted p) lowest room hgrant, State.refuse_counted]

end Sys2Proof.Machine


namespace Sys2Proof.Machine

/-! ### The return to IDLE (R6, R16, R32) -/

/-- With two channels at most on a loop, the lead passes to the other one (R6). -/
theorem State.successor_iff {s : State} {c d : Chan} (live : (s.chan c).state ≠ .idle)
    (two : (s.attached (s.chan c).loop).length ≤ 2) :
    s.successor c = some d ↔ (d != c && (s.chan c).lead && (s.chan d).attachedTo (s.chan c).loop) = true := by
  have hc : c ∈ s.attached (s.chan c).loop := State.mem_attached.mpr ⟨live, rfl⟩
  have hone : (s.others c).length ≤ 1 := by
    have hlt : (s.others c).length < (s.attached (s.chan c).loop).length :=
      List.length_filter_lt_length_iff_exists.mpr ⟨c, hc, by simp⟩
    omega
  have hhead : (s.others c).head? = some d ↔ d ∈ s.others c := by
    match h : s.others c with
    | [] => simp
    | [e] => simp [eq_comm]
    | e :: f :: rest => simp [h] at hone
  have hmem : d ∈ s.others c ↔ (s.chan d).attachedTo (s.chan c).loop = true ∧ (d != c) = true := by
    rw [State.others, List.mem_filter, State.attached, List.mem_filter]
    simp only [mem_chanAll, true_and]
  unfold State.successor
  by_cases hlead : (s.chan c).lead = true
  · rw [if_pos hlead, hhead, hmem, hlead, Bool.and_true, Bool.and_eq_true, and_comm]
  · simp [hlead]

/-- The blocks of a channel go back to its reserve, and the rest to the shared part (R32). -/
theorem PoolAccounts.toIdle_pool {s : State} (h : PoolAccounts s) (c : Chan) :
    (s.toIdle c).pool
      = { held := s.pool.held.put c 0
          free := s.pool.free.put c (s.reserves.get c)
          shared := s.pool.shared + (s.pool.held.get c - s.reserves.get c) } := by
  obtain ⟨hheld, hfits, -⟩ := (poolAccounts_iff s).mp h
  have hblocks : s.pool.held.get c = (s.chan c).blocksHeld := hheld c
  obtain ⟨hfits', hput⟩ := hfits.giveBackN (c := c) (n := (s.chan c).blocksHeld) (by omega)
  have hexcess := PerChan.excess_put s.pool.held s.reserves c 0
  have hshared := hfits.shared
  rw [State.toIdle_pool]
  refine hfits'.eq_of_held ⟨fun d => ?_, by dsimp only; omega⟩ (by rw [hput, hblocks, Nat.sub_self])
  by_cases hd : d = c
  · subst hd
    simp
  · simp [PerChan.get_put_ne _ hd, hfits.free]

theorem PortState.staleMedia_eq (c : Chan) (x : PortState) :
    x.staleMedia c
      = match x.transfer with
        | some ⟨.media m current, bytes, n⟩ => { x with transfer := some ⟨.media m (current && m.chan != c), bytes, n⟩ }
        | _ => x := by
  unfold PortState.staleMedia
  rcases h : x.transfer with - | ⟨- | ⟨m, current⟩, bytes, n⟩
  case some.media =>
    dsimp only
    by_cases hm : m.chan = c
    · simp [hm]
    · have hne : (m.chan != c) = true := by simpa using hm
      rw [if_neg hm, hne, Bool.and_true, ← h]
  all_goals rfl

/-- Settles O25: the parts of the state after the return, read one by one. -/
theorem returnToIdle : Obligations.ReturnToIdle := by
  intro s c accounts live ch own passes led
  obtain ⟨time, sampleDue, stepIndex, boundary, profile, store, restart, free, pending⟩ := s.toIdle_untouched c
  refine State.eq_of_parts time sampleDue (fun d => ?chan) (accounts.toIdle_pool c) (fun l => ?loop) (fun p => ?port)
    stepIndex boundary profile store restart free pending
  case chan =>
    have hchan : (s.toIdle c).chan d
        = if d = c then (s.chan c).closed else { s.chan d with lead := (s.chan d).lead || passes d } := by
      rw [State.toIdle_chan]
      simp only [State.successor_iff live led.two]
      by_cases hd : d = c
      · simp [hd]
      · cases hpasses : passes d with
        | true =>
          rw [if_neg hd, if_neg hd, if_pos hpasses, Bool.or_true]
        | false =>
          rw [if_neg hd, if_neg hd, if_neg (by exact Bool.eq_false_iff.mp hpasses), Bool.or_false]
    rw [hchan]
    cases d <;> rfl
  case loop =>
    rw [State.toIdle_loop]
    cases l <;> rfl
  case port =>
    rw [State.toIdle_port, PortState.staleMedia_eq]
    cases p <;> rfl

end Sys2Proof.Machine


namespace Sys2Proof.Machine

/-! ### CLOSE (R16, R17) -/

/-- The taking of a request commutes with a channel's return to IDLE. -/
theorem State.counted_toIdle (s : State) (p : Port) (c : Chan) : (s.counted p).toIdle c = (s.toIdle c).counted p := by
  obtain ⟨time, sampleDue, stepIndex, boundary, profile, store, restart, free, pending⟩ := s.toIdle_untouched c
  obtain ⟨time', sampleDue', stepIndex', boundary', profile', store', restart', free', pending'⟩ :=
    (s.counted p).toIdle_untouched c
  refine State.eq_of_parts (time'.trans time.symm) (sampleDue'.trans sampleDue.symm) (fun d => ?chan) ?pool (fun l => ?loop)
    (fun q => ?port) (stepIndex'.trans stepIndex.symm) (boundary'.trans boundary.symm) (profile'.trans profile.symm)
    (store'.trans store.symm) (restart'.trans restart.symm) (free'.trans free.symm) (pending'.trans pending.symm)
  case chan =>
    rw [State.chan_counted, State.toIdle_chan, State.toIdle_chan]
    rfl
  case pool =>
    rw [State.toIdle_pool]
    exact (s.toIdle_pool c).symm
  case loop =>
    rw [State.loop_counted, State.toIdle_loop, State.toIdle_loop]
    rfl
  case port =>
    rw [State.toIdle_port, State.counted, State.counted, State.port_modPort, State.port_modPort, State.toIdle_port, time,
      profile]
    split
    · generalize s.port q = x
      obtain ⟨_, _, _, _, _, _, _, transfer, _⟩ := x
      unfold PortState.staleMedia
      rcases transfer with - | ⟨- | ⟨m, current⟩, bytes, n⟩
      case some.media =>
        dsimp only
        split <;> rfl
      all_goals rfl
    · rfl

section
variable {s : State} {p : Port} {tag : Byte} {c : Chan}

theorem closeBody_badFlag {d : Byte} (h : 2 ≤ d.toNat) (b : Byte) : closeBody p tag [b, d] s = s.refuse p tag .badParam := by
  simp only [closeBody, flagOf_none h]

variable (holder : (s.chan c).heldBy p = true)
include holder

theorem closeBody_noDrain : closeBody p tag [Chan.byte c, 0] s = (s.toIdle c).accept p tag [] := by
  have hflag : flagOf 0 = some false := rfl
  simp only [closeBody, hflag, State.holderOnly_holder holder, Bool.not_false, if_true]

theorem closeBody_draining (h : (s.chan c).state = .draining) :
    closeBody p tag [Chan.byte c, 1] s = s.refuse p tag .wrongState := by
  have hflag : flagOf 1 = some true := rfl
  simp only [closeBody, hflag, State.holderOnly_holder holder]
  simp [h]

theorem closeBody_run (h : (s.chan c).state = .run) :
    closeBody p tag [Chan.byte c, 1] s = s.closeWithDrain p tag c := by
  have hflag : flagOf 1 = some true := rfl
  simp only [closeBody, hflag, State.holderOnly_holder holder]
  simp [h]

end

/-- A PRIMING channel with entries that drains plays at once from its oldest entry (R17, R59). -/
theorem Channel.drained_priming {ch : Channel} {e : QEntry} {rest : List QEntry} (priming : ch.pe.playState = .priming)
    (queue : ch.pe.queue = e :: rest) (now : Word) :
    ch.drained now
      = { ch with
          state := .draining
          drainDeadline := now + msSpan ch.settings.drainLimit
          pe :=
            { ch.pe with
              playEpoch := e.epoch, nextPlay := e.seq, playState := .playing, afterOpen := false, freshRun := true }
          tru := if e.epoch = ch.pe.playEpoch then ch.tru else { ch.tru with window := none, fPrev := none } } := by
  unfold Channel.drained
  dsimp only
  split
  · next first _ _ hqueue =>
    obtain rfl : first = e := (List.cons.inj (hqueue.symm.trans queue)).1
    rfl
  · next hnot => exact absurd queue (hnot e rest priming)

theorem Channel.drained_playing {ch : Channel} (playing : ch.pe.playState = .playing) (now : Word) :
    ch.drained now = { ch with state := .draining, drainDeadline := now + msSpan ch.settings.drainLimit } := by
  unfold Channel.drained
  rw [playing]

theorem Channel.heldBy_run {ch : Channel} {p : Port} (holder : ch.heldBy p = true) : ch.holder = some p := by
  unfold Channel.heldBy Channel.holderOf at holder
  cases h : ch.state <;> simp_all

/-- A CLOSE with drain that has nothing to drain (R17): the channel is IDLE at once, DRAIN_DONE behind the reply. -/
theorem State.closeWithDrain_atOnce {s : State} {p : Port} {c : Chan} {reason : DrainReason}
    (holder : (s.chan c).heldBy p = true) (h : noDrain (s.chan c) (s.loop (s.chan c).loop).hook = some reason) (tag : Byte) :
    (s.counted p).closeWithDrain p tag c
      = ((s.replied p (acceptance tag [])).toIdle c).offer p
          ⟨.drainDone reason, some (s.chan c).loop, some c, s.timebase⟩ := by
  have hhold : ((s.replied p (acceptance tag [])).chan c).holder = some p := Channel.heldBy_run holder
  unfold State.closeWithDrain
  rw [State.chan_counted, State.loop_counted, h]
  dsimp only
  rw [State.accept_counted, State.endDrain, hhold]
  rfl

theorem State.closeWithDrain_drains {s : State} {p : Port} {c : Chan}
    (h : noDrain (s.chan c) (s.loop (s.chan c).loop).hook = none) (tag : Byte) :
    (s.counted p).closeWithDrain p tag c
      = (s.modChan c (Channel.drained s.timebase)).replied p (acceptance tag []) := by
  unfold State.closeWithDrain
  rw [State.chan_counted, State.loop_counted, h]
  dsimp only
  rw [← State.accept_counted]
  rfl

/-- Settles O26: the flag, and then each reason of R17's list in order. -/
theorem closeFreesOrDrains : Obligations.CloseFreesOrDrains := by
  intro s p tag c ready
  refine ⟨fun b d hd => ?badFlag, fun holder => ?_⟩
  case badFlag => rw [exec_closeReq_ready ready, closeBody_badFlag hd, State.refuse_counted]
  have hrun (h : (s.chan c).state = .run) :
      exec (.closeReq p tag [Chan.byte c, 1]) s = .next ((s.counted p).closeWithDrain p tag c) := by
    rw [exec_closeReq_ready ready, closeBody_run (s := s.counted p) holder h]
  dsimp only
  refine ⟨?free, fun draining => ?refused, fun run onhook => ?hangup, fun run offhook empty => ?empty,
    fun run offhook entries limit => ?limit, fun e rest run offhook queue limit => ?drains⟩
  case free =>
    rw [exec_closeReq_ready ready, closeBody_noDrain (s := s.counted p) holder, State.counted_toIdle, State.accept_counted]
  case refused =>
    rw [exec_closeReq_ready ready, closeBody_draining (s := s.counted p) holder draining, State.refuse_counted]
  case hangup => rw [hrun run, State.closeWithDrain_atOnce holder (if_pos onhook)]
  case empty =>
    rw [hrun run, State.closeWithDrain_atOnce holder]
    rw [noDrain, if_neg offhook, empty]
    rfl
  case limit =>
    rw [hrun run, State.closeWithDrain_atOnce holder]
    have hentries : (s.chan c).pe.queue.isEmpty = false := by simpa using entries
    simp only [noDrain, offhook, hentries, limit, if_false, if_true, Bool.false_eq_true]
  case drains =>
    rw [hrun run, State.closeWithDrain_drains]
    · refine congrArg (fun t : State => Host.Outcome.next (t.replied p (acceptance tag []))) (State.modChan_congr ?_)
      cases hplay : (s.chan c).pe.playState with
      | playing => exact Channel.drained_playing hplay _
      | priming => exact Channel.drained_priming hplay queue _
    · have hentries : (s.chan c).pe.queue.isEmpty = false := by rw [queue]; rfl
      simp only [noDrain, offhook, hentries, limit, if_false, Bool.false_eq_true]

/-! ### HANDOFF (R8 to R10) -/

section
variable {s : State} {p : Port} {tag : Byte} {c : Chan} (holder : (s.chan c).heldBy p = true)
include holder

theorem handoffBody_draining (h : (s.chan c).state = .draining) (b : Byte) :
    handoffBody p tag [Chan.byte c, b] s = s.refuse p tag .wrongState := by
  simp [handoffBody, State.holderOnly_holder holder, h]

theorem handoffBody_badTarget (run : (s.chan c).state = .run) {b : Byte} (h : 3 ≤ b.toNat ∨ b = Port.byte p) :
    handoffBody p tag [Chan.byte c, b] s = s.refuse p tag .badParam := by
  obtain h | rfl := h
  · simp [handoffBody, State.holderOnly_holder holder, run, Port.ofByte_none h]
  · simp [handoffBody, State.holderOnly_holder holder, run]

variable {target : Port} (other : target ≠ p)
include other

theorem handoffBody_down (down : (s.port target).up = false) :
    handoffBody p tag [Chan.byte c, Port.byte target] s = s.refuse p tag .wrongState := by
  simp [handoffBody, State.holderOnly_holder holder, other, down]

theorem handoffBody_up (run : (s.chan c).state = .run) (up : (s.port target).up = true) :
    handoffBody p tag [Chan.byte c, Port.byte target] s = s.handoff p tag c target := by
  simp [handoffBody, State.holderOnly_holder holder, run, other, up]

end

theorem msLeft_msSpan {n : Nat} (h : n ≤ 10000) (now : Word) : msLeft now (now + msSpan n) = n := by
  have hback : now + msSpan n - now = msSpan n := by
    rw [BitVec.add_comm, BitVec.add_sub_cancel]
  have hnat : (msSpan n).toNat = n * 8 := by
    rw [msSpan, BitVec.toNat_ofNat]
    exact Nat.mod_eq_of_lt (by omega)
  have hint : (msSpan n).toInt = (n * 8 : Nat) := by
    rw [BitVec.toInt_eq_toNat_of_lt (by omega), hnat]
  rw [msLeft, hback, hint, Int.toNat_natCast]
  omega

theorem State.replied_modChan (s : State) (p : Port) (r : Reply) (c : Chan) (f : Channel → Channel) :
    (s.replied p r).modChan c f = (s.modChan c f).replied p r := rfl

theorem State.offer_modChan (s : State) (p : Port) (n : Notice) (c : Chan) (f : Channel → Channel) :
    (s.offer p n).modChan c f = (s.modChan c f).offer p n := rfl

/-- The channel an accepted HANDOFF parks (R8, R9), before the park is counted. -/
def Channel.handedOff (now : Word) (p target : Port) (ch : Channel) : Channel :=
  { ch with
    state := .parked
    holder := none
    oldHolder := p
    parkCause := .handoff
    parkFallback := some target
    parkDeadline := now + msSpan ch.settings.parkTime }

theorem State.handoff_eq {s : State} {p : Port} {c : Chan} {target : Port} (other : target ≠ p)
    (up : (s.port target).up = true) (parkTime : (s.chan c).settings.parkTime ≤ 10000) (tag : Byte) :
    (s.counted p).handoff p tag c target
      = (((s.modChan c fun ch =>
            { ch.handedOff s.timebase p target with
              stats := { ch.stats with parks := bump ch.stats.parks } }).replied p (acceptance tag [])).offer target
          ⟨.takeoverOffer (s.chan c).lead (s.chan c).mode .handoff p (s.chan c).settings.parkTime,
            some (s.chan c).loop, some c, s.timebase⟩) := by
  let t : State := (s.modChan c (·.handedOff s.timebase p target)).replied p (acceptance tag [])
  have hbegun : (((s.counted p).modChan c fun ch => { ch with parkFallback := some target }).accept p tag []).modChan c
        (fun ch =>
          { ch with
            state := .parked
            holder := none
            oldHolder := p
            parkCause := .handoff
            parkDeadline := s.timebase + msSpan ch.settings.parkTime })
      = t := by
    rw [← State.counted_modChan, State.accept_counted, State.replied_modChan, State.modChan_modChan]
    rfl
  have hparked : (s.counted p).handoff p tag c target
      = (t.offerEach (t.offerRecipients c) (t.takeoverOffer c)).modChan c fun ch =>
          { ch with stats := { ch.stats with parks := bump ch.stats.parks } } := by
    rw [← hbegun]
    rfl
  have hchan : t.chan c = (s.chan c).handedOff s.timebase p target := State.chan_modChan_same s c _
  have hup : (t.port target).up = true := by
    have hport : t.port target = (s.modChan c (·.handedOff s.timebase p target)).port target :=
      State.port_modPort_ne _ other _
    rw [hport]
    exact up
  have hrecipients : t.offerRecipients c = [target] := by
    simp [State.offerRecipients, hchan, Channel.handedOff, hup, other]
  have hoffer : t.takeoverOffer c = ⟨.takeoverOffer (s.chan c).lead (s.chan c).mode .handoff p (s.chan c).settings.parkTime,
      some (s.chan c).loop, some c, s.timebase⟩ := by
    have htime : t.timebase = s.timebase := rfl
    simp only [State.takeoverOffer, hchan, Channel.handedOff, htime, msLeft_msSpan parkTime]
  rw [hparked, hrecipients, hoffer]
  change (((s.modChan c (·.handedOff s.timebase p target)).replied p (acceptance tag [])).offer target _).modChan c _ = _
  rw [State.offer_modChan, State.replied_modChan, State.modChan_modChan]
  rfl

/-- Settles O24: the refusals in order, and the park that the target alone is offered. -/
theorem handoffParksChannel : Obligations.HandoffParksChannel := by
  intro s p tag b c ready holder
  dsimp only
  refine ⟨fun draining => ?draining, fun run bad => ?bad, fun target hb other run => ⟨fun down => ?down, fun up range => ?up⟩⟩
  case draining => rw [exec_handoffReq_ready ready, handoffBody_draining (s := s.counted p) holder draining, State.refuse_counted]
  case bad => rw [exec_handoffReq_ready ready, handoffBody_badTarget (s := s.counted p) holder run bad, State.refuse_counted]
  case down =>
    rw [exec_handoffReq_ready ready, hb,
      handoffBody_down (s := s.counted p) holder other (by rw [State.up_counted]; exact down), State.refuse_counted]
  case up =>
    rw [exec_handoffReq_ready ready, hb,
      handoffBody_up (s := s.counted p) holder other run (by rw [State.up_counted]; exact up),
      State.handoff_eq other up range.parkTime.2]
    rfl

end Sys2Proof.Machine


namespace Sys2Proof.Machine

/-! ### A park that expires (R14, R15) -/

/-- The pending notices discarded and PARK_EXPIRED told, the channel is IDLE (R14). -/
def State.parkFreed (s : State) (c : Chan) : State :=
  ((s.offerEach (s.offerPorts (s.chan c).loop)
      ⟨.parkExpired (s.chan c).oldHolder, some (s.chan c).loop, some c, s.timebase⟩).modChan c
        Channel.discardNotices).toIdle c

theorem State.parkFreed_untouched (s : State) (c : Chan) :
    (s.parkFreed c).timebase = s.timebase ∧ (s.parkFreed c).live = s.live := by
  simp [State.parkFreed]

theorem State.parkFreed_loop (s : State) (c : Chan) :
    ((s.parkFreed c).loop (s.chan c).loop).hook = (s.loop (s.chan c).loop).hook
      ∧ ((s.parkFreed c).loop (s.chan c).loop).feed = (s.loop (s.chan c).loop).feed := by
  unfold State.parkFreed
  rw [State.toIdle_loop, State.loop_modChan, State.loop, (State.offerEach_untouched _ _ _).2.2.2.2.1]
  split <;> exact ⟨rfl, rfl⟩

/-- The channel led a loop that its loss concerns (R15). -/
def State.leadLost (s : State) (c : Chan) : Prop :=
  (s.chan c).lead = true ∧ (s.loop (s.chan c).loop).hook = .offhook ∧ (s.loop (s.chan c).loop).feed = .active

theorem State.leadLost_iff (s : State) (c : Chan) :
    s.leadLost c ↔ ((s.chan c).lead && ((s.parkFreed c).loop (s.chan c).loop).losesPark) = true := by
  obtain ⟨hhook, hfeed⟩ := s.parkFreed_loop c
  simp [State.leadLost, LoopState.losesPark, hhook, hfeed]

theorem State.expirePark_eq (s : State) (c : Chan) :
    s.expirePark c
      = if (s.chan c).lead && ((s.parkFreed c).loop (s.chan c).loop).losesPark then
          (s.parkFreed c).parkLost (s.chan c).loop
        else s.parkFreed c := rfl

theorem State.expirePark_keeps {s : State} {c : Chan} (h : ¬s.leadLost c) : s.expirePark c = s.parkFreed c := by
  rw [State.expirePark_eq, if_neg (fun hlost => h ((s.leadLost_iff c).mpr hlost))]

theorem State.expirePark_loses {s : State} {c : Chan} (h : s.leadLost c) :
    s.expirePark c = (s.parkFreed c).parkLost (s.chan c).loop := by
  rw [State.expirePark_eq, if_pos ((s.leadLost_iff c).mp h)]

/-- A denial of a loop that is not in a break (R110). -/
theorem LoopState.enterDenied_of_hook {x : LoopState} (h : x.hook ≠ .brk) (start : Word) (ms : Nat) :
    x.enterDenied start ms = { x with feed := .denied, denyEnd := start + msSpan ms, pulses := 0, dtmf := .quiet } := by
  have hhook : (if x.hook == .brk then .offhook else x.hook) = x.hook := if_neg (by simpa using h)
  rw [LoopState.enterDenied, hhook]

theorem State.deny_of_hook {s : State} {l : Loop} (h : (s.loop l).hook ≠ .brk) (ms : Nat) :
    s.deny l ms = s.modLoop l fun x =>
      { x with feed := .denied, denyEnd := s.timebase + msSpan ms, pulses := 0, dtmf := .quiet } :=
  State.modLoop_congr (LoopState.enterDenied_of_hook h _ _)

theorem State.parkLost_plays {s t : State} {l : Loop} {n : Fin 8} (live : t.live = s.live)
    (names : (s.loopSet l).parkLostProgram = some n) (segments : (s.live.programs.get n).segments ≠ []) :
    t.parkLost l = (t.startTone l .parkLost .p0 n).modLoop l fun x =>
      { x with lostDenial := if (s.loopSet l).denyOnLoss then some (s.loopSet l).denyTime else none } := by
  have hset : t.loopSet l = s.loopSet l := by rw [State.loopSet, live]; rfl
  have hempty : Program.isEmpty (s.live.programs.get n) = false := by simpa [Program.isEmpty] using segments
  have hprogram : t.parkLostProgram l = some n := by
    simp [State.parkLostProgram, hset, live, names, hempty]
  unfold State.parkLost
  rw [hprogram, hset]

theorem State.parkLost_denies {s t : State} {l : Loop} (live : t.live = s.live)
    (names : ∀ n, (s.loopSet l).parkLostProgram = some n → (s.live.programs.get n).segments = []) :
    t.parkLost l = if (s.loopSet l).denyOnLoss then t.deny l (s.loopSet l).denyTime else t := by
  have hset : t.loopSet l = s.loopSet l := by rw [State.loopSet, live]; rfl
  have hprogram : t.parkLostProgram l = none := by
    unfold State.parkLostProgram
    rw [hset, live, Option.filter_eq_none_iff]
    intro n hn
    simp [Program.isEmpty, names n hn]
  unfold State.parkLost
  rw [hprogram, hset]

/-! ### Deadlines (R14, R18) -/

theorem exec_parkExpiry_reached {s : State} {c : Chan} (parked : (s.chan c).state = .parked)
    (expired : reached s.timebase (s.chan c).parkDeadline = true) : exec (.parkExpiry c) s = .next (s.expirePark c) :=
  if_pos (by simp [parked, expired])

/-- Settles O27: each expiry before and at its deadline, and the handling of a lost lead. -/
theorem deadlinesEndChannels : Obligations.DeadlinesEndChannels := by
  refine ⟨fun s c => ⟨fun h => ?early, fun parked expired => ⟨fun kept => ?kept, fun lost n names segments => ?plays,
    fun lost names => ?denies⟩⟩, fun s c => ⟨fun h => ?notDue, fun p draining expired holder => ?drained⟩⟩
  case early =>
    refine if_neg ?_
    obtain h | h := h <;> simp [h]
  case kept => rw [exec_parkExpiry_reached parked expired, State.expirePark_keeps kept]; rfl
  case plays =>
    rw [exec_parkExpiry_reached parked expired, State.expirePark_loses lost,
      State.parkLost_plays (s.parkFreed_untouched c).2 names segments]
    rfl
  case denies =>
    rw [exec_parkExpiry_reached parked expired, State.expirePark_loses lost,
      State.parkLost_denies (s.parkFreed_untouched c).2 names]
    have hhook : ((s.parkFreed c).loop (s.chan c).loop).hook ≠ .brk := by
      rw [(s.parkFreed_loop c).1, lost.2.1]
      decide
    rw [State.deny_of_hook hhook, (s.parkFreed_untouched c).1]
    rfl
  case notDue =>
    refine if_neg ?_
    obtain h | h := h <;> simp [h]
  case drained =>
    have hexec : exec (.drainDeadline c) s = .next (s.endDrain c .limit) := if_pos (by simp [draining, expired])
    rw [hexec, State.endDrain, holder]
    rfl

end Sys2Proof.Machine


namespace Sys2Proof.Machine

/-! ### Requests of a channel's holder (R7, R19, R23, R102) -/

/-- A channel changed and the request accepted: the reply goes behind the change. -/
theorem State.modChan_accept_counted (s : State) (p : Port) (tag : Byte) (c : Chan) (f : Channel → Channel)
    (results : List Byte) :
    ((s.counted p).modChan c f).accept p tag results = (s.modChan c f).replied p (acceptance tag results) := by
  rw [← State.counted_modChan, State.accept_counted]

section
variable {s : State} {p : Port} {tag : Byte} {c : Chan} (holder : (s.chan c).heldBy p = true)
include holder

theorem connectBody_stores (v : VoiceFlag) :
    connectBody p tag [Chan.byte c, v.byte] s = (s.modChan c fun ch => { ch with voice := v }).accept p tag [] := by
  simp only [connectBody, State.holderOnly_holder holder, VoiceFlag.ofByte_byte]

theorem connectBody_badFlag {b : Byte} (h : 2 ≤ b.toNat) :
    connectBody p tag [Chan.byte c, b] s = s.refuse p tag .badParam := by
  simp only [connectBody, State.holderOnly_holder holder, VoiceFlag.ofByte_none h]

theorem setFallbackBody_stores (run : (s.chan c).state = .run) (f : Option Port) :
    setFallbackBody p tag [Chan.byte c, portOrNoneByte f] s
      = (s.modChan c fun ch => { ch with fallback := f }).accept p tag [] := by
  simp only [setFallbackBody, State.holderOnly_holder holder, run, portOrNone_byte, ne_eq, not_true_eq_false, if_false]

theorem setFallbackBody_badPort (run : (s.chan c).state = .run) {b : Byte} (h : 3 ≤ b.toNat ∧ b ≠ 0xFF) :
    setFallbackBody p tag [Chan.byte c, b] s = s.refuse p tag .badParam := by
  simp only [setFallbackBody, State.holderOnly_holder holder, run, portOrNone_none h, ne_eq, not_true_eq_false, if_false]

theorem setFallbackBody_draining (draining : (s.chan c).state = .draining) (b : Byte) :
    setFallbackBody p tag [Chan.byte c, b] s = s.refuse p tag .wrongState := by
  simp [setFallbackBody, State.holderOnly_holder holder, draining]

theorem modeBody_sets (m : Mode) :
    modeBody p tag [Chan.byte c, m.byte] s = (s.modChan c (Channel.setMode m)).accept p tag [m.byte] := by
  simp only [modeBody, State.holderOnly_holder holder, Mode.ofByte_byte]

theorem modeBody_badMode {b : Byte} (h : 2 ≤ b.toNat) :
    modeBody p tag [Chan.byte c, b] s = s.refuse p tag .badParam := by
  simp only [modeBody, State.holderOnly_holder holder, Mode.ofByte_none h]

theorem statsBody_clears :
    statsBody p tag [Chan.byte c, 1] s
      = (s.modChan c fun ch => { ch with stats := .zero }).accept p tag (s.statsResults c) := by
  have hflag : flagOf 1 = some true := rfl
  simp only [statsBody, Chan.ofByte_byte, hflag, holder, if_true]

end

theorem statsBody_reads (s : State) (p : Port) (tag : Byte) (c : Chan) :
    statsBody p tag [Chan.byte c, 0] s = s.accept p tag (s.statsResults c) := by
  have hflag : flagOf 0 = some false := rfl
  simp only [statsBody, Chan.ofByte_byte, hflag]

theorem statsBody_badParam {b d : Byte} (h : 4 ≤ b.toNat ∨ 2 ≤ d.toNat) (s : State) (p : Port) (tag : Byte) :
    statsBody p tag [b, d] s = s.refuse p tag .badParam := by
  obtain h | h := h
  · simp only [statsBody, Chan.ofByte_none h]
  · simp only [statsBody, flagOf_none h]
    cases Chan.ofByte b <;> rfl

/-- The results of STATS, counter by counter (R22, R23). -/
theorem State.statsResults_eq (s : State) (c : Chan) :
    s.statsResults c
      = let ch := s.chan c
        let k := ch.stats
        bytes32 k.late ++ bytes32 k.duplicate ++ bytes32 k.overrun ++ bytes32 k.poolFull ++ bytes32 k.resync
          ++ bytes32 k.epochDrop ++ bytes32 k.recovered ++ bytes32 k.concealed ++ bytes32 k.silentFill
          ++ bytes32 k.dataGap ++ bytes32 k.windowReject ++ bytes32 k.slipDrop ++ bytes32 k.slipRepeat
          ++ bytes32 k.corrInsert ++ bytes32 k.corrSkip ++ bytes32 k.dataRepeat ++ bytes32 k.dataSkip
          ++ bytes32 k.historyLost ++ bytes32 k.parks ++ bytes32 k.takeovers ++ bytes32 k.pendingDropped
          ++ statsFields ch (s.pool.held.get c) := by
  unfold State.statsResults Stats.list
  simp only [List.flatMap_cons, List.flatMap_nil, List.append_nil, List.append_assoc]

/-- A switch of the mode, either way (R101, R103). -/
theorem Channel.setMode_switches {ch : Channel} {m : Mode} (h : ch.mode ≠ m) :
    ch.setMode m
      = { ch with
          mode := m
          det := ⟨m == .voice, ⟨none, 0, false⟩, ⟨none, 0, false⟩⟩
          tru := { ch.tru with window := none, fPrev := none } } := by
  unfold Channel.setMode
  rw [if_neg h]
  cases m <;> rfl

/-- Settles O28: each request by the rule of its case. -/
theorem holderRequestsAnswered : Obligations.HolderRequestsAnswered := by
  refine ⟨fun s p tag c ready holder => ⟨fun v => ?voice, fun b hb => ?badVoice, fun run => ⟨fun f => ?fallback,
      fun b hb hff => ?badFallback⟩, fun draining b => ?draining⟩,
    fun s p tag c ready => ⟨?read, fun holder => ?clear, fun b d hbd => ?badStats⟩,
    fun s p tag c ready holder => ⟨fun m hm => ?same, fun m hm => ?switch, fun b hb => ?badMode⟩⟩
  case voice =>
    rw [exec_connectReq_ready ready, connectBody_stores (s := s.counted p) holder, State.modChan_accept_counted]
  case badVoice =>
    rw [exec_connectReq_ready ready, connectBody_badFlag (s := s.counted p) holder hb, State.refuse_counted]
  case fallback =>
    rw [exec_setFallbackReq_ready ready, setFallbackBody_stores (s := s.counted p) holder run,
      State.modChan_accept_counted]
  case badFallback =>
    rw [exec_setFallbackReq_ready ready, setFallbackBody_badPort (s := s.counted p) holder run ⟨hb, hff⟩,
      State.refuse_counted]
  case draining =>
    rw [exec_setFallbackReq_ready ready, setFallbackBody_draining (s := s.counted p) holder draining,
      State.refuse_counted]
  case read =>
    rw [exec_statsReq_ready ready, statsBody_reads, State.accept_counted, State.statsResults_eq]
    rfl
  case clear =>
    rw [exec_statsReq_ready ready, statsBody_clears (s := s.counted p) holder, State.modChan_accept_counted,
      State.statsResults_eq]
    rfl
  case badStats => rw [exec_statsReq_ready ready, statsBody_badParam hbd, State.refuse_counted]
  case same =>
    have hsame : (s.chan c).setMode m = s.chan c := if_pos hm
    rw [exec_modeReq_ready ready, modeBody_sets (s := s.counted p) holder, State.modChan_accept_counted,
      State.modChan_id hsame]
  case switch =>
    rw [exec_modeReq_ready ready, modeBody_sets (s := s.counted p) holder, State.modChan_accept_counted]
    exact congrArg (fun t : State => Host.Outcome.next (t.replied p (acceptance tag [m.byte])))
      (State.modChan_congr (Channel.setMode_switches hm))
  case badMode => rw [exec_modeReq_ready ready, modeBody_badMode (s := s.counted p) holder hb, State.refuse_counted]

end Sys2Proof.Machine


namespace Sys2Proof.Machine

/-! ### CHANNEL_SET (R20, R21, R71, R187) -/

section
variable {s : State} {p : Port} {tag : Byte} {c : Chan} (holder : (s.chan c).heldBy p = true)
include holder

theorem channelSetBody_draining (draining : (s.chan c).state = .draining) (key v3 v2 v1 v0 : Byte) :
    channelSetBody p tag [Chan.byte c, key, v3, v2, v1, v0] s = s.refuse p tag .wrongState := by
  simp [channelSetBody, State.holderOnly_holder holder, draining]

variable (run : (s.chan c).state = .run) {key v3 v2 v1 v0 : Byte}
include run

theorem channelSetBody_noKey (hkey : TemplateKey.ofByte key = none) :
    channelSetBody p tag [Chan.byte c, key, v3, v2, v1, v0] s = s.refuse p tag .badParam := by
  simp only [channelSetBody, State.holderOnly_holder holder, run, hkey, ne_eq, not_true_eq_false, if_false]

theorem channelSetBody_history :
    channelSetBody p tag [Chan.byte c, 0x68, v3, v2, v1, v0] s = s.refuse p tag .wrongState := by
  have hkey : TemplateKey.ofByte 0x68 = some .history := rfl
  simp only [channelSetBody, State.holderOnly_holder holder, run, hkey, ne_eq, not_true_eq_false, if_false]

variable {k : TemplateKey} (hkey : TemplateKey.ofByte key = some k) (settable : k ≠ .history)
include hkey settable

theorem channelSetBody_refused (write : k.write (word v3 v2 v1 v0).toNat (s.chan c).settings = none) :
    channelSetBody p tag [Chan.byte c, key, v3, v2, v1, v0] s = s.refuse p tag .badParam := by
  simp only [channelSetBody, State.holderOnly_holder holder, run, hkey, write, ne_eq, not_true_eq_false, if_false]

theorem channelSetBody_stores {new : ChannelSettings}
    (write : k.write (word v3 v2 v1 v0).toNat (s.chan c).settings = some new) :
    channelSetBody p tag [Chan.byte c, key, v3, v2, v1, v0] s
      = (s.modChanPool c (applyChannelSet s.reserves c k new)).acceptClamped p tag
          (k.read new != (word v3 v2 v1 v0).toNat) (bytes32 (BitVec.ofNat 32 (k.read new))) := by
  simp only [channelSetBody, State.holderOnly_holder holder, run, hkey, write, ne_eq, not_true_eq_false, if_false]

end

/-- A change of a channel and the pool, by its value. -/
theorem State.modChanPool_eq {s : State} {c : Chan} {f : ChanPool → ChanPool} {g : Channel → Channel} {b : Pool}
    (h : f (s.chan c, s.pool) = (g (s.chan c), b)) : s.modChanPool c f = ({ s with pool := b } : State).modChan c g := by
  unfold State.modChanPool
  rw [h]
  rfl

section
variable {s : State} {p : Port} {tag : Byte} {c : Chan} {key v3 v2 v1 v0 : Byte} {k : TemplateKey} {new : ChannelSettings}

/-- A setting stored, with what it does to the channel and the pool (R20, R21). -/
theorem exec_channelSet_pool (ready : s.ready p) (holder : (s.chan c).heldBy p = true) (run : (s.chan c).state = .run)
    (hkey : TemplateKey.ofByte key = some k) (settable : k ≠ .history)
    (write : k.write (word v3 v2 v1 v0).toNat (s.chan c).settings = some new) {g : Channel → Channel} {b : Pool}
    (apply : applyChannelSet s.reserves c k new (s.chan c, s.pool) = (g (s.chan c), b)) :
    exec (.channelSetReq p tag [Chan.byte c, key, v3, v2, v1, v0]) s
      = .next ((({ s with pool := b } : State).modChan c g).replied p
          (acceptanceOf tag (k.read new != (word v3 v2 v1 v0).toNat) (bytes32 (BitVec.ofNat 32 (k.read new))))) := by
  rw [exec_channelSetReq_ready ready, channelSetBody_stores (s := s.counted p) holder run hkey settable write,
    State.reserves_counted, State.modChanPool_eq (s := s.counted p) apply]
  exact congrArg _ (State.acceptClamped_counted (({ s with pool := b } : State).modChan c g) p tag _ _)

/-- A setting stored that leaves depth_max as it is or raises it (R20, R21). -/
theorem exec_channelSet_stores (ready : s.ready p) (holder : (s.chan c).heldBy p = true) (run : (s.chan c).state = .run)
    (hkey : TemplateKey.ofByte key = some k) (settable : k ≠ .history)
    (write : k.write (word v3 v2 v1 v0).toNat (s.chan c).settings = some new)
    (kept : ¬new.depthMax < (s.chan c).settings.depthMax) {n : Nat} (read : k.read new = n)
    {f : ChannelSettings → ChannelSettings} (settings : f (s.chan c).settings = new) {g : Timing → Timing}
    (target : g (s.chan c).tru
      = { (s.chan c).tru with target := adjustedTarget k (s.chan c).settings new (s.chan c).tru }) :
    exec (.channelSetReq p tag [Chan.byte c, key, v3, v2, v1, v0]) s
      = .next ((s.modChan c fun ch => { ch with settings := f ch.settings, tru := g ch.tru }).replied p
          (acceptanceOf tag (n != (word v3 v2 v1 v0).toNat) (bytes32 (BitVec.ofNat 32 n)))) := by
  have happly : applyChannelSet s.reserves c k new (s.chan c, s.pool)
      = ({ s.chan c with settings := f (s.chan c).settings, tru := g (s.chan c).tru }, s.pool) := by
    unfold applyChannelSet
    dsimp only
    rw [if_neg kept, settings, target]
  rw [exec_channelSet_pool (g := fun ch => { ch with settings := f ch.settings, tru := g ch.tru }) ready holder run hkey
    settable write happly, read]

theorem exec_channelSet_refused (ready : s.ready p) (holder : (s.chan c).heldBy p = true) (run : (s.chan c).state = .run)
    (hkey : TemplateKey.ofByte key = some k) (settable : k ≠ .history)
    (write : k.write (word v3 v2 v1 v0).toNat (s.chan c).settings = none) :
    exec (.channelSetReq p tag [Chan.byte c, key, v3, v2, v1, v0]) s = .next (s.replied p (refusal tag .badParam)) := by
  rw [exec_channelSetReq_ready ready, channelSetBody_refused (s := s.counted p) holder run hkey settable write,
    State.refuse_counted]

end

/-! ### What the depths are bounded to (R187) -/

theorem clampNat_zero (hi v : Nat) : clampNat 0 hi v = min hi v := Nat.zero_max _

theorem clampNat_eq_self {lo hi v : Nat} (h : lo ≤ v ∧ v ≤ hi) : clampNat lo hi v = v := by
  unfold clampNat
  omega

section
variable {x : ChannelSettings} (h : ChannelInRange x)
include h

/-- Depths in their ranges bound one another already. -/
theorem boundDepths_depthStart (v : Nat) :
    boundDepths { x with depthStart := v } = { x with depthStart := clampNat x.depthMin x.depthMax v } := by
  obtain ⟨hmin, hmax, -, -, -, -, hdata⟩ := h
  simp [boundDepths, Nat.min_eq_left hmin.2, Nat.min_eq_left hdata.2]

theorem boundDepths_dataDepth (v : Nat) :
    boundDepths { x with dataDepth := clampNat 2 64 v } = { x with dataDepth := clampNat 2 x.depthMax v } := by
  obtain ⟨hmin, hmax, hstart, -⟩ := h
  have hdata : min (clampNat 2 64 v) x.depthMax = clampNat 2 x.depthMax v := by
    unfold clampNat
    omega
  simp [boundDepths, Nat.min_eq_left hmin.2, hdata, clampNat_eq_self hstart]

theorem boundDepths_depthMin (v : Nat) :
    boundDepths { x with depthMin := clampNat 1 64 v }
      = { x with
          depthMin := clampNat 1 x.depthMax v
          depthStart := clampNat (clampNat 1 x.depthMax v) x.depthMax x.depthStart } := by
  obtain ⟨hmin, hmax, -, -, -, -, hdata⟩ := h
  have hlow : min (clampNat 1 64 v) x.depthMax = clampNat 1 x.depthMax v := by
    unfold clampNat
    omega
  simp [boundDepths, hlow, Nat.min_eq_left hdata.2]

theorem redundancy_write (v : Nat) : min (clampNat 0 3 v) (x.history - 1) = min 3 v := by
  have hhistory := h.history
  rw [clampNat_zero]
  omega

end

theorem TemplateKey.ofByte_none {key : Byte} (h : key.toNat < 0x60 ∨ 0x6E < key.toNat) : TemplateKey.ofByte key = none := by
  unfold TemplateKey.ofByte
  split
  · refine List.getElem?_eq_none ?_
    change 15 ≤ key.toNat - 0x60
    omega
  · rfl

theorem onOff_lt_two {v : Nat} (h : v < 2) : onOff v = some (v == 1) := by
  obtain rfl | rfl : v = 0 ∨ v = 1 := by omega
  · rfl
  · rfl

theorem onOff_none {v : Nat} (h : 2 ≤ v) : onOff v = none := by
  unfold onOff
  split
  · omega
  · omega
  · rfl

theorem flagNat_eq_one {v : Nat} (h : v < 2) : flagNat (v == 1) = v := by
  obtain rfl | rfl : v = 0 ∨ v = 1 := by omega
  · rfl
  · rfl

end Sys2Proof.Machine


namespace Sys2Proof.Machine

/-! ### A lowered depth_max (R21) -/

/-- An entry lies at the distance of a lowered depth_max or more beyond its epoch's anchor (R21). -/
def Playout.beyond (pe : Playout) (old high : Nat) (e : QEntry) : Bool :=
  high < old && decide ((high : Int) ≤ seqDist (if e.epoch = pe.playEpoch then pe.nextPlay else pe.baseIn) e.seq)

/-- A pool after a channel has given blocks back (R31, R32). -/
theorem Pool.Fits.giveBackN_eq {res : PerChan Nat} {c : Chan} {n : Nat} {b : Pool} (h : b.Fits res) (hn : n ≤ b.held.get c) :
    b.giveBackN res c n
      = { held := b.held.put c (b.held.get c - n)
          free := b.free.put c (res.get c - (b.held.get c - n))
          shared := b.shared + (b.held.get c - res.get c) - (b.held.get c - n - res.get c) } := by
  obtain ⟨hfits, hheld⟩ := h.giveBackN hn
  have hexcess := PerChan.excess_put b.held res c (b.held.get c - n)
  have hshared := h.shared
  refine hfits.eq_of_held ⟨fun d => ?_, by dsimp only; omega⟩ hheld
  by_cases hd : d = c
  · subst hd
    simp
  · simp [PerChan.get_put_ne _ hd, h.free]

theorem bumpBy_zero (c : Word) : bumpBy c 0 = c := by
  have hc : c.toNat + 0 ≤ 4294967295 := by omega
  rw [bumpBy, Nat.min_eq_left hc, Nat.add_zero, BitVec.ofNat_toNat, BitVec.setWidth_eq]

/-- What a channel has queued when depth_max is lowered leaves as the entries beyond it (R21). -/
theorem applyChannelSet_depthMax {res : PerChan Nat} {c : Chan} {x : ChanPool} (fits : x.2.Fits res)
    (held : x.1.pe.queue.length ≤ x.2.held.get c) (new : ChannelSettings) :
    let beyond := x.1.pe.beyond x.1.settings.depthMax new.depthMax
    let n := x.1.pe.queue.countP beyond
    let left := x.2.held.get c - n
    applyChannelSet res c .depthMax new x
      = ({ x.1 with
            settings := new
            tru := { x.1.tru with target := adjustedTarget .depthMax x.1.settings new x.1.tru }
            pe := { x.1.pe with queue := x.1.pe.queue.filter fun e => !beyond e }
            stats := { x.1.stats with overrun := bumpBy x.1.stats.overrun n } },
          { held := x.2.held.put c left
            free := x.2.free.put c (res.get c - left)
            shared := x.2.shared + (x.2.held.get c - res.get c) - (left - res.get c) }) := by
  intro beyond n left
  have hn : n ≤ x.2.held.get c := Nat.le_trans List.countP_le_length held
  have hpool := fits.giveBackN_eq (c := c) hn
  unfold applyChannelSet
  dsimp only
  split
  · next hlower =>
    have hgone (e : QEntry) : decide ((new.depthMax : Int) ≤ seqDist (x.1.pe.anchorOf e) e.seq) = beyond e := by
      change _ = (decide (new.depthMax < x.1.settings.depthMax) && decide _)
      rw [decide_eq_true hlower, Bool.true_and]
      rfl
    simp only [discardBeyond, freeEntries, hgone]
    exact congrArg (Prod.mk _) hpool
  · next hkept =>
    have hgone : beyond = fun _ => false := by
      funext e
      change (decide (new.depthMax < x.1.settings.depthMax) && decide _) = false
      rw [decide_eq_false hkept, Bool.false_and]
    have hzero : n = 0 := by simp [n, hgone]
    have hqueue : (x.1.pe.queue.filter fun e => !beyond e) = x.1.pe.queue := by simp [hgone]
    rw [hzero] at hpool
    have hback : x.2 = { held := x.2.held.put c left
                         free := x.2.free.put c (res.get c - left)
                         shared := x.2.shared + (x.2.held.get c - res.get c) - (left - res.get c) } := by
      rw [show left = x.2.held.get c - 0 by rw [← hzero]]
      exact hpool
    rw [hqueue, hzero, bumpBy_zero, ← hback]

theorem adjustedTarget_depthStart (old new : ChannelSettings) (t : Timing) :
    (if t.closedSinceOpen then t else { t with target := new.depthStart })
      = { t with target := adjustedTarget .depthStart old new t } := by
  obtain ⟨_, _, _, _, _, _, closed⟩ := t
  cases closed <;> rfl

section
variable {v : Nat} (set : ChannelSettings)

theorem write_autoData (h : v < 2) : TemplateKey.autoData.write v set = some { set with autoData := v == 1 } := by
  simp only [TemplateKey.write, onOff_lt_two h, Option.map_some]

theorem write_autoData_none (h : 2 ≤ v) : TemplateKey.autoData.write v set = none := by
  simp only [TemplateKey.write, onOff_none h, Option.map_none]

theorem write_suppressDigits (h : v < 2) :
    TemplateKey.suppressDigits.write v set = some { set with suppressDigits := v == 1 } := by
  simp only [TemplateKey.write, onOff_lt_two h, Option.map_some]

theorem write_suppressDigits_none (h : 2 ≤ v) : TemplateKey.suppressDigits.write v set = none := by
  simp only [TemplateKey.write, onOff_none h, Option.map_none]

end

/-- Settles O29: each key by the value it stores, and depth_max by the entries it discards. -/
theorem channelSetAnswered : Obligations.ChannelSetAnswered := by
  constructor
  case left =>
    intro s p tag v3 v2 v1 v0 c ready holder run range v set stores refused start span
    have hkept : ¬set.depthMax < set.depthMax := Nat.lt_irrefl _
    refine ⟨?start, ?guard, ?window, ?smoothing, ?dataDepth, ?dataSlack, ?history, ?redundancy, ?packet, fun hv => ?autoData,
      fun hv => ?suppress, fun hv => ⟨?badAuto, ?badSuppress⟩, ?parkTime, ?drainLimit, fun key hkey => ?noKey⟩
    case start =>
      refine exec_channelSet_stores ready holder run (k := .depthStart) rfl (by decide) rfl
        (by rw [boundDepths_depthStart range]; exact hkept) (by rw [boundDepths_depthStart range]; rfl)
        (f := fun x => { x with depthStart := start }) (boundDepths_depthStart range v).symm
        (g := fun t => if t.closedSinceOpen then t else { t with target := start }) ?_
      rw [boundDepths_depthStart range]
      exact adjustedTarget_depthStart set { set with depthStart := start } _
    case guard =>
      exact exec_channelSet_stores ready holder run (k := .guard) rfl (by decide) rfl hkept (clampNat_zero 800 v)
        (f := fun x => { x with guard := min 800 v }) (by rw [clampNat_zero]) (g := id) rfl
    case window =>
      exact exec_channelSet_stores ready holder run (k := .window) rfl (by decide) rfl hkept rfl
        (f := fun x => { x with window := span }) rfl (g := id) rfl
    case smoothing =>
      exact exec_channelSet_stores ready holder run (k := .smoothing) rfl (by decide) rfl hkept (clampNat_zero 3 v)
        (f := fun x => { x with smoothing := min 3 v }) (by rw [clampNat_zero]) (g := id) rfl
    case dataDepth =>
      exact exec_channelSet_stores ready holder run (k := .dataDepth) rfl (by decide) rfl
        (by rw [boundDepths_dataDepth range]; exact hkept) (by rw [boundDepths_dataDepth range]; rfl)
        (f := fun x => { x with dataDepth := clampNat 2 set.depthMax v }) (boundDepths_dataDepth range v).symm (g := id) rfl
    case dataSlack =>
      exact exec_channelSet_stores ready holder run (k := .dataSlack) rfl (by decide) rfl hkept rfl
        (f := fun x => { x with dataSlack := clampNat 1 8 v }) rfl (g := id) rfl
    case history =>
      change exec _ _ = _
      rw [exec_channelSetReq_ready ready, channelSetBody_history (s := s.counted p) holder run, State.refuse_counted]
    case redundancy =>
      exact exec_channelSet_stores ready holder run (k := .redundancy) rfl (by decide) rfl hkept (redundancy_write range v)
        (f := fun x => { x with redundancy := min 3 v }) (by rw [redundancy_write range]) (g := id) rfl
    case packet =>
      exact exec_channelSet_stores ready holder run (k := .packet) rfl (by decide) rfl hkept rfl
        (f := fun x => { x with packet := clampNat 1 4 v }) rfl (g := id) rfl
    case autoData =>
      exact exec_channelSet_stores ready holder run (k := .autoData) rfl (by decide)
        (write_autoData set hv) hkept (flagNat_eq_one hv)
        (f := fun x => { x with autoData := v == 1 }) rfl (g := id) rfl
    case suppress =>
      exact exec_channelSet_stores ready holder run (k := .suppressDigits) rfl (by decide)
        (write_suppressDigits set hv) hkept (flagNat_eq_one hv)
        (f := fun x => { x with suppressDigits := v == 1 }) rfl (g := id) rfl
    case badAuto =>
      exact exec_channelSet_refused ready holder run (k := .autoData) rfl (by decide)
        (write_autoData_none set hv)
    case badSuppress =>
      exact exec_channelSet_refused ready holder run (k := .suppressDigits) rfl (by decide)
        (write_suppressDigits_none set hv)
    case parkTime =>
      exact exec_channelSet_stores ready holder run (k := .parkTime) rfl (by decide) rfl hkept rfl
        (f := fun x => { x with parkTime := clampNat 100 10000 v }) rfl (g := id) rfl
    case drainLimit =>
      exact exec_channelSet_stores ready holder run (k := .drainLimit) rfl (by decide) rfl hkept (clampNat_zero 5000 v)
        (f := fun x => { x with drainLimit := min 5000 v }) (by rw [clampNat_zero]) (g := id) rfl
    case noKey =>
      change exec _ _ = _
      rw [exec_channelSetReq_ready ready, channelSetBody_noKey (s := s.counted p) holder run (TemplateKey.ofByte_none hkey),
        State.refuse_counted]
  case right =>
    intro s p tag v3 v2 v1 v0 c ready holder accounts v ch set order moved
    refine ⟨fun draining key => ?draining, fun run range => ?low, fun run range => ?high⟩
    case draining =>
      change exec _ _ = _
      rw [exec_channelSetReq_ready ready, channelSetBody_draining (s := s.counted p) holder draining, State.refuse_counted]
    case low =>
      exact exec_channelSet_stores ready holder run (k := .depthMin) rfl (by decide) rfl
        (by rw [boundDepths_depthMin range]; exact Nat.lt_irrefl _) (by rw [boundDepths_depthMin range]; rfl)
        (f := fun _ => _) (boundDepths_depthMin range v).symm (g := fun t => { t with target := moved t _ })
        (by rw [boundDepths_depthMin range]; rfl)
    case high =>
      intro high low new beyond n left
      have hfits := ((poolAccounts_iff s).mp accounts).2.1
      have hheld : ch.pe.queue.length ≤ s.pool.held.get c := by
        rw [accounts.held c]
        exact Nat.le_add_right _ _
      have happly := applyChannelSet_depthMax (x := (ch, s.pool)) hfits hheld new
      exact exec_channelSet_pool ready holder run (k := .depthMax) (new := new) rfl (by decide) rfl
        (g := fun ch =>
          { ch with
            settings := new
            tru := { ch.tru with target := moved ch.tru new }
            pe := { ch.pe with queue := ch.pe.queue.filter fun e => !beyond e }
            stats := { ch.stats with overrun := bumpBy ch.stats.overrun n } }) happly

end Sys2Proof.Machine


namespace Sys2Proof.Machine

/-! ### An interval judged (R96) -/

section
variable {x : IntervalMeasure} {samples : List Sample} (sounds : ∃ v ∈ samples, v ≠ 0#16)

/-- An interval's component passes by its level, its purity and its occupancy (R96). -/
def intervalPasses (x : IntervalMeasure) (length : Nat) : Prop :=
  x.levelBelow ≤ 45000 ∧ 12000 ≤ x.restBelow ∧ 3 * length ≤ 4 * x.occupancy

include sounds

theorem not_all_zero : ¬samples.all (· == 0#16) = true := by
  obtain ⟨v, hmem, hv⟩ := sounds
  intro h
  exact hv (by simpa using List.all_eq_true.mp h v hmem)

theorem judgeInterval_present (h : intervalPasses x samples.length) : judgeInterval (some x) samples = bandOf x.milliHz := by
  have hneeded : occupancyNeeded samples.length ≤ x.occupancy := by
    have := h.2.2
    unfold occupancyNeeded ceilDiv
    omega
  simp only [judgeInterval, not_all_zero sounds, if_false, Bool.false_eq_true]
  exact if_pos ⟨h.1, h.2.1, hneeded⟩

theorem judgeInterval_absent (h : ¬intervalPasses x samples.length) : judgeInterval (some x) samples = none := by
  have hneeded : occupancyNeeded samples.length ≤ x.occupancy → 3 * samples.length ≤ 4 * x.occupancy := by
    unfold occupancyNeeded ceilDiv
    omega
  simp only [judgeInterval, not_all_zero sounds, if_false, Bool.false_eq_true]
  exact if_neg fun ⟨hlevel, hrest, hoccupancy⟩ => h ⟨hlevel, hrest, hneeded hoccupancy⟩

end

theorem bandOf_answer {f : Nat} (low : 2050000 ≤ f) (high : f ≤ 2150000) : bandOf f = some .answer := if_pos ⟨low, high⟩

theorem bandOf_calling {f : Nat} (low : 1050000 ≤ f) (high : f ≤ 1150000) : bandOf f = some .calling := by
  rw [bandOf, if_neg (by omega), if_pos ⟨low, high⟩]

theorem bandOf_none {f : Nat} (h : f < 1050000 ∨ (1150000 < f ∧ f < 2050000) ∨ 2150000 < f) : bandOf f = none := by
  rw [bandOf, if_neg (by omega), if_neg (by omega)]

/-! ### The timing of a data tone (R97, R99) -/

/-- The record of a path. -/
def Detector.path (played : Bool) (d : Detector) : PathRecord := if played then d.playedPath else d.loopPath

/-- The record of a path stored. -/
def Detector.putPath (played : Bool) (x : PathRecord) (d : Detector) : Detector :=
  if played then { d with playedPath := x } else { d with loopPath := x }

/-- The end of an interval of either path (R97). -/
def State.pathInterval (s : State) (c : Chan) (played : Bool) (band : Option Band) (length : Nat) (time : Word) : State :=
  if played then s.playedInterval c band length time else s.loopInterval c band length time

/-- A present interval lengthens the run of its band or begins another (R97). -/
theorem PathRecord.judged_some (r : PathRecord) (b : Band) (length : Nat) :
    r.judged (some b) length
      = if r.band = some b then ⟨some b, r.length + length, r.reported⟩ else ⟨some b, length, false⟩ := by
  unfold PathRecord.judged
  dsimp only
  split
  · next hband => rw [hband]
  · rfl

theorem PathRecord.detects_iff {r : PathRecord} {n : Nat} :
    r.detects n = true ↔ r.band ≠ none ∧ r.reported = false ∧ n * 8 ≤ r.length := by
  simp [PathRecord.detects, Option.isSome_iff_ne_none, and_assoc]

section
variable {s : State} {c : Chan} (played : Bool) (band : Option Band) (length : Nat) (time : Word)

theorem State.pathInterval_inactive (inactive : (s.chan c).det.active = false) :
    s.pathInterval c played band length time = s := by
  unfold State.pathInterval State.playedInterval State.loopInterval
  dsimp only
  rw [inactive]
  exact ite_self s

theorem State.pathInterval_active (active : (s.chan c).det.active = true) :
    s.pathInterval c played band length time
      = let r := ((s.chan c).det.path played).judged band length
        if r.detects s.live.global.toneDataMin then
          (s.modChan c fun ch => { ch with det := ch.det.putPath played { r with reported := true } }).toneDetected c
            (if played then .played else .loop) r.band time
        else s.modChan c fun ch => { ch with det := ch.det.putPath played r } := by
  unfold State.pathInterval State.playedInterval State.loopInterval
  dsimp only
  rw [active]
  cases played <;> rfl

theorem State.toneDetected_stays (auto : (s.chan c).settings.autoData = false) (path : TonePath) :
    s.toneDetected c path band time
      = s.routeChannel c ⟨.modeChange (s.chan c).mode false path band, some (s.chan c).loop, some c, time⟩ := by
  simp only [State.toneDetected, auto, Bool.false_eq_true, if_false]
  rfl

theorem State.toneDetected_switches (auto : (s.chan c).settings.autoData = true) (path : TonePath) :
    s.toneDetected c path band time
      = (s.modChan c Channel.toData).routeChannel c
          ⟨.modeChange .data true path band, some (s.chan c).loop, some c, time⟩ := by
  simp only [State.toneDetected, auto, if_true]
  rfl

end

/-- Settles O30: the judgement by its three tests and its bands, and the timing by whether the record calls for a
detection. -/
theorem dataTonesDetected : Obligations.DataTonesDetected := by
  constructor
  case left =>
    intro x samples sounds
    refine ⟨fun h low high => ?_, fun h low high => ?_, fun h => judgeInterval_absent sounds h, fun outside => ?_, rfl⟩
    · rw [judgeInterval_present sounds h, bandOf_answer low high]
    · rw [judgeInterval_present sounds h, bandOf_calling low high]
    · by_cases h : intervalPasses x samples.length
      · rw [judgeInterval_present sounds h, bandOf_none outside]
      · exact judgeInterval_absent sounds h
  case right =>
    intro s c played band length time judged ch r put next detects notice
    have hdetects : detects ↔ next.detects s.live.global.toneDataMin = true := PathRecord.detects_iff.symm
    have hnext : (ch.det.path played).judged band length = next := by
      cases band with
      | none => rfl
      | some b => exact PathRecord.judged_some r b length
    have hactive (active : ch.det.active = true) := State.pathInterval_active (s := s) played band length time active
    dsimp only at hactive
    rw [hnext] at hactive
    refine ⟨fun inactive => State.pathInterval_inactive played band length time inactive, fun active h => ?_,
      fun active h auto => ?_, fun active h auto => ?_⟩
    · exact (hactive active).trans (if_neg (mt hdetects.mpr h))
    · refine ((hactive active).trans (if_pos (hdetects.mp h))).trans ?_
      rw [State.toneDetected_stays _ _ (by rw [State.chan_modChan_same]; exact auto), State.chan_modChan_same]
      rfl
    · refine ((hactive active).trans (if_pos (hdetects.mp h))).trans ?_
      rw [State.toneDetected_switches _ _ (by rw [State.chan_modChan_same]; exact auto), State.chan_modChan_same,
        State.modChan_modChan]
      rfl

end Sys2Proof.Machine


namespace Sys2Proof.Machine

/-! ### A MEDIA_IN (R40 to R42, R100) -/

theorem primaryArrivals_eq (seq : Half) (stamp : Word) (resync : Bool) (blocks : List (List Sample)) :
    primaryArrivals seq stamp resync blocks
      = blocks.mapIdx fun k b =>
          ⟨seq + BitVec.ofNat 16 k, b, some (stamp + BitVec.ofNat 32 (80 * k)), resync && k == 0⟩ := by
  induction blocks generalizing seq stamp resync with
  | nil => rfl
  | cons b rest ih =>
    rw [primaryArrivals, ih, List.mapIdx_cons]
    have hseq (k : Nat) : seq + 1 + BitVec.ofNat 16 k = seq + BitVec.ofNat 16 (k + 1) := by
      rw [Nat.add_comm k 1, BitVec.ofNat_add, ← BitVec.add_assoc]
      rfl
    have hstamp (k : Nat) : stamp + 80 + BitVec.ofNat 32 (80 * k) = stamp + BitVec.ofNat 32 (80 * (k + 1)) := by
      rw [Nat.mul_add, Nat.add_comm, BitVec.ofNat_add, ← BitVec.add_assoc]
      rfl
    refine congrArg₂ List.cons (by simp) (congrArg (fun f => rest.mapIdx f) (funext fun k => funext fun block => ?_))
    rw [hseq, hstamp, Bool.false_and, beq_false_of_ne (Nat.succ_ne_zero k), Bool.and_false]

theorem redundantArrivals_eq (seq : Half) (blocks : List (List Sample)) :
    redundantArrivals seq blocks = blocks.mapIdx fun k b => ⟨seq - BitVec.ofNat 16 k, b, none, false⟩ := by
  induction blocks generalizing seq with
  | nil => rfl
  | cons b rest ih =>
    rw [redundantArrivals, ih, List.mapIdx_cons]
    refine congrArg₂ List.cons (by simp) (congrArg (fun f => rest.mapIdx f) (funext fun k => funext fun block => ?_))
    rw [half_sub_succ]

section
variable {s : State} {p : Port} {m : MediaMsg} {c : Chan}

theorem State.routeMedia_badChan (h : 4 ≤ m.chan.toNat) : s.routeMedia p m = s.countNotHolder p := by
  simp only [State.routeMedia, Chan.ofByte_none h]

variable (chan : m.chan = Chan.byte c)
include chan

theorem State.routeMedia_unheld (h : (s.chan c).state = .idle ∨ (s.chan c).state = .parked) :
    s.routeMedia p m = s.countNotHolder p := by
  obtain h | h := h
  · simp only [State.routeMedia, chan, Chan.ofByte_byte, h]
  · simp only [State.routeMedia, chan, Chan.ofByte_byte, h]

theorem State.routeMedia_draining (h : (s.chan c).state = .draining) : s.routeMedia p m = s := by
  simp only [State.routeMedia, chan, Chan.ofByte_byte, h]

theorem State.routeMedia_notHolder (run : (s.chan c).state = .run) (h : (s.chan c).holder ≠ some p) :
    s.routeMedia p m = s.countNotHolder p := by
  simp only [State.routeMedia, chan, Chan.ofByte_byte, run, h, if_false]

theorem State.routeMedia_holder (run : (s.chan c).state = .run) (h : (s.chan c).holder = some p) :
    s.routeMedia p m
      = (if m.dataHint then s.dataHint c else s).modChanPool c (playMedia s.reserves c s.timebase m) := by
  simp only [State.routeMedia, chan, Chan.ofByte_byte, run, h, if_true]

end

theorem State.dataHint_ignored {s : State} {c : Chan} (h : ¬((s.chan c).mode = .voice ∧ (s.chan c).settings.autoData = true)) :
    s.dataHint c = s := by
  refine if_neg ?_
  simpa using h

theorem State.dataHint_heeded {s : State} {c : Chan} (voice : (s.chan c).mode = .voice)
    (auto : (s.chan c).settings.autoData = true) :
    s.dataHint c
      = (s.modChan c Channel.toData).routeChannel c
          ⟨.modeChange .data true .far none, some (s.chan c).loop, some c, s.timebase⟩ :=
  if_pos (by simp [voice, auto])

/-- Settles O32: by the channel's state, its holder, and the DATA hint. -/
theorem mediaRouted : Obligations.MediaRouted := by
  intro s p body
  refine ⟨fun none => ?misshapen, fun m parse up => ?_⟩
  case misshapen =>
    rw [exec, execMediaIn, none]
    rfl
  have hexec : exec (.mediaIn p body) s = .next ((s.heard p).routeMedia p m) := by
    rw [exec_mediaIn_of_parse parse, State.messageTaken_of_up up]
  rw [hexec]
  have hplay : playMedia s.reserves = fun c arrival m x =>
      ((m.primaries.mapIdx fun k b =>
          (⟨m.first + BitVec.ofNat 16 k, b, some (m.stamp + BitVec.ofNat 32 (80 * k)), m.resync && k == 0⟩ : Arrival))
        ++ m.redundant.mapIdx fun k b => (⟨m.first - 1 - BitVec.ofNat 16 k, b, Option.none, false⟩ : Arrival)).foldl
          (classify s.reserves c arrival) x := by
    funext c arrival m x
    rw [playMedia, MediaMsg.arrivals, primaryArrivals_eq, redundantArrivals_eq]
  refine ⟨fun h => congrArg _ (State.routeMedia_badChan h), fun c chan => ⟨fun h => ?_, fun h => ?_, fun run other => ?_,
    fun run holder ignored => ?ignored, fun run holder heeds => ?heeded⟩⟩
  · exact congrArg _ (State.routeMedia_unheld (s := s.heard p) chan h)
  · exact congrArg _ (State.routeMedia_draining (s := s.heard p) chan h)
  · exact congrArg _ (State.routeMedia_notHolder (s := s.heard p) chan run other)
  case ignored =>
    have hhint : (if m.dataHint then (s.heard p).dataHint c else s.heard p) = s.heard p := by
      cases hint : m.dataHint with
      | false => rfl
      | true => exact State.dataHint_ignored (s := s.heard p) fun ⟨voice, auto⟩ => ignored ⟨hint, voice, auto⟩
    refine congrArg _ ((State.routeMedia_holder (s := s.heard p) chan run holder).trans ?_)
    rw [hhint]
    exact congrArg (fun f => (s.heard p).modChanPool c (f c s.timebase m)) hplay
  case heeded =>
    obtain ⟨hint, voice, auto⟩ := heeds
    refine congrArg _ ((State.routeMedia_holder (s := s.heard p) chan run holder).trans ?_)
    rw [if_pos hint, State.dataHint_heeded (s := s.heard p) voice auto,
      State.routeChannel_held (.inl (by rw [State.chan_modChan_same]; exact run)), State.chan_modChan_same]
    have hholder : ((s.heard p).chan c).toData.holder = some p := holder
    rw [hholder]
    exact congrArg (fun f => State.modChanPool _ c (f c s.timebase m)) hplay

end Sys2Proof.Machine


namespace Sys2Proof.Machine

/-! ### The classification of a block (R43, R44, R46) -/

section
variable {res : PerChan Nat} {c : Chan} {now : Word} {ch : Channel} {b : Pool} {a : Arrival}

/-- An entry of the arrival epoch carries the block's number (R44, case 3). -/
def Playout.hasQueued (pe : Playout) (seq : Half) : Prop := ∃ e ∈ pe.queue, e.epoch = pe.epochIn ∧ e.seq = seq

theorem Playout.hasQueued_iff {pe : Playout} {seq : Half} :
    (pe.queue.any fun e => e.epoch == pe.epochIn && e.seq == seq) = true ↔ pe.hasQueued seq := by
  simp [Playout.hasQueued]

theorem classify_first (h : ch.pe.anchored = false) :
    classify res c now (ch, b) a = anchorBlock res c now a (ch, b) := by
  simp only [classify, h, Bool.not_false, if_true]

variable (anchored : ch.pe.anchored = true)
include anchored

theorem classify_resync (h : 1024 ≤ seqDist ch.pe.anchor a.seq ∨ seqDist ch.pe.anchor a.seq ≤ -1024 ∨ a.resync = true) :
    classify res c now (ch, b) a = handOver now a (resync res c a.seq a.samples (ch, b)) := by
  have hfar : 1024 ≤ (seqDist ch.pe.anchor a.seq).natAbs ∨ a.resync = true := by
    obtain h | h | h := h
    · exact .inl (by omega)
    · exact .inl (by omega)
    · exact .inr h
  simp only [classify, anchored, Bool.not_true, Bool.false_eq_true, if_false]
  exact if_pos hfar

/-- The block lies within 1024 of the anchor and asks for no resync. -/
def isNear (pe : Playout) (a : Arrival) : Prop :=
  -1024 < seqDist pe.anchor a.seq ∧ seqDist pe.anchor a.seq < 1024 ∧ a.resync = false

theorem classify_near (near : isNear ch.pe a) :
    classify res c now (ch, b) a
      = if seqDist ch.pe.anchor a.seq < 0 then ({ ch with stats := { ch.stats with late := bump ch.stats.late } }, b)
        else if ch.pe.queue.any (fun e => e.epoch == ch.pe.epochIn && e.seq == a.seq) then
          ({ ch with stats := { ch.stats with duplicate := bump ch.stats.duplicate } }, b)
        else if (ch.settings.depthMax : Int) ≤ seqDist ch.pe.anchor a.seq then
          if ch.pe.playEpoch = ch.pe.epochIn then storeArrival res c now a (overrunAdvance res c a.seq (ch, b))
          else handOver now a ({ ch with stats := { ch.stats with overrun := bump ch.stats.overrun } }, b)
        else storeArrival res c now a (ch, b) := by
  obtain ⟨low, high, noResync⟩ := near
  have hfar : ¬(1024 ≤ (seqDist ch.pe.anchor a.seq).natAbs ∨ a.resync = true) := by
    rw [noResync]
    simp
    omega
  simp only [classify, anchored, hfar, Bool.not_true, Bool.false_eq_true, if_false]

theorem classify_late (near : isNear ch.pe a) (h : seqDist ch.pe.anchor a.seq < 0) :
    classify res c now (ch, b) a = ({ ch with stats := { ch.stats with late := bump ch.stats.late } }, b) := by
  rw [classify_near anchored near, if_pos h]

variable (ahead : 0 ≤ seqDist ch.pe.anchor a.seq) (high : seqDist ch.pe.anchor a.seq < 1024) (noResync : a.resync = false)
include ahead high noResync

theorem classify_duplicate (h : ch.pe.hasQueued a.seq) :
    classify res c now (ch, b) a = ({ ch with stats := { ch.stats with duplicate := bump ch.stats.duplicate } }, b) := by
  rw [classify_near anchored ⟨by omega, high, noResync⟩, if_neg (by omega), if_pos (Playout.hasQueued_iff.mpr h)]

variable (fresh : ¬ch.pe.hasQueued a.seq)
include fresh

theorem classify_overrun_newer (beyond : (ch.settings.depthMax : Int) ≤ seqDist ch.pe.anchor a.seq)
    (h : ¬ch.pe.playEpoch = ch.pe.epochIn) :
    classify res c now (ch, b) a
      = handOver now a ({ ch with stats := { ch.stats with overrun := bump ch.stats.overrun } }, b) := by
  rw [classify_near anchored ⟨by omega, high, noResync⟩, if_neg (by omega), if_neg (mt Playout.hasQueued_iff.mp fresh),
    if_pos beyond, if_neg h]

theorem classify_overrun_playing (beyond : (ch.settings.depthMax : Int) ≤ seqDist ch.pe.anchor a.seq)
    (h : ch.pe.playEpoch = ch.pe.epochIn) :
    classify res c now (ch, b) a = storeArrival res c now a (overrunAdvance res c a.seq (ch, b)) := by
  rw [classify_near anchored ⟨by omega, high, noResync⟩, if_neg (by omega), if_neg (mt Playout.hasQueued_iff.mp fresh),
    if_pos beyond, if_pos h]

theorem classify_inWindow (within : seqDist ch.pe.anchor a.seq < ch.settings.depthMax) :
    classify res c now (ch, b) a = storeArrival res c now a (ch, b) := by
  rw [classify_near anchored ⟨by omega, high, noResync⟩, if_neg (by omega), if_neg (mt Playout.hasQueued_iff.mp fresh),
    if_neg (by omega)]

end

/-! ### A block stored (R39, R47 to R49) -/

section
variable {res : PerChan Nat} {c : Chan} {ch : Channel} {b : Pool}

theorem storeBlock_granted {b' : Pool} (h : b.grant res c = some b') (seq : Half) (samples : List Sample) :
    storeBlock res c seq samples (ch, b)
      = (({ ch with
            pe :=
              { ch.pe with
                queue := insertEntry ch.pe.anchor ⟨ch.pe.epochIn, seq, samples, peakOf samples⟩ ch.pe.queue } }, b'),
          true) := by
  simp only [storeBlock, h]

theorem storeBlock_refused (h : b.grant res c = none) (seq : Half) (samples : List Sample) :
    storeBlock res c seq samples (ch, b)
      = (({ ch with stats := { ch.stats with poolFull := bump ch.stats.poolFull } }, b), false) := by
  simp only [storeBlock, h]

theorem storeArrival_granted {b' : Pool} (h : b.grant res c = some b') (now : Word) (a : Arrival) :
    storeArrival res c now a (ch, b)
      = handOver now a
          ({ ch with
              pe :=
                { ch.pe with
                  queue := insertEntry ch.pe.anchor ⟨ch.pe.epochIn, a.seq, a.samples, peakOf a.samples⟩ ch.pe.queue }
              stats :=
                { ch.stats with
                  recovered := if a.stamp.isNone then bump ch.stats.recovered else ch.stats.recovered } }, b') := by
  unfold storeArrival
  rw [storeBlock_granted h]
  dsimp only
  cases a.stamp.isNone <;> rfl

theorem storeArrival_refused (h : b.grant res c = none) (now : Word) (a : Arrival) :
    storeArrival res c now a (ch, b)
      = handOver now a ({ ch with stats := { ch.stats with poolFull := bump ch.stats.poolFull } }, b) := by
  unfold storeArrival
  rw [storeBlock_refused h]
  dsimp only
  rw [Bool.and_false, if_neg Bool.false_ne_true]

end

/-- Where an entry is placed: behind the older epoch and what is not farther, before the first that is farther (R39). -/
theorem insertEntry_place (anchor : Half) (e : QEntry) (q : List QEntry) :
    ∃ before after : List QEntry, q = before ++ after ∧ insertEntry anchor e q = before ++ e :: after
      ∧ (∀ x ∈ before, x.epoch = e.epoch → seqDist anchor x.seq ≤ seqDist anchor e.seq)
      ∧ ∀ x, after.head? = some x → x.epoch = e.epoch ∧ seqDist anchor e.seq < seqDist anchor x.seq := by
  induction q with
  | nil => exact ⟨[], [], rfl, rfl, fun x hx => absurd hx List.not_mem_nil, fun x hx => by cases hx⟩
  | cons y rest ih =>
    unfold insertEntry
    split
    · next h =>
      refine ⟨[], y :: rest, rfl, rfl, fun x hx => absurd hx List.not_mem_nil, fun x hx => ?_⟩
      cases hx
      exact h
    · next h =>
      obtain ⟨before, after, hq, hinsert, hbefore, hafter⟩ := ih
      refine ⟨y :: before, after, by rw [hq]; rfl, by rw [hinsert]; rfl, fun x hx hepoch => ?_, hafter⟩
      obtain rfl | hx := List.mem_cons.mp hx
      · exact Int.not_lt.mp fun hlt => h ⟨hepoch, hlt⟩
      · exact hbefore x hx hepoch

/-! ### A resync (R45) -/

/-- The last steps of a resync: the next epoch begun at the block, the block stored, the resync counted (R45). -/
def beginEpoch (res : PerChan Nat) (c : Chan) (seq : Half) (samples : List Sample) (x : ChanPool) : ChanPool :=
  let y := storeBlock res c seq samples
    ({ x.1 with pe := { x.1.pe with epochIn := x.1.pe.epochIn + 1, baseIn := seq } }, x.2)
  ({ y.1.1 with
      stats := { y.1.1.stats with resync := bump y.1.1.stats.resync }
      tru := y.1.1.tru.restart }, y.1.2)

theorem resync_eq (res : PerChan Nat) (c : Chan) (seq : Half) (samples : List Sample) (x : ChanPool) :
    resync res c seq samples x
      = beginEpoch res c seq samples
          ({ (dropOldEpoch res c x).1 with pe := (dropOldEpoch res c x).1.pe.adoptArrivalEpoch }, (dropOldEpoch res c x).2) :=
  rfl

theorem dropOldEpoch_single {x : ChanPool} {epoch : Byte} (h : ∀ e ∈ x.1.pe.queue, e.epoch = epoch) (res : PerChan Nat)
    (c : Chan) : dropOldEpoch res c x = x := by
  refine if_neg ?_
  have holdest (e : QEntry) (he : e ∈ x.1.pe.queue) : x.1.pe.oldestEpoch = epoch := by
    unfold Playout.oldestEpoch
    cases hqueue : x.1.pe.queue with
    | nil => rw [hqueue] at he; cases he
    | cons first rest => exact h first (by rw [hqueue]; exact List.mem_cons_self)
  intro htwo
  obtain ⟨e, he, hne⟩ := List.any_eq_true.mp htwo
  rw [holdest e he, h e he] at hne
  simp at hne

theorem dropOldEpoch_two {ch : Channel} {b : Pool} {old new : List QEntry} {e : QEntry}
    (queue : ch.pe.queue = old ++ e :: new) (some : old ≠ []) (other : ch.pe.epochIn ≠ ch.pe.playEpoch)
    (hold : ∀ x ∈ old, x.epoch = ch.pe.playEpoch) (hnew : ∀ x ∈ e :: new, x.epoch = ch.pe.epochIn) (res : PerChan Nat)
    (c : Chan) :
    dropOldEpoch res c (ch, b)
      = ({ ch with
            pe := { ch.pe with queue := e :: new }
            stats := { ch.stats with epochDrop := bumpBy ch.stats.epochDrop old.length } },
          b.giveBackN res c old.length) := by
  have holdest : ch.pe.oldestEpoch = ch.pe.playEpoch := by
    obtain ⟨first, rest, rfl⟩ := List.exists_cons_of_ne_nil some
    rw [Playout.oldestEpoch, queue]
    exact hold first List.mem_cons_self
  have hgone (x : QEntry) (hx : x ∈ old) : (x.epoch == ch.pe.playEpoch) = true := by simpa using hold x hx
  have hkept (x : QEntry) (hx : x ∈ e :: new) : (x.epoch == ch.pe.playEpoch) = false := by
    rw [hnew x hx]
    simpa using other
  have htwo : ch.pe.twoEpochs = true := by
    rw [Playout.twoEpochs, holdest, queue, List.any_append]
    simp [hnew e List.mem_cons_self, other]
  have hcount : ch.pe.queue.countP (fun x => x.epoch == ch.pe.playEpoch) = old.length := by
    rw [queue, List.countP_append, List.countP_eq_length.mpr hgone, List.countP_eq_zero.mpr fun x hx => by simp [hkept x hx],
      Nat.add_zero]
  have hfilter : (ch.pe.queue.filter fun x => !(x.epoch == ch.pe.playEpoch)) = e :: new := by
    rw [queue, List.filter_append, List.filter_eq_nil_iff.mpr fun x hx => by simp [hgone x hx],
      List.filter_eq_self.mpr fun x hx => by simp [hkept x hx], List.nil_append]
  unfold dropOldEpoch
  dsimp only
  rw [if_pos htwo]
  simp only [freeEntries, holdest, hcount, hfilter]

theorem adoptArrivalEpoch_playing {pe : Playout} (h : ∀ e ∈ pe.queue, e.epoch = pe.playEpoch) :
    pe.adoptArrivalEpoch = pe := by
  unfold Playout.adoptArrivalEpoch
  cases hqueue : pe.queue with
  | nil => exact ite_self pe
  | cons e rest =>
    refine if_neg fun ⟨_, hnone⟩ => ?_
    have he := h e (by rw [hqueue]; exact List.mem_cons_self)
    simp [he] at hnone

theorem adoptArrivalEpoch_adopts {pe : Playout} {e : QEntry} {rest : List QEntry} (queue : pe.queue = e :: rest)
    (other : pe.epochIn ≠ pe.playEpoch) (h : ∀ x ∈ e :: rest, x.epoch = pe.epochIn) :
    pe.adoptArrivalEpoch = { pe with playEpoch := pe.epochIn, nextPlay := e.seq } := by
  have hnone : pe.queue.all (fun x => x.epoch != pe.playEpoch) = true := by
    rw [queue]
    exact List.all_eq_true.mpr fun x hx => by simpa [h x hx] using other
  have hfind : pe.queue.find? (fun x => x.epoch == pe.epochIn) = some e := by
    rw [queue]
    exact List.find?_cons_of_pos (by simp [h e List.mem_cons_self])
  simp only [Playout.adoptArrivalEpoch, other, hnone, hfind, ne_eq, not_false_eq_true, and_self, if_true]

end Sys2Proof.Machine


namespace Sys2Proof.Machine

/-- The entries an advance of next_play frees, with the advance written out (R46). -/
theorem overrunAdvance_eq (res : PerChan Nat) (c : Chan) {ch : Channel} (playing : ch.pe.playEpoch = ch.pe.epochIn)
    (seq : Half) (b : Pool) :
    let gone (e : QEntry) : Bool :=
      e.epoch == ch.pe.playEpoch
        && decide (seqDist ch.pe.nextPlay e.seq < seqDist ch.pe.anchor seq - ch.settings.depthMax + 1)
    let n := ch.pe.queue.countP gone
    overrunAdvance res c seq (ch, b)
      = ({ ch with
            pe :=
              { ch.pe with
                nextPlay := seq - BitVec.ofNat 16 ch.settings.depthMax + 1
                queue := ch.pe.queue.filter fun e => !gone e }
            stats := { ch.stats with overrun := bumpBy ch.stats.overrun n } }, b.giveBackN res c n) := by
  have hanchor : ch.pe.anchor = ch.pe.nextPlay := if_pos playing
  rw [hanchor]
  rfl

/-- Settles O33: the cases of the classification, of the storing and of a resync, each by its rule. -/
theorem arrivalsHandled : Obligations.ArrivalsHandled := by
  refine ⟨fun res c now ch b a => ?classify, fun res c seq samples ch b => ?block, fun res c now ch b a => ?arrival,
    fun res c ch b seq samples => ?resync⟩
  case classify =>
    intro pe playing anchor d max queued result handed
    refine ⟨fun first => ?_, fun anchored h => ?_, fun anchored low late noResync => ?_,
      fun anchored ahead high noResync h => ?_, fun anchored beyond ahead high noResync fresh newer => ?_,
      fun anchored beyond ahead high noResync fresh h => ?_, fun anchored ahead within high noResync fresh => ?_⟩
    · exact classify_first first
    · exact classify_resync anchored h
    · exact classify_late anchored ⟨low, Int.lt_trans late (by decide), noResync⟩ late
    · exact classify_duplicate anchored ahead high noResync h
    · exact classify_overrun_newer anchored ahead high noResync fresh beyond newer
    · refine (classify_overrun_playing anchored ahead high noResync fresh beyond h).trans ?_
      rw [overrunAdvance_eq res c h]
      rfl
    · exact classify_inWindow anchored ahead high noResync fresh within
  case block => exact ⟨fun b' h => storeBlock_granted h seq samples, fun h => storeBlock_refused h seq samples⟩
  case arrival =>
    exact ⟨fun b' h => storeArrival_granted h now a, fun h => storeArrival_refused h now a,
      fun anchor e q => insertEntry_place anchor e q⟩
  case resync =>
    refine ⟨fun h => ?_, fun e rest queue other h => ?_, fun old new e queue some other hold hnew => ?_⟩
    · rw [resync_eq, dropOldEpoch_single (x := (ch, b)) h, adoptArrivalEpoch_playing (pe := ch.pe) h]
      rfl
    · rw [resync_eq, dropOldEpoch_single (x := (ch, b)) (by rw [queue]; exact h),
        adoptArrivalEpoch_adopts (pe := ch.pe) queue other h]
      rfl
    · rw [resync_eq, dropOldEpoch_two queue some other hold hnew]
      exact congrArg (fun pe' => beginEpoch res c seq samples ({ ch with
          pe := pe'
          stats := { ch.stats with epochDrop := bumpBy ch.stats.epochDrop old.length } }, b.giveBackN res c old.length))
        (adoptArrivalEpoch_adopts (pe := { ch.pe with queue := e :: new }) rfl other hnew)

end Sys2Proof.Machine


namespace Sys2Proof.Machine

/-! ### A channel tick (R50, R53, R59, R95) -/

theorem State.routeChannel_held_chan {s : State} {c : Chan}
    (h : (s.chan c).state = .run ∨ (s.chan c).state = .draining) (n : Notice) (d : Chan) :
    (s.routeChannel c n).chan d = s.chan d := by
  rw [State.routeChannel_held h, State.chan, (State.offerTo_untouched _ _ _).2.2.1]
  rfl

/-- The part of a channel that a DRAIN_DONE speaks of. -/
def Channel.sameEnd (x y : Channel) : Prop := y.holder = x.holder ∧ y.loop = x.loop

theorem State.toneDetected_sameEnd {s : State} {c : Chan} (h : (s.chan c).state = .run ∨ (s.chan c).state = .draining)
    (path : TonePath) (band : Option Band) (time : Word) :
    (s.chan c).sameEnd ((s.toneDetected c path band time).chan c) := by
  unfold State.toneDetected
  dsimp only
  split
  · have hstate : ((s.modChan c Channel.toData).chan c).state = (s.chan c).state := by
      rw [State.chan_modChan_same]
      rfl
    rw [State.routeChannel_held_chan (by rwa [hstate]), State.chan_modChan_same]
    exact ⟨rfl, rfl⟩
  · rw [State.routeChannel_held_chan h]
    exact ⟨rfl, rfl⟩

/-- The judgement of the played block leaves a draining channel its holder and its loop. -/
theorem State.judgePlayed_sameEnd {s : State} {c : Chan} (h : (s.chan c).state = .draining) (m : Option IntervalMeasure) :
    (s.chan c).sameEnd ((s.judgePlayed c m).chan c) := by
  unfold State.judgePlayed State.playedInterval
  dsimp only
  split
  · exact ⟨rfl, rfl⟩
  · split
    · exact ⟨rfl, rfl⟩
    · split
      · have hdet (f : Channel → Detector) :
            (s.chan c).sameEnd ((s.modChan c fun ch => { ch with det := f ch }).chan c) := by
          rw [State.chan_modChan_same]
          exact ⟨rfl, rfl⟩
        obtain ⟨hholder, hloop⟩ := hdet _
        refine And.imp (Eq.trans · hholder) (Eq.trans · hloop) (State.toneDetected_sameEnd (.inr ?_) _ _ _)
        rw [State.chan_modChan_same]
        exact h
      · rw [State.chan_modChan_same]
        exact ⟨rfl, rfl⟩

/-- A tick makes a whole block current and is done (R53). -/
def Playout.begun (pe : Playout) : Prop := pe.tickDue = false ∧ ∃ block, pe.current = some ⟨block, 0⟩

theorem finishTick_begun (b : TickBlock) (ch : Channel) : (finishTick b ch).pe.begun := by
  unfold finishTick
  cases ch.mode <;> exact ⟨rfl, _, rfl⟩

theorem primingTick_begun (res : PerChan Nat) (c : Chan) (level : Nat) (x : ChanPool) :
    (primingTick res c level x).1.pe.begun := by
  unfold primingTick
  split
  · exact ⟨rfl, _, rfl⟩
  · split
    · exact ⟨rfl, _, rfl⟩
    · exact finishTick_begun _ _

theorem tickBlock_begun (res : PerChan Nat) (c : Chan) (level : Nat) (x : ChanPool) :
    (tickBlock res c level x).1.pe.begun := by
  unfold tickBlock
  split
  · exact finishTick_begun _ _
  · split
    · exact primingTick_begun res c level x
    · exact finishTick_begun _ _

theorem State.chooseBlock_ends {s : State} {c : Chan} (draining : (s.chan c).state = .draining)
    (empty : (s.chan c).pe.queue = []) : s.chooseBlock c = s.endDrain c .empty :=
  if_pos (by simp [draining, empty])

theorem State.chooseBlock_ticks {s : State} {c : Chan} (h : (s.chan c).state ≠ .draining ∨ (s.chan c).pe.queue ≠ []) :
    s.chooseBlock c = s.modChanPool c (tickBlock s.reserves c s.live.global.silenceLevel) := by
  refine if_neg ?_
  obtain h | h := h <;> simp [h]

/-- Settles O34: the judgement of the played block keeps what the drain's end and the tick look at. -/
theorem channelTickTaken : Obligations.ChannelTickTaken := by
  intro s c m ch
  refine ⟨fun h => ?early, fun live due => ?_⟩
  case early =>
    refine if_neg ?_
    obtain h | h := h <;> simp [Channel.tickTime, ch, h]
  have hexec : exec (.channelTick c m) s = .next ((s.judgePlayed c m).chooseBlock c) :=
    if_pos (by simp [Channel.tickTime, ch, live, due])
  obtain ⟨hstate, hpe, -⟩ := judgePlayed_same s c m c
  intro judged
  have hjudged : s.judgePlayed c m = judged := rfl
  rw [hjudged] at hexec hstate hpe
  refine ⟨fun draining empty => ?ends, fun h => ?ticks⟩
  case ends =>
    obtain ⟨hholder, hloop⟩ := State.judgePlayed_sameEnd draining m
    rw [hexec, State.chooseBlock_ends (by rw [hstate]; exact draining) (by rw [hpe]; exact empty), State.endDrain]
    have htime : judged.timebase = s.timebase := (State.judgePlayed_untouched s c m).1
    rw [← hjudged] at htime ⊢
    rw [hholder, hloop, htime]
  case ticks =>
    have hlive : judged.live = s.live := (State.judgePlayed_untouched s c m).2.2.2.2.2.2.1
    have hchoose : judged.chooseBlock c = judged.modChanPool c (tickBlock s.reserves c s.live.global.silenceLevel) := by
      rw [State.chooseBlock_ticks (by rw [hstate, hpe]; exact h), State.reserves, hlive]
      rfl
    rw [hexec, hchoose]
    exact ⟨rfl, tickBlock_begun _ _ _ _⟩

end Sys2Proof.Machine


namespace Sys2Proof.Machine

/-! ### The take (R54 to R56) -/

section
variable {res : PerChan Nat} {c : Chan} {ch : Channel} {b : Pool}

/-- No entry is the one the play pointer asks for. -/
def Playout.lacksNext (pe : Playout) : Prop := ∀ e ∈ pe.queue, ¬(e.epoch = pe.playEpoch ∧ e.seq = pe.nextPlay)

theorem Playout.atNextPlay_none {pe : Playout} (h : pe.lacksNext) : pe.atNextPlay = none :=
  List.find?_eq_none.mpr fun e he => by simpa using h e he

theorem Playout.atNextPlay_found {pe : Playout} {before after : List QEntry} {e : QEntry}
    (queue : pe.queue = before ++ e :: after) (epoch : e.epoch = pe.playEpoch) (seq : e.seq = pe.nextPlay)
    (first : ∀ x ∈ before, ¬(x.epoch = pe.playEpoch ∧ x.seq = pe.nextPlay)) : pe.atNextPlay = some e :=
  List.find?_eq_some_iff_append.mpr
    ⟨by simp [epoch, seq], before, after, queue, fun x hx => by simpa [imp_iff_not_or] using first x hx⟩

/-- The entry taken is the first of its epoch and number. -/
theorem eraseP_entry {before after : List QEntry} {e : QEntry}
    (first : ∀ x ∈ before, ¬(x.epoch = e.epoch ∧ x.seq = e.seq)) :
    (before ++ e :: after).eraseP (fun q => q.epoch == e.epoch && q.seq == e.seq) = before ++ after := by
  rw [List.eraseP_append_right _ fun x hx => by simpa using first x hx, List.eraseP_cons_of_pos (by simp)]

theorem takeBlock_found {e : QEntry} (h : ch.pe.atNextPlay = some e) :
    takeBlock res c (ch, b) = takeEntry res c e (ch, b) := by
  simp only [takeBlock, h]

theorem takeBlock_newer {e : QEntry} {rest : List QEntry} (queue : ch.pe.queue = e :: rest)
    (h : ∀ x ∈ e :: rest, x.epoch ≠ ch.pe.playEpoch) :
    takeBlock res c (ch, b) = takeEntry res c e (ch.playFrom e, b) := by
  have hnone : ch.pe.atNextPlay = none :=
    Playout.atNextPlay_none fun x hx hnext => h x (queue ▸ hx) hnext.1
  have hany : ¬ch.pe.queue.any (fun e => e.epoch == ch.pe.playEpoch) = true := by
    rw [queue, List.any_eq_true]
    rintro ⟨x, hx, hepoch⟩
    exact h x hx (by simpa using hepoch)
  simp only [takeBlock, hnone, hany, Bool.false_eq_true, if_false]
  rw [queue]
  rfl

/-- A block is missing (R55, R56): the asked-for entry is not there, and there is nothing newer to turn to. -/
theorem takeBlock_missing (h : ch.pe.lacksNext) (stays : ch.pe.queue = [] ∨ ∃ e ∈ ch.pe.queue, e.epoch = ch.pe.playEpoch) :
    takeBlock res c (ch, b) = ((missBlock ch).1, ((missBlock ch).2, b)) := by
  simp only [takeBlock, Playout.atNextPlay_none h]
  obtain empty | ⟨e, he, hepoch⟩ := stays
  · simp only [empty, List.any_nil, Bool.false_eq_true, if_false, List.head?_nil]
  · rw [if_pos (List.any_eq_true.mpr ⟨e, he, by simpa using hepoch⟩)]

end

theorem missBlock_data {ch : Channel} (data : ch.mode = .data) :
    missBlock ch
      = (⟨silence, 0, false, true⟩,
          { ch with
            pe := { ch.pe with missing := min 65535 (ch.pe.missing + 1), nextPlay := ch.pe.nextPlay + 1 }
            stats := { ch.stats with dataGap := bump ch.stats.dataGap } }) := by
  unfold missBlock stopAt
  rw [data, Nat.min_comm]

theorem missBlock_concealed {ch : Channel} {n : Nat} (voice : ch.mode = .voice) (count : min 65535 (ch.pe.missing + 1) = n)
    (few : n ≤ 3) :
    missBlock ch
      = (⟨conceal n ch.pe.lastPlayed, ch.pe.lastPeak * (4 - n) / 4, false, true⟩,
          { ch with
            pe := { ch.pe with missing := n, nextPlay := ch.pe.nextPlay + 1 }
            stats := { ch.stats with concealed := bump ch.stats.concealed } }) := by
  unfold missBlock stopAt
  rw [voice, Nat.min_comm, count]
  exact if_pos few

theorem missBlock_silent {ch : Channel} {n : Nat} (voice : ch.mode = .voice) (count : min 65535 (ch.pe.missing + 1) = n)
    (many : 4 ≤ n) :
    missBlock ch
      = (⟨silence, 0, false, true⟩,
          { ch with
            pe := { ch.pe with missing := n, nextPlay := ch.pe.nextPlay + 1 }
            stats := { ch.stats with silentFill := bump ch.stats.silentFill } }) := by
  unfold missBlock stopAt
  rw [voice, Nat.min_comm, count]
  exact if_neg (by omega)

/-- Settles O36: the entry at the play pointer, the first of a newer epoch, or a missing block by the mode and its
count. -/
theorem takeFindsOrMisses : Obligations.TakeFindsOrMisses := by
  intro res c ch b pe took n moved scaled k absent missing
  refine ⟨fun before e after queue epoch seq first => ?found, fun e rest queue newer => ?newer, fun miss data => ?data,
    fun miss voice few => ?concealed, fun miss voice many => ?silent⟩
  case found =>
    have herase : pe.queue.eraseP (fun q => q.epoch == e.epoch && q.seq == e.seq) = before ++ after := by
      rw [queue]
      exact eraseP_entry fun x hx => by rw [epoch, seq]; exact first x hx
    rw [takeBlock_found (Playout.atNextPlay_found queue epoch seq first)]
    change takeEntry res c e (ch, b) = took e (before ++ after) ch
    rw [← herase]
    rfl
  case newer =>
    have herase : pe.queue.eraseP (fun q => q.epoch == e.epoch && q.seq == e.seq) = rest := by
      rw [queue]
      exact eraseP_entry (before := []) fun x hx => absurd hx List.not_mem_nil
    have htru : (if e.epoch = pe.playEpoch then ch.tru else ch.tru.restart) = ch.tru.restart :=
      if_neg (newer e List.mem_cons_self)
    rw [takeBlock_newer queue newer]
    unfold takeEntry Channel.playFrom
    dsimp only
    rw [htru]
    change _ = took e rest _
    rw [← herase]
    rfl
  case data =>
    rw [takeBlock_missing miss.1 miss.2, missBlock_data data]
  case concealed =>
    rw [takeBlock_missing miss.1 miss.2, missBlock_concealed voice rfl few]
    rfl
  case silent =>
    rw [takeBlock_missing miss.1 miss.2, missBlock_silent voice rfl many]

end Sys2Proof.Machine


namespace Sys2Proof.Machine

/-! ### The end of a tick (R53, R57, R72) -/

/-- The channel once the return to PRIMING has been decided (R57, R59). -/
def Channel.reprimed (missed : Bool) (x : Channel) : Channel :=
  if x.state ≠ .draining ∧ missed = true ∧ x.pe.queue = [] ∧ (x.mode = .data ∨ 4 ≤ x.pe.missing) then
    { x with pe := { x.pe with playState := .priming } }
  else x

/-- The slip of a VOICE block (R72). -/
def Channel.slippedBy (mode : Mode) (block : List Sample) (x : Channel) : List Sample × Channel :=
  if mode = .voice then x.slip block else (block, x)

/-- The rest of a tick on the block it has found. -/
def endTick (r : TickBlock × ChanPool) : ChanPool :=
  let slipped := (r.2.1.reprimed r.1.missed).slippedBy r.2.1.mode r.1.samples
  (slipped.2.begin slipped.1 r.1.peak, r.2.2)

theorem rePrimes_iff {x : Channel} {b : TickBlock} (found : b.missed = true → b.supplied = false) :
    rePrimes x b = true
      ↔ x.state ≠ .draining ∧ b.missed = true ∧ x.pe.queue = [] ∧ (x.mode = .data ∨ 4 ≤ x.pe.missing) := by
  cases hmissed : b.missed with
  | false => simp [rePrimes, hmissed]
  | true => simp [rePrimes, hmissed, found hmissed, and_assoc]

theorem finishTick_eq {r : TickBlock × ChanPool} (found : r.1.missed = true → r.1.supplied = false) :
    (finishTick r.1 r.2.1, r.2.2) = endTick r := by
  have hprimed : (if rePrimes r.2.1 r.1 then { r.2.1 with pe := { r.2.1.pe with playState := .priming } } else r.2.1)
      = r.2.1.reprimed r.1.missed := by
    unfold Channel.reprimed
    simp only [rePrimes_iff found]
  unfold finishTick endTick Channel.slippedBy
  dsimp only
  rw [hprimed]
  cases r.2.1.mode <;> rfl

theorem missBlock_supplied (ch : Channel) : (missBlock ch).1.supplied = false := by
  unfold missBlock
  dsimp only
  split
  · rfl
  · split <;> rfl

theorem takeBlock_supplied (res : PerChan Nat) (c : Chan) (x : ChanPool) : (takeBlock res c x).1.supplied = false := by
  unfold takeBlock
  dsimp only
  split
  · rfl
  · split
    · exact missBlock_supplied _
    · split
      · rfl
      · exact missBlock_supplied _

theorem finishTick_take (res : PerChan Nat) (c : Chan) (x : ChanPool) :
    (finishTick (takeBlock res c x).1 (takeBlock res c x).2.1, (takeBlock res c x).2.2) = endTick (takeBlock res c x) :=
  finishTick_eq fun _ => takeBlock_supplied res c x

/-! ### A PLAYING or DRAINING tick (R53, R59, R74 to R77) -/

section
variable {res : PerChan Nat} {c : Chan} {level : Nat} {ch : Channel} {b : Pool}

theorem tickBlock_plays_on (h : ch.state = .draining ∨ ch.pe.playState = .playing) :
    tickBlock res c level (ch, b) = playingTick res c level (!ch.pe.freshRun) (ch, b) := by
  unfold tickBlock
  by_cases hdraining : ch.state = .draining
  · simp only [hdraining, beq_self_eq_true, if_true]
  · have hplaying := h.resolve_left hdraining
    have hbeq : (ch.state == .draining) = false := by simpa using hdraining
    simp only [hbeq, hplaying, Bool.false_eq_true, if_false]

theorem playingTick_unjudged : playingTick res c level false (ch, b) = endTick (takeBlock res c (ch, b)) := by
  unfold playingTick voiceSteps dataSteps
  simp only [Bool.false_and, Bool.false_eq_true, if_false]
  cases ch.mode <;> exact finishTick_take _ _ _

theorem playingTick_voice (voice : ch.mode = .voice) (judge : Bool) :
    playingTick res c level judge (ch, b)
      = (finishTick (voiceSteps res c level judge (ch, b)).1 (voiceSteps res c level judge (ch, b)).2.1,
          (voiceSteps res c level judge (ch, b)).2.2) := by
  simp only [playingTick, voice]

theorem playingTick_data (data : ch.mode = .data) (judge : Bool) :
    playingTick res c level judge (ch, b)
      = (finishTick (dataSteps res c judge (ch, b)).1 (dataSteps res c judge (ch, b)).2.1,
          (dataSteps res c judge (ch, b)).2.2) := by
  simp only [playingTick, data]

theorem playingTick_voice_takes (voice : ch.mode = .voice) (h : ¬ch.pe.outputPeak < level ∨ ch.tru.corr = 0) :
    playingTick res c level true (ch, b) = endTick (takeBlock res c (ch, b)) := by
  have hsteps : voiceSteps res c level true (ch, b) = takeBlock res c (ch, b) := by
    unfold voiceSteps
    obtain h | h := h
    · simp [h]
    · simp [h]
  rw [playingTick_voice voice, hsteps, finishTick_take]

theorem playingTick_voice_inserts (voice : ch.mode = .voice) (quiet : ch.pe.outputPeak < level) (h : 0 < ch.tru.corr) :
    playingTick res c level true (ch, b)
      = endTick ((insertSilence ch).1, ((insertSilence ch).2, b)) := by
  have hsteps : voiceSteps res c level true (ch, b) = ((insertSilence ch).1, ((insertSilence ch).2, b)) := by
    simp [voiceSteps, quiet, h]
  rw [playingTick_voice voice, hsteps]
  exact finishTick_eq fun hmissed => by cases hmissed

theorem playingTick_voice_skips (voice : ch.mode = .voice) (quiet : ch.pe.outputPeak < level) (h : ch.tru.corr < 0) :
    playingTick res c level true (ch, b) = endTick (takeBlock res c (skipNumber res c (ch, b))) := by
  have hsteps : voiceSteps res c level true (ch, b) = takeBlock res c (skipNumber res c (ch, b)) := by
    have hnot : ¬0 < ch.tru.corr := by omega
    simp [voiceSteps, quiet, h, hnot]
  rw [playingTick_voice voice, hsteps, finishTick_take]

/-- The queue lies below the band of a DATA channel (R77). -/
abbrev Channel.belowBand (ch : Channel) : Prop :=
  0 < ch.pe.queue.length ∧ ch.pe.queue.length + ch.settings.dataSlack < ch.settings.dataDepth

/-- The queue lies above the band of a DATA channel (R77). -/
abbrev Channel.aboveBand (ch : Channel) : Prop := ch.settings.dataDepth + ch.settings.dataSlack < ch.pe.queue.length

theorem dataSteps_eq :
    dataSteps res c true (ch, b)
      = if ch.belowBand then
          (⟨ch.pe.lastPlayed, ch.pe.lastPeak, true, false⟩,
            ({ ch with stats := { ch.stats with dataRepeat := bump ch.stats.dataRepeat } }, b))
        else if ch.aboveBand then takeBlock res c (skipOldest res c (ch, b))
        else takeBlock res c (ch, b) := by
  simp [dataSteps]

theorem playingTick_data_repeats (data : ch.mode = .data) (low : ch.belowBand) :
    playingTick res c level true (ch, b)
      = endTick (⟨ch.pe.lastPlayed, ch.pe.lastPeak, true, false⟩,
          ({ ch with stats := { ch.stats with dataRepeat := bump ch.stats.dataRepeat } }, b)) := by
  rw [playingTick_data data, dataSteps_eq, if_pos low]
  exact finishTick_eq fun hmissed => by cases hmissed

theorem playingTick_data_skips (data : ch.mode = .data) (high : ch.aboveBand) :
    playingTick res c level true (ch, b) = endTick (takeBlock res c (skipOldest res c (ch, b))) := by
  have hlow : ¬ch.belowBand := by omega
  rw [playingTick_data data, dataSteps_eq, if_neg hlow, if_pos high, finishTick_take]

theorem playingTick_data_takes (data : ch.mode = .data) (low : ¬ch.belowBand) (high : ¬ch.aboveBand) :
    playingTick res c level true (ch, b) = endTick (takeBlock res c (ch, b)) := by
  rw [playingTick_data data, dataSteps_eq, if_neg low, if_neg high, finishTick_take]

/-! ### A PRIMING tick (R51, R52) -/

theorem tickBlock_priming (other : ch.state ≠ .draining) (priming : ch.pe.playState = .priming) :
    tickBlock res c level (ch, b) = primingTick res c level (ch, b) := by
  have hbeq : (ch.state == .draining) = false := by simpa using other
  simp only [tickBlock, hbeq, priming, Bool.false_eq_true, if_false]

theorem primingTick_waits (h : ch.pe.queue.length < ch.primingTarget) :
    primingTick res c level (ch, b) = (ch.begin silence 0, b) := by
  unfold primingTick
  split
  · rfl
  · next e rest queue =>
    rw [if_pos]
    change ch.pe.queue = e :: rest at queue
    rw [← queue]
    exact h

/-- A channel that begins to play takes the oldest entry (R51). -/
def Channel.started (e : QEntry) (rest : List QEntry) (ch : Channel) : Channel :=
  { ch with
    pe :=
      { ch.pe with
        queue := rest, playEpoch := e.epoch, nextPlay := e.seq + 1, playState := .playing,
        afterOpen := false, missing := 0, lastPlayed := e.samples, lastPeak := e.peak }
    tru := if e.epoch = ch.pe.playEpoch then ch.tru else { ch.tru with window := none, fPrev := none } }

theorem primingTick_starts {e : QEntry} {rest : List QEntry} (queue : ch.pe.queue = e :: rest)
    (h : ch.primingTarget ≤ (e :: rest).length) :
    primingTick res c level (ch, b)
      = endTick (⟨e.samples, e.peak, false, false⟩, (ch.started e rest, b.giveBack res c)) := by
  have hstart : primingTick res c level (ch, b) = playingTick res c level false (ch.startPlaying e, b) := by
    unfold primingTick
    rw [queue]
    exact if_neg (Nat.not_lt.mpr h)
  have hfound : (ch.startPlaying e).pe.atNextPlay = some e :=
    Playout.atNextPlay_found (before := []) (after := rest) queue rfl rfl fun x hx => absurd hx List.not_mem_nil
  have htaken : takeEntry res c e (ch.startPlaying e, b)
      = (⟨e.samples, e.peak, false, false⟩, (ch.started e rest, b.giveBack res c)) := by
    have herase : ch.pe.queue.eraseP (fun q => q.epoch == e.epoch && q.seq == e.seq) = rest := by
      rw [queue]
      exact eraseP_entry (before := []) fun x hx => absurd hx List.not_mem_nil
    unfold takeEntry Channel.started
    rw [← herase]
    rfl
  rw [hstart, playingTick_unjudged, takeBlock_found hfound, htaken]

end

theorem skipNumber_eq (res : PerChan Nat) (c : Chan) (ch : Channel) (b : Pool) :
    skipNumber res c (ch, b)
      = let x : Channel :=
          { ch with
            tru := { ch.tru with corr := ch.tru.corr + 1 }
            stats := { ch.stats with corrSkip := bump ch.stats.corrSkip } }
        match ch.pe.atNextPlay with
        | none => ({ x with pe := { ch.pe with nextPlay := ch.pe.nextPlay + 1 } }, b)
        | some e =>
          ({ x with
              pe :=
                { ch.pe with
                  nextPlay := ch.pe.nextPlay + 1
                  queue := ch.pe.queue.eraseP fun y => y.epoch == e.epoch && y.seq == e.seq } }, b.giveBack res c) := by
  unfold skipNumber
  dsimp only
  cases ch.pe.atNextPlay <;> rfl

theorem skipOldest_cons {ch : Channel} {e : QEntry} {rest : List QEntry} (queue : ch.pe.queue = e :: rest)
    (res : PerChan Nat) (c : Chan) (b : Pool) :
    skipOldest res c (ch, b)
      = ({ ch with
            pe := { ch.pe with playEpoch := e.epoch, nextPlay := e.seq + 1, queue := rest }
            tru := if e.epoch = ch.pe.playEpoch then ch.tru else { ch.tru with window := none, fPrev := none }
            stats := { ch.stats with dataSkip := bump ch.stats.dataSkip } }, b.giveBack res c) := by
  unfold skipOldest
  rw [queue]
  rfl

end Sys2Proof.Machine


namespace Sys2Proof.Machine

/-- Settles O35: a PRIMING tick by its target, and the others by the correction each makes. -/
theorem ticksTaken : Obligations.TicksTaken := by
  refine ⟨fun res c level ch b other priming => ⟨fun few => ?waits, fun e rest queue enough => ?starts⟩,
    fun res c level ch b plays => ?_⟩
  case waits =>
    rw [tickBlock_priming other priming]
    refine primingTick_waits (few.trans_le (Nat.le_of_eq ?_))
    unfold Channel.primingTarget
    cases ch.mode <;> rfl
  case starts =>
    have htarget : ch.primingTarget ≤ (e :: rest).length := by
      refine Nat.le_trans (Nat.le_of_eq ?_) enough
      unfold Channel.primingTarget
      cases ch.mode <;> rfl
    rw [tickBlock_priming other priming, primingTick_starts queue htarget]
    have hreprimed : (ch.started e rest).reprimed false = ch.started e rest := if_neg (by simp)
    unfold endTick
    dsimp only
    rw [hreprimed]
    rfl
  intro pe quiet q low high finish skipped tick judges
  have htick : tick = playingTick res c level (!pe.freshRun) (ch, b) := tickBlock_plays_on plays
  have hjudged (h : judges) : tick = playingTick res c level true (ch, b) := by
    rw [htick, show pe.freshRun = false from h]
    rfl
  have hfinish (r : TickBlock × ChanPool) : finish r = endTick r := rfl
  simp only [hfinish]
  refine ⟨fun h => ?unjudged, fun h voice calm => ?calm, fun h voice hquiet insert => ?insert,
    fun h voice hquiet skip => ?skip, fun h data hlow => ?again, fun e rest h data hhigh queue => ?oldest,
    fun h data hlow hhigh => ?inBand⟩
  case unjudged =>
    have hfresh : pe.freshRun = true := by simpa [judges] using h
    rw [htick, hfresh]
    exact playingTick_unjudged
  case calm => exact (hjudged h).trans (playingTick_voice_takes voice calm)
  case insert => exact (hjudged h).trans (playingTick_voice_inserts voice hquiet insert)
  case skip =>
    refine (hjudged h).trans ((playingTick_voice_skips voice hquiet skip).trans ?_)
    rw [skipNumber_eq]
    change _ = endTick (takeBlock res c (skipped pe.atNextPlay))
    cases pe.atNextPlay <;> rfl
  case again => exact (hjudged h).trans (playingTick_data_repeats data hlow)
  case oldest =>
    refine (hjudged h).trans ((playingTick_data_skips data hhigh).trans ?_)
    rw [skipOldest_cons queue]
  case inBand => exact (hjudged h).trans (playingTick_data_takes data hlow hhigh)

end Sys2Proof.Machine


namespace Sys2Proof.Machine

/-! ### The measurement window (R62 to R69) -/

section
variable {set : ChannelSettings} {q : Nat} {stamp now : Word} {t : Timing} {w : Window}

theorem Timing.take_opens (h : t.window = none) :
    t.take set q stamp now = ({ t with window := some (.opened set stamp (now - stamp)) }, false) := by
  simp only [Timing.take, h]

theorem Timing.take_joins (h : t.window = some w) (inside : stampDist w.w0 stamp < w.span) :
    t.take set q stamp now = ({ t with window := some (w.join (now - stamp)) }, false) := by
  simp only [Timing.take, h, Int.not_le.mpr inside, if_false]

theorem Timing.take_closes (h : t.window = some w) (reached : (w.span : Int) ≤ stampDist w.w0 stamp) :
    t.take set q stamp now
      = ({ (t.close set q w (stampDist w.w0 stamp)).1 with window := some (.opened set stamp (now - stamp)) },
          (t.close set q w (stampDist w.w0 stamp)).2) := by
  simp only [Timing.take, h, reached, if_true]

variable {span : Int} {floor : Word}

theorem driftDecision_first (h : t.fPrev = none) : driftDecision set w span floor t = (t.est, false) := by
  simp only [driftDecision, h]

theorem driftDecision_rejected {f : Word} (h : t.fPrev = some f)
    (bad : 4 * (w.span : Int) ≤ span ∨ 1000 < (driftFigure f floor span).natAbs) :
    driftDecision set w span floor t = (t.est, true) := by
  simp only [driftDecision, h]
  by_cases hlong : 4 * (w.span : Int) ≤ span
  · exact if_pos hlong
  · rw [if_neg hlong, if_pos (bad.resolve_left hlong)]

theorem driftDecision_taken {f : Word} (h : t.fPrev = some f) (short : span < 4 * (w.span : Int))
    (small : (driftFigure f floor span).natAbs ≤ 1000) :
    driftDecision set w span floor t = (smoothed t.est (driftFigure f floor span) set.smoothing, false) := by
  simp only [driftDecision, h]
  rw [if_neg (Int.not_le.mpr short), if_neg (Nat.not_lt.mpr small)]

end

/-- Settles O37: a window opened, joined or closed, and the decision on drift at the close. -/
theorem windowsMeasured : Obligations.WindowsMeasured := by
  refine ⟨fun ch stamp now => rfl, fun set q stamp now t => ?_⟩
  intro transit opened
  refine ⟨fun h => Timing.take_opens h, fun w hw => ?_⟩
  intro span rel floor target closed
  have hclose (reached : (w.span : Int) ≤ span) (r : Int × Bool) (hr : driftDecision set w span floor t = r) :
      t.take set q stamp now = (closed r.1, r.2) := by
    rw [Timing.take_closes hw reached, Timing.close]
    change _ = _ at hr
    dsimp only
    rw [show driftDecision set w (stampDist w.w0 stamp) (w.t0 + BitVec.ofInt 32 w.minRel) t = r from hr]
    rfl
  refine ⟨fun inside => Timing.take_joins hw inside, fun reached first => hclose reached _ (driftDecision_first first),
    fun f reached hf => ?_⟩
  intro d
  exact ⟨fun bad => hclose reached _ (driftDecision_rejected hf bad),
    fun short small => hclose reached _ (driftDecision_taken hf short small)⟩

/-! ### The arithmetic of the spec (00_scope.md, R47, R72, R150) -/

theorem roundDiv_near (a : Int) {b : Nat} (h : 0 < b) :
    2 * (a - b * roundDiv a b).natAbs ≤ b
      ∧ (2 * (a - b * roundDiv a b).natAbs = b → a.natAbs ≤ b * (roundDiv a b).natAbs) := by
  have hlow : 2 * b * ((2 * a.natAbs + b) / (2 * b)) ≤ 2 * a.natAbs + b := Nat.mul_div_le _ _
  have hhigh : 2 * a.natAbs + b < 2 * b * ((2 * a.natAbs + b) / (2 * b)) + 2 * b :=
    Nat.lt_mul_div_succ _ (by omega)
  unfold roundDiv
  generalize (2 * a.natAbs + b) / (2 * b) = k at hlow hhigh
  rw [Nat.mul_assoc] at hlow hhigh
  have hprod : (b : Int) * (k : Int) = ((b * k : Nat) : Int) := (Int.natCast_mul b k).symm
  dsimp only
  split
  · rw [Int.mul_neg, hprod, Int.natAbs_neg, Int.natAbs_natCast]
    omega
  · rw [hprod, Int.natAbs_natCast]
    omega

theorem ceilDiv_near (a : Nat) {b : Nat} (h : 0 < b) : a ≤ b * ceilDiv a b ∧ b * ceilDiv a b < a + b := by
  have hlow : b * ((a + b - 1) / b) ≤ a + b - 1 := Nat.mul_div_le _ _
  have hhigh : a + b - 1 < b * ((a + b - 1) / b) + b := Nat.lt_mul_div_succ _ h
  unfold ceilDiv
  omega

theorem saturate_toInt (v : Int) : (saturate v).toInt = max (-32768) (min 32767 v) := by
  unfold saturate clampInt
  rw [BitVec.toInt_ofInt]
  exact Int.bmod_eq_of_le (by omega) (by omega)

theorem bumpBy_toNat (k : Word) (n : Nat) : (bumpBy k n).toNat = min (k.toNat + n) 4294967295 := by
  rw [bumpBy, BitVec.toNat_ofNat]
  exact Nat.mod_eq_of_lt (by omega)

/-- The largest magnitude so far, with every sample at most it and one sample, or the start, equal to it. -/
theorem peak_fold (samples : List Sample) (start : Nat) :
    let r := samples.foldl (fun m x => max m x.toInt.natAbs) start
    start ≤ r ∧ (∀ v ∈ samples, v.toInt.natAbs ≤ r) ∧ (r = start ∨ ∃ v ∈ samples, v.toInt.natAbs = r) := by
  induction samples generalizing start with
  | nil => exact ⟨Nat.le_refl _, fun v hv => absurd hv List.not_mem_nil, .inl rfl⟩
  | cons x rest ih =>
    obtain ⟨hstart, hall, hsome⟩ := ih (max start x.toInt.natAbs)
    rw [List.foldl_cons]
    refine ⟨Nat.le_trans (Nat.le_max_left _ _) hstart, fun v hv => ?_, ?_⟩
    · obtain rfl | hv := List.mem_cons.mp hv
      · exact Nat.le_trans (Nat.le_max_right _ _) hstart
      · exact hall v hv
    · obtain hsame | ⟨v, hv, hpeak⟩ := hsome
      · rw [hsame]
        by_cases hx : x.toInt.natAbs ≤ start
        · exact .inl (Nat.max_eq_left hx)
        · exact .inr ⟨x, List.mem_cons_self, (Nat.max_eq_right (Nat.le_of_not_le hx)).symm⟩
      · exact .inr ⟨v, List.mem_cons_of_mem x hv, hpeak⟩

theorem peakOf_reached {samples : List Sample} (h : samples ≠ []) : ∃ v ∈ samples, v.toInt.natAbs = peakOf samples := by
  obtain ⟨-, hall, hsome⟩ := peak_fold samples 0
  obtain hzero | hsome := hsome
  · obtain ⟨v, hv⟩ := List.exists_mem_of_ne_nil samples h
    have hle := hall v hv
    exact ⟨v, hv, by unfold peakOf; omega⟩
  · exact hsome

/-- Settles O38: the slip at each limit, and each operation of the arithmetic by its bounds. -/
theorem slipsAndRounding : Obligations.SlipsAndRounding := by
  refine ⟨fun block last ch => ?_, fun a b h => roundDiv_near a h, fun a b h => ceilDiv_near a h, saturate_toInt,
    fun x gain => saturate_toInt _, fun k n => ⟨bumpBy_toNat k n, rfl⟩,
    fun samples => ⟨(peak_fold samples 0).2.1, peakOf_reached⟩⟩
  intro acc
  refine ⟨fun high => ?_, fun low => ?_, fun low high => ?_⟩
  · rw [Channel.slip, if_pos high, List.dropLast_concat]
  · have hnot : ¬1000000 ≤ acc := by omega
    rw [Channel.slip, if_neg hnot, if_pos low, List.getLastD_concat, List.append_assoc]
    rfl
  · have hhigh : ¬1000000 ≤ acc := by omega
    have hlow : ¬acc ≤ -1000000 := by omega
    rw [Channel.slip, if_neg hhigh, if_neg hlow]

end Sys2Proof.Machine


namespace Sys2Proof.Machine

/-! ### The bridge (R81, R151) -/

theorem saturate_sample (x : Sample) : saturate x.toInt = x := by
  refine BitVec.eq_of_toInt_eq ?_
  have hlow := BitVec.le_toInt x
  have hhigh := BitVec.toInt_lt (x := x)
  rw [saturate_toInt]
  omega

/-- A sum over the channels to which at most one contributes. -/
theorem sum_chanAll {f : Chan → Int} {d : Chan} (h : ∀ k, k ≠ d → f k = 0) : (Chan.all.map f).sum = f d := by
  have h0 := h .c0
  have h1 := h .c1
  have h2 := h .c2
  have h3 := h .c3
  cases d <;> simp_all

/-- What a channel's output gives to the bridge of another (R151). -/
def bridgeFrom (s : State) (c : Chan) (x : MixSample) (d : Chan) : Int :=
  if d = c then 0
  else
    match x.outs.get d with
    | none => 0
    | some o => o.given (s.chan d).voice

theorem bridge_eq (s : State) (c : Chan) (x : MixSample) : bridge s c x = (Chan.all.map (bridgeFrom s c x)).sum := rfl

theorem bridge_silent {s : State} {c : Chan} {x : MixSample}
    (muted : ∀ d, d ≠ c → ∀ o, x.outs.get d = some o → o.left.getD (s.chan d).voice = .muted) : bridge s c x = 0 := by
  rw [bridge_eq, sum_chanAll (d := c)]
  · exact if_pos rfl
  · intro d hd
    unfold bridgeFrom
    rw [if_neg hd]
    split
    · rfl
    · next o ho =>
      unfold ChanOut.given
      rw [muted d hd o ho]
      rfl

theorem bridge_one {s : State} {c d : Chan} {x : MixSample} (other : d ≠ c)
    (none : ∀ k, k ≠ c → k ≠ d → x.outs.get k = none) :
    bridge s c x
      = match x.outs.get d with
        | some o => if o.left.getD (s.chan d).voice = .voiced then o.sample.toInt else 0
        | .none => 0 := by
  rw [bridge_eq, sum_chanAll (d := d)]
  · unfold bridgeFrom
    rw [if_neg other]
    cases x.outs.get d <;> rfl
  · intro k hk
    unfold bridgeFrom
    split
    · rfl
    · next hc => rw [none k hc hk]

/-! ### The samples of an uplink block (R81) -/

section
variable {s : State} {c : Chan} {blk : ClosedBlock}

theorem uplinkSamples_muted (h : (s.chan c).voice = .muted) : uplinkSamples s c blk = silence := if_pos h

theorem uplinkSamples_suppressed (suppress : (s.chan c).settings.suppressDigits = true)
    (present : (s.loop (s.chan c).loop).dtmf.present = true) : uplinkSamples s c blk = silence := by
  unfold uplinkSamples
  dsimp only
  split
  · rfl
  · exact if_pos (by rw [suppress, present]; rfl)

theorem uplinkSamples_mix (voiced : (s.chan c).voice = .voiced)
    (heard : (s.chan c).settings.suppressDigits = false ∨ (s.loop (s.chan c).loop).dtmf.present = false) :
    uplinkSamples s c blk = blk.mix.map fun x => saturate (x.u.toInt + bridge s c x) := by
  have hmuted : ¬(s.chan c).voice = .muted := by rw [voiced]; decide
  have hsuppress : ¬((s.chan c).settings.suppressDigits && (s.loop (s.chan c).loop).dtmf.present) = true := by
    obtain h | h := heard <;> simp [h]
  unfold uplinkSamples
  dsimp only
  rw [if_neg hmuted, if_neg hsuppress]

theorem closeForChannel_waits (m : Option IntervalMeasure) {first : Word} (hfirst : (s.chan c).uf.firstBlock = some first)
    (early : reached blk.start first = false) : State.closeForChannel blk m s c = s := by
  refine if_neg ?_
  simp only [Channel.builds, hfirst, early, Bool.false_eq_true, not_false_eq_true]

theorem closeForChannel_builds (m : Option IntervalMeasure)
    (h : ∀ first, (s.chan c).uf.firstBlock = some first → reached blk.start first = true) :
    State.closeForChannel blk m s c
      = (s.modChan c (·.build blk.start (uplinkSamples s c blk))).loopInterval c
          (judgeInterval m (loopPathSamples (s.chan c) blk)) 80 blk.next := by
  refine if_pos ?_
  unfold Channel.builds
  split
  · rfl
  · next first hfirst => exact h first hfirst

end

/-! ### The history ring (R83) -/

section
variable {ch : Channel} (e : HEntry)

theorem Channel.putHistory_room (h : ch.uf.ring.length < ch.uf.ringSize) :
    ch.putHistory e = { ch with uf := { ch.uf with ring := ch.uf.ring ++ [e] } } := if_pos h

theorem Channel.putHistory_full {oldest : HEntry} {rest : List HEntry} (ring : ch.uf.ring = oldest :: rest)
    (full : ch.uf.ringSize ≤ ch.uf.ring.length) :
    ch.putHistory e
      = if ch.uf.unsent oldest then
          { ch with
            uf := { ch.uf with ring := rest ++ [e], sendPtr := oldest.seq + 1 }
            stats := { ch.stats with historyLost := bump ch.stats.historyLost } }
        else { ch with uf := { ch.uf with ring := rest ++ [e] } } := by
  unfold Channel.putHistory
  dsimp only
  rw [if_neg (Nat.not_lt.mpr full), ring]

end

/-- Settles O39: the fan-out of a close, each channel's block by its flags, and the ring by its oldest entry. -/
theorem uplinkBlocksBuiltAndKept : Obligations.UplinkBlocksBuiltAndKept := by
  refine ⟨fun s l m => ⟨fun none => ?none, fun blk closed => ⟨?fanOut, fun t c => ?_⟩⟩, fun ch e => ?ring⟩
  case none => simp only [exec, execLoopBlockClose, none]
  case fanOut =>
    simp only [exec, execLoopBlockClose, closed] <;> rfl
  case ring =>
    refine ⟨fun room => Channel.putHistory_room e room, fun oldest rest ring full => ⟨fun sent => ?_, fun unsent => ?_⟩⟩
    · have hsent : ¬ch.uf.unsent oldest = true := by simpa [Framer.unsent, seqDist] using sent
      rw [Channel.putHistory_full e ring full, if_neg hsent]
    · have hunsent : ch.uf.unsent oldest = true := by simpa [Framer.unsent, seqDist] using unsent
      rw [Channel.putHistory_full e ring full, if_pos hunsent]
  intro ch e path
  refine ⟨fun first hfirst early => closeForChannel_waits m hfirst early, fun h => ?builds, uplinkSamples_muted,
    uplinkSamples_suppressed, fun voiced heard muted => ?alone, fun d voiced heard other none => ?bridged⟩
  case builds =>
    have hpath : loopPathSamples (t.chan c) blk = path := by
      change _ = if (t.chan c).voice = .voiced then blk.mix.map (·.u) else silence
      unfold loopPathSamples
      cases (t.chan c).voice <;> rfl
    rw [closeForChannel_builds m h, hpath]
    exact congrArg (fun u : State => u.loopInterval c (judgeInterval m path) 80 blk.next) (State.modChan_congr rfl)
  case alone =>
    rw [uplinkSamples_mix voiced heard]
    refine List.map_congr_left fun x hx => ?_
    rw [bridge_silent fun d hd o ho => muted d hd x hx o ho, Int.add_zero, saturate_sample]
  case bridged =>
    rw [uplinkSamples_mix voiced heard]
    refine List.map_congr_left fun x hx => ?_
    have hbridge := bridge_one (s := t) (x := x) other fun k hc hd => none k hc hd x hx
    exact congrArg (fun b => saturate (x.u.toInt + b)) (hbridge.trans (by cases x.outs.get d <;> rfl))

end Sys2Proof.Machine


namespace Sys2Proof.Machine

/-! ### Who speaks for a loop (07, "Loop requests and the loop's authority") -/

/-- The port is the holder, or the recorded holder, of the loop's lead. -/
def State.LeadHeldBy (s : State) (l : Loop) (p : Port) : Prop := ∃ c, s.leadOf l = some c ∧ (s.chan c).heldBy p = true

theorem State.speaksFor_iff (s : State) (l : Loop) (p : Port) : s.speaksFor l p = true ↔ s.LeadHeldBy l p := by
  unfold State.speaksFor State.LeadHeldBy
  cases s.leadOf l <;> simp

theorem State.authority_iff (s : State) (l : Loop) (p : Port) :
    s.authority l p = true ↔ s.leadOf l = none ∨ s.LeadHeldBy l p := by
  unfold State.authority
  rw [Bool.or_eq_true, Option.isNone_iff_eq_none, State.speaksFor_iff]

theorem State.authority_of {s : State} {l : Loop} {p : Port} (h : s.leadOf l = none ∨ s.LeadHeldBy l p) :
    s.authority l p = true := (State.authority_iff s l p).mpr h

theorem State.no_authority_of {s : State} {l : Loop} {p : Port} (h : ¬(s.leadOf l = none ∨ s.LeadHeldBy l p)) :
    s.authority l p = false := Bool.eq_false_iff.mpr fun ha => h ((State.authority_iff s l p).mp ha)

/-! ### POLARITY and GAIN (R109, R152) -/

/-- The encoding of a polarity (R199). -/
def Polarity.byte (d : Polarity) : Byte := if d = .normal then 0 else 1

theorem Polarity.ofByte_byte (d : Polarity) : Polarity.ofByte d.byte = some d := by cases d <;> rfl

section
variable {s : State} {p : Port} {tag : Byte} {l : Loop}

theorem polarityBody_stores (speaks : s.LeadHeldBy l p) (d : Polarity) :
    polarityBody p tag [Loop.byte l, d.byte] s = (s.modLoop l fun x => { x with polarity := d }).accept p tag [] := by
  simp only [polarityBody, Loop.ofByte_byte, Polarity.ofByte_byte, (State.speaksFor_iff s l p).mpr speaks, if_true]

theorem polarityBody_notHolder (mute : ¬s.LeadHeldBy l p) (d : Polarity) :
    polarityBody p tag [Loop.byte l, d.byte] s = s.refuse p tag .notHolder := by
  have hspeaks : ¬s.speaksFor l p = true := fun h => mute ((State.speaksFor_iff s l p).mp h)
  simp only [polarityBody, Loop.ofByte_byte, Polarity.ofByte_byte, if_neg hspeaks]

theorem polarityBody_badParam {a b : Byte} (h : 2 ≤ a.toNat ∨ 2 ≤ b.toNat) (s : State) :
    polarityBody p tag [a, b] s = s.refuse p tag .badParam := by
  unfold polarityBody
  dsimp only
  split
  · next hl hd =>
    obtain h | h := h
    · rw [Loop.ofByte_none h] at hl; cases hl
    · rw [Polarity.ofByte_none h] at hd; cases hd
  · rfl

/-- The live settings of a loop with its two gains replaced (R152). -/
def State.withGains (s : State) (l : Loop) (rx tx : Nat) : State :=
  s.modLoopSet l fun x => { x with rxGain := rx, txGain := tx }

theorem State.counted_withGains (s : State) (p : Port) (rx tx : Nat) :
    (s.withGains l rx tx).counted p = (s.counted p).withGains l rx tx := rfl

theorem gainBody_stores (may : s.leadOf l = none ∨ s.LeadHeldBy l p) (r1 r0 t1 t0 : Byte) :
    gainBody p tag [Loop.byte l, r1, r0, t1, t0] s
      = (s.withGains l (clampNat 0 1024 (half r1 r0).toNat) (clampNat 0 1024 (half t1 t0).toNat)).acceptClamped p tag
          (clampNat 0 1024 (half r1 r0).toNat != (half r1 r0).toNat
            || clampNat 0 1024 (half t1 t0).toNat != (half t1 t0).toNat)
          (nat16 (clampNat 0 1024 (half r1 r0).toNat) ++ nat16 (clampNat 0 1024 (half t1 t0).toNat)) := by
  simp only [gainBody, Loop.ofByte_byte, State.authority_of may, Bool.not_true, Bool.false_eq_true, if_false,
    State.withGains]

theorem gainBody_notHolder (mayNot : ¬(s.leadOf l = none ∨ s.LeadHeldBy l p)) (r1 r0 t1 t0 : Byte) :
    gainBody p tag [Loop.byte l, r1, r0, t1, t0] s = s.refuse p tag .notHolder := by
  simp only [gainBody, Loop.ofByte_byte, State.no_authority_of mayNot, Bool.not_false, if_true]

theorem gainBody_badParam {a : Byte} (h : 2 ≤ a.toNat) (r1 r0 t1 t0 : Byte) (s : State) :
    gainBody p tag [a, r1, r0, t1, t0] s = s.refuse p tag .badParam := by
  simp only [gainBody, Loop.ofByte_none h]

end

/-- A loop changed and the request accepted: the reply goes behind the change. -/
theorem State.modLoop_accept_counted (s : State) (p : Port) (tag : Byte) (l : Loop) (f : LoopState → LoopState)
    (results : List Byte) :
    ((s.counted p).modLoop l f).accept p tag results = (s.modLoop l f).replied p (acceptance tag results) := by
  rw [← State.counted_modLoop, State.accept_counted]

/-- Settles O40: both requests by who speaks for the loop and by what their bytes name. -/
theorem polarityAndGainStored : Obligations.PolarityAndGainStored := by
  intro s p tag l ready speaks
  refine ⟨fun d => ⟨fun h => ?_, fun h => ?_⟩, fun a b h => ?_,
    fun r1 r0 t1 t0 => ⟨fun h => ?_, fun lead h => ?_⟩, fun a r1 r0 t1 t0 h => ?_⟩
  · rw [exec_polarityReq_ready ready]
    exact congrArg _ ((polarityBody_stores (s := s.counted p) h d).trans (State.modLoop_accept_counted s p tag l _ _))
  · rw [exec_polarityReq_ready ready]
    exact congrArg _ ((polarityBody_notHolder (s := s.counted p) h d).trans (State.refuse_counted s p tag _))
  · rw [exec_polarityReq_ready ready, polarityBody_badParam h, State.refuse_counted]
  · rw [exec_gainReq_ready ready, gainBody_stores (s := s.counted p) h, ← State.counted_withGains,
      State.acceptClamped_counted, clampNat_zero, clampNat_zero]
    rfl
  · have hmay : ¬((s.counted p).leadOf l = none ∨ (s.counted p).LeadHeldBy l p) := not_or.mpr ⟨lead, h⟩
    rw [exec_gainReq_ready ready, gainBody_notHolder hmay, State.refuse_counted]
  · rw [exec_gainReq_ready ready, gainBody_badParam h, State.refuse_counted]

end Sys2Proof.Machine


namespace Sys2Proof.Machine

/-! ### DENY and the end of a denial (R110, R111) -/

section
variable {s : State} {p : Port} {tag : Byte} {l : Loop} (d1 d0 : Byte)

theorem denyBody_denies (may : s.leadOf l = none ∨ s.LeadHeldBy l p)
    (free : (s.loop l).feed = .idle ∨ (s.loop l).feed = .active) :
    denyBody p tag [Loop.byte l, d1, d0] s
      = (s.deny l (clampNat 100 2000 (half d1 d0).toNat)).acceptClamped p tag
          (clampNat 100 2000 (half d1 d0).toNat != (half d1 d0).toNat)
          (nat16 (clampNat 100 2000 (half d1 d0).toNat)) := by
  simp only [denyBody, Loop.ofByte_byte, State.authority_of may, Bool.not_true, Bool.false_eq_true, if_false]
  obtain h | h := free <;> rw [h]

theorem denyBody_busy (may : s.leadOf l = none ∨ s.LeadHeldBy l p)
    (taken : ¬((s.loop l).feed = .idle ∨ (s.loop l).feed = .active)) :
    denyBody p tag [Loop.byte l, d1, d0] s = s.refuse p tag .busy := by
  simp only [denyBody, Loop.ofByte_byte, State.authority_of may, Bool.not_true, Bool.false_eq_true, if_false]
  split
  · next h => exact absurd (Or.inl h) taken
  · next h => exact absurd (Or.inr h) taken
  · rfl

theorem denyBody_notHolder (mayNot : ¬(s.leadOf l = none ∨ s.LeadHeldBy l p)) :
    denyBody p tag [Loop.byte l, d1, d0] s = s.refuse p tag .notHolder := by
  simp only [denyBody, Loop.ofByte_byte, State.no_authority_of mayNot, Bool.not_false, if_true]

theorem denyBody_badParam {b : Byte} (h : 2 ≤ b.toNat) (s : State) :
    denyBody p tag [b, d1, d0] s = s.refuse p tag .badParam := by
  simp only [denyBody, Loop.ofByte_none h]

end

theorem State.deny_eq (s : State) (l : Loop) (ms : Nat) :
    s.deny l ms = s.modLoop l fun x =>
      { x with
        feed := .denied
        denyEnd := s.timebase + msSpan ms
        hook := if x.hook = .brk then .offhook else x.hook
        pulses := 0
        dtmf := .quiet } := by
  refine State.modLoop_congr ?_
  unfold LoopState.enterDenied
  cases (s.loop l).hook <;> rfl

theorem LoopState.denialEnded_offhook {x : LoopState} (h : x.hook = .offhook) (now : Word) (threshold : Nat) :
    x.denialEnded now threshold
      = { x with
          feed := .active, dtmf := .quiet, ringSignal := false, raw := judgeRaw threshold x.current, rawEdge := now } := by
  cases x
  cases h
  rfl

theorem LoopState.denialEnded_onhook {x : LoopState} (h : x.hook = .onhook) (now : Word) (threshold : Nat) :
    x.denialEnded now threshold
      = { x with
          feed := .idle, polarity := .normal, pulses := 0, dtmf := .quiet, ringSignal := false,
          raw := judgeRaw threshold x.current, rawEdge := now } := by
  cases x
  cases h
  rfl

section
variable {s : State} {l : Loop}

theorem execDenyEnd_ends (denied : (s.loop l).feed = .denied) (past : reached s.timebase (s.loop l).denyEnd = true) :
    execDenyEnd l s = .next (s.modLoop l (·.denialEnded s.timebase (s.loopSet l).hookThreshold)) :=
  if_pos (by rw [denied, past]; rfl)

theorem execDenyEnd_waits (h : (s.loop l).feed ≠ .denied ∨ reached s.timebase (s.loop l).denyEnd = false) :
    execDenyEnd l s = .next s := by
  refine if_neg ?_
  obtain h | h := h <;> simp [h]

end

/-! ### A change of the loop current (R112, R113) -/

section
variable {x : LoopState} (now : Word) (threshold : Nat)

theorem LoopState.judge_denied (h : x.feed = .denied) : x.judge now threshold = x := if_pos (by rw [h]; rfl)

theorem LoopState.judge_same (h : x.feed ≠ .denied) (same : judgeRaw threshold x.current = x.raw) :
    x.judge now threshold = x := by
  unfold LoopState.judge
  rw [if_neg (by simpa using h), if_pos same]

theorem LoopState.judge_edge (h : x.feed ≠ .denied) (edge : judgeRaw threshold x.current ≠ x.raw) :
    x.judge now threshold = { x with raw := judgeRaw threshold x.current, rawEdge := now } := by
  unfold LoopState.judge
  rw [if_neg (by simpa using h), if_neg edge]

end

/-- Settles O41: DENY by the requester's authority and the feed, the denial's end by the hook held, and a current by
the feed and the raw state it is judged for. -/
theorem denialsAndCurrents : Obligations.DenialsAndCurrents := by
  refine ⟨fun s p tag d1 d0 ready => ⟨fun b h => ?_, fun l => ⟨fun h => ?_, fun may h => ?_, fun may free => ?_⟩⟩,
    fun s l microamps => ⟨execDenyEnd_waits, fun denied past held => ?_, fun denied past held => ?_,
      fun denied => ?_, fun fed same => ?_, fun fed edge => ?_⟩⟩
  · rw [exec_denyReq_ready ready, denyBody_badParam d1 d0 h, State.refuse_counted]
  · exact (exec_denyReq_ready ready _ _).trans
      (congrArg _ ((denyBody_notHolder (s := s.counted p) d1 d0 h).trans (State.refuse_counted s p tag _)))
  · exact (exec_denyReq_ready ready _ _).trans
      (congrArg _ ((denyBody_busy (s := s.counted p) d1 d0 may h).trans (State.refuse_counted s p tag _)))
  · refine (exec_denyReq_ready ready _ _).trans (congrArg _
      ((denyBody_denies (s := s.counted p) d1 d0 may free).trans ?_))
    rw [State.deny_eq, ← State.counted_modLoop, State.acceptClamped_counted]
    rfl
  · refine (execDenyEnd_ends denied past).trans (congrArg _ (State.modLoop_congr ?_))
    exact LoopState.denialEnded_offhook held _ _
  · refine (execDenyEnd_ends denied past).trans (congrArg _ (State.modLoop_congr ?_))
    exact LoopState.denialEnded_onhook held _ _
  · exact congrArg _ (State.modLoop_congr
      (LoopState.judge_denied (x := { s.loop l with current := microamps }) _ _ denied))
  · exact congrArg _ (State.modLoop_congr
      (LoopState.judge_same (x := { s.loop l with current := microamps }) _ _ fed same))
  · exact congrArg _ (State.modLoop_congr
      (LoopState.judge_edge (x := { s.loop l with current := microamps }) _ _ fed edge))

end Sys2Proof.Machine


namespace Sys2Proof.Machine

/-! ### What a routed notice leaves of the loop's lead (R6, R25) -/

/-- A loop's lead is read from the states, loops and lead flags of the channels. -/
theorem State.leadOf_congr {s t : State} (l : Loop)
    (h : ∀ c, (t.chan c).state = (s.chan c).state ∧ (t.chan c).loop = (s.chan c).loop ∧ (t.chan c).lead = (s.chan c).lead) :
    t.leadOf l = s.leadOf l := by
  have hattached (c : Chan) : (t.chan c).attachedTo l = (s.chan c).attachedTo l := by
    obtain ⟨hstate, hloop, -⟩ := h c
    rw [Channel.attachedTo, hstate, hloop, Channel.attachedTo]
  have hlead : (fun c => (t.chan c).lead) = fun c => (s.chan c).lead := funext fun c => (h c).2.2
  unfold State.leadOf State.attached
  rw [hlead, funext hattached]

theorem State.leadOf_of_chans {s t : State} (h : t.chans = s.chans) (l : Loop) : t.leadOf l = s.leadOf l := by
  refine State.leadOf_congr l fun c => ?_
  simp [State.chan, h]

theorem Channel.keepNotice_place (ch : Channel) (n : Notice) :
    (ch.keepNotice n).state = ch.state ∧ (ch.keepNotice n).loop = ch.loop ∧ (ch.keepNotice n).lead = ch.lead := by
  unfold Channel.keepNotice
  split <;> exact ⟨rfl, rfl, rfl⟩

theorem State.leadOf_routeChannel (s : State) (c : Chan) (n : Notice) (l : Loop) :
    (s.routeChannel c n).leadOf l = s.leadOf l := by
  unfold State.routeChannel
  split
  · refine State.leadOf_congr l fun d => ?_
    rw [State.chan_modChan]
    split
    · next h => exact h ▸ Channel.keepNotice_place _ n
    · exact ⟨rfl, rfl, rfl⟩
  · rfl
  · exact State.leadOf_of_chans (by simp) l

@[simp] theorem State.leadOf_routeLoop (s : State) (k : Loop) (n : Notice) (l : Loop) :
    (s.routeLoop k n).leadOf l = s.leadOf l := by
  unfold State.routeLoop
  split
  · exact State.leadOf_routeChannel s _ n l
  · exact State.leadOf_of_chans (by simp) l

/-! ### A seizure (R114, R115) -/

/-- The auto dial tone of a loop, by the lead and the settings it is started from (R115). -/
theorem State.autoDialTone_eq {s t : State} {l : Loop} (lead : t.leadOf l = s.leadOf l) (live : t.live = s.live) :
    t.autoDialTone l
      = if s.leadOf l = none ∧ (s.loopSet l).autoDialTone = true
            ∧ (s.live.programs.get (s.loopSet l).dialProgram).segments ≠ [] then
          (t.startTone l .auto .p0 (s.loopSet l).dialProgram).modLoop l fun x => { x with autoTone := true }
        else t := by
  have hset : t.loopSet l = s.loopSet l := by rw [State.loopSet, live, State.loopSet]
  unfold State.autoDialTone
  dsimp only
  rw [lead, live, hset]
  refine if_congr ?_ rfl rfl
  simp [Program.isEmpty, and_assoc]

/-- A seizure of a loop, by the lead, the settings and the time it happens at (R114, R115). -/
theorem State.seize_eq {s t : State} {l : Loop} (chans : t.chans = s.chans) (live : t.live = s.live)
    (timebase : t.timebase = s.timebase) :
    t.seize l
      = if s.leadOf l = none ∧ (s.loopSet l).autoDialTone = true
            ∧ (s.live.programs.get (s.loopSet l).dialProgram).segments ≠ [] then
          ((((t.modLoop l fun x => { x.enterActive with hook := .offhook, pulses := 0 }).routeLoop l
            ⟨.seize, some l, none, s.timebase⟩).startTone l .auto .p0 (s.loopSet l).dialProgram).modLoop l
              fun x => { x with autoTone := true })
        else
          (t.modLoop l fun x => { x.enterActive with hook := .offhook, pulses := 0 }).routeLoop l
            ⟨.seize, some l, none, s.timebase⟩ := by
  have hlead : (t.modLoop l fun x => { x.enterActive with hook := .offhook, pulses := 0 }).leadOf l = s.leadOf l :=
    State.leadOf_of_chans chans l
  unfold State.seize State.raiseLoop
  rw [State.autoDialTone_eq (s := s) ((State.leadOf_routeLoop _ l _ l).trans hlead) (by simp [live])]
  simp only [State.modLoop_untouched, timebase]

/-! ### The end of a break (R116) -/

theorem msField_fits {n : Nat} (h : n < 65536) (s : State) : msField n s = (BitVec.ofNat 16 n, s) := if_pos h

theorem State.flash_alone {s : State} {l : Loop} {length : Nat} (fits : length / 8 < 65536)
    (idle : (s.loop l).pulses = 0) :
    s.flash l length = s.routeLoop l ⟨.flash (BitVec.ofNat 16 (length / 8)), some l, none, s.timebase⟩ := by
  unfold State.flash
  dsimp only
  rw [if_neg (not_not_intro idle), msField_fits fits]
  rfl

theorem State.flash_after_digit {s : State} {l : Loop} {length : Nat} (fits : length / 8 < 65536)
    (counting : (s.loop l).pulses ≠ 0) :
    s.flash l length
      = (s.endRotary l).routeLoop l ⟨.flash (BitVec.ofNat 16 (length / 8)), some l, none, s.timebase⟩ := by
  unfold State.flash
  dsimp only
  rw [if_pos counting, msField_fits fits, State.raiseLoop, (s.endRotary_untouched l).1]

section
variable {s : State} {l : Loop}

theorem State.endBreak_pulse
    (short : ((s.loop l).rawEdge - (s.loop l).breakStart).toNat ≤ (s.loopSet l).pulseBreakMax * 8) :
    s.endBreak l
      = s.modLoop l fun y => { y with hook := .offhook, pulses := min 255 (y.pulses + 1), makeStart := y.rawEdge } := by
  refine (if_pos short).trans ?_
  rw [modLoop_modLoop]
  exact State.modLoop_congr (by rw [stopAt, Nat.min_comm])

theorem State.endBreak_ignored
    (long : (s.loopSet l).pulseBreakMax * 8 < ((s.loop l).rawEdge - (s.loop l).breakStart).toNat)
    (short : ((s.loop l).rawEdge - (s.loop l).breakStart).toNat < (s.loopSet l).flashMin * 8) :
    s.endBreak l = s.modLoop l fun y => { y with hook := .offhook, makeStart := y.rawEdge } := by
  refine ((if_neg (Nat.not_le.mpr long)).trans (if_pos short)).trans ?_
  rw [modLoop_modLoop]

theorem State.endBreak_flash
    (long : (s.loopSet l).pulseBreakMax * 8 < ((s.loop l).rawEdge - (s.loop l).breakStart).toNat)
    (flash : (s.loopSet l).flashMin * 8 ≤ ((s.loop l).rawEdge - (s.loop l).breakStart).toNat) :
    s.endBreak l
      = (s.modLoop l fun y => { y with hook := .offhook }).flash l ((s.loop l).rawEdge - (s.loop l).breakStart).toNat :=
  (if_neg (Nat.not_le.mpr long)).trans (if_neg (Nat.not_lt.mpr flash))

/-! ### HOOK_QUALIFIED (R113) -/

/-- The raw state of a loop has persisted hook_qualify (R113). -/
def State.HookLasted (s : State) (l : Loop) : Prop :=
  (s.loopSet l).hookQualify * 8 ≤ (s.timebase - (s.loop l).rawEdge).toNat

theorem execHookQualified_waits (h : (s.loop l).feed = .denied ∨ ¬s.HookLasted l) :
    execHookQualified l s = .next s := by
  refine if_pos ?_
  obtain h | h := h
  · rw [h]; rfl
  · have hpersisted : persisted s.timebase (s.loop l).rawEdge (s.loopSet l).hookQualify = false := decide_eq_false h
    rw [hpersisted, Bool.not_false, Bool.or_true]

/-- A raw state that has lasted, on a loop not DENIED, is qualified against the hook. -/
theorem execHookQualified_judges (fed : (s.loop l).feed ≠ .denied) (lasted : s.HookLasted l) :
    execHookQualified l s
      = match (s.loop l).hook, (s.loop l).raw with
        | .onhook, .off => .next (s.answerOffhook l)
        | .offhook, .on => .next (s.modLoop l fun y => { y with hook := .brk, breakStart := y.rawEdge })
        | .brk, .off => .next (s.endBreak l)
        | _, _ => .next s := by
  have hpersisted : persisted s.timebase (s.loop l).rawEdge (s.loopSet l).hookQualify = true := decide_eq_true lasted
  refine (if_neg ?_).trans ?_
  · rw [hpersisted]
    simpa using fed
  · cases (s.loop l).hook <;> cases (s.loop l).raw <;> rfl

theorem State.answerOffhook_idle (h : (s.loop l).feed = .idle) : s.answerOffhook l = s.seize l := by
  rw [State.answerOffhook, h]

theorem State.answerOffhook_ringing (h : (s.loop l).feed = .ringing ∨ (s.loop l).feed = .callerData) :
    s.answerOffhook l = s.ringTrip l := by
  obtain h | h := h <;> rw [State.answerOffhook, h]

theorem State.answerOffhook_testing (h : (s.loop l).feed = .testing) :
    s.answerOffhook l = (s.abortTest l .abortedOffhook).seize l := by
  rw [State.answerOffhook, h]

end

/-! ### A ring trip (R140, R141) -/

/-- The caller status a ring's end reports (R134, R140). -/
theorem CallerState.atEnd_eq (c : CallerState) :
    c.atEnd
      = if c = .awaitRunEnd ∨ c = .waiting then .notSent else if c = .sending then .aborted else c := by
  cases c <;> rfl

theorem RingRecord.summary_eq (r : RingRecord) :
    r.summary
      = ⟨if r.callerState = .awaitRunEnd ∨ r.callerState = .waiting then .notSent
          else if r.callerState = .sending then .aborted else r.callerState,
        r.rung, r.deferred, r.suppressed, r.bursts⟩ := by
  rw [RingRecord.summary, CallerState.atEnd_eq]

theorem State.ringTrip_of_ring {s : State} {l : Loop} {r : RingRecord} (h : (s.loop l).ring = some r) :
    s.ringTrip l
      = (s.modLoop l fun x => { x.dropRing.enterActive with hook := .offhook, pulses := 0 }).routeRing l r.owner
          r.ownerLost ⟨.answered r.summary, some l, none, s.timebase⟩ := by
  unfold State.ringTrip
  dsimp only
  rw [h]

/-! ### A test aborted (R166) -/

/-- An aborted test's TEST_DONE carries the reference count and the load it held (R166, R167). -/
theorem State.abortTest_eq (s : State) (l : Loop) (outcome : TestOutcome) :
    s.abortTest l outcome
      = (s.modLoop l fun x => { x with test := { x.test with phase := .none } }).offer (s.loop l).test.requester
          ⟨.testDone outcome (if (s.loop l).test.phase = .loop then (s.loop l).test.nRef else 0) 0 (s.loop l).test.load
            false, some l, none, s.timebase⟩ := by
  unfold State.abortTest State.testDone
  dsimp only
  rw [State.loop_modLoop_same]
  rfl

/-- Settles O42: an on-hook loop by its feed, an off-hook one by its raw state, a break by its length. -/
theorem hookQualified : Obligations.HookQualified := by
  refine ⟨fun s l => ⟨execHookQualified_waits, fun lasted hook raw fed => ?still, fun lasted hook raw fed => ?seized,
      fun r lasted hook raw fed ring => ?tripped, fun lasted hook raw fed => ?tested⟩,
    fun s l => ?breaks⟩
  case still => exact (execHookQualified_judges fed lasted).trans (by rw [hook, raw])
  case seized =>
    have hfed : (s.loop l).feed ≠ .denied := by rw [fed]; decide
    refine (execHookQualified_judges hfed lasted).trans ?_
    rw [hook, raw, State.answerOffhook_idle fed]
    exact congrArg _ (State.seize_eq rfl rfl rfl)
  case tripped =>
    have hfed : (s.loop l).feed ≠ .denied := by obtain h | h := fed <;> rw [h] <;> decide
    refine (execHookQualified_judges hfed lasted).trans ?_
    rw [hook, raw, State.answerOffhook_ringing fed, State.ringTrip_of_ring ring, RingRecord.summary_eq]
    rfl
  case tested =>
    have hfed : (s.loop l).feed ≠ .denied := by rw [fed]; decide
    refine (execHookQualified_judges hfed lasted).trans ?_
    rw [hook, raw, State.answerOffhook_testing fed]
    refine congrArg _ ((State.seize_eq (s := s) (by simp) (by simp) (by simp)).trans ?_)
    rw [State.abortTest_eq]
    rfl
  case breaks =>
    intro x set lasted run length back fed hlasted
    have hrun := execHookQualified_judges fed hlasted
    refine ⟨fun hook raw => hrun.trans ?_, fun hook raw => hrun.trans ?_, fun hook raw => hrun.trans ?_,
      fun hook raw short => hrun.trans ?_, fun hook raw long short => hrun.trans ?_,
      fun hook raw long flash fits none => hrun.trans ?_, fun hook raw long flash fits some => hrun.trans ?_⟩ <;>
      rw [hook, raw]
    · rw [State.endBreak_pulse short]
    · rw [State.endBreak_ignored long short]
    · rw [State.endBreak_flash long flash, State.flash_alone fits]
      · rfl
      · rw [State.loop_modLoop_same]; exact none
    · rw [State.endBreak_flash long flash, State.flash_after_digit fits]
      · rfl
      · rw [State.loop_modLoop_same]; exact some

end Sys2Proof.Machine


namespace Sys2Proof.Machine

/-! ### The end of a rotary digit (R118, R123, R124) -/

section
variable {s : State} {l : Loop} (digit : Byte) (method : DigitMethod) (count : Half)

theorem State.raiseDigit_led (led : s.leadOf l ≠ none) :
    s.raiseDigit l digit method count
      = (s.stopAutoTone l).routeLoop l ⟨.digit digit method count, some l, none, s.timebase⟩ := by
  have hled : ¬(s.leadOf l).isNone = true := by rwa [Option.isNone_iff_eq_none]
  unfold State.raiseDigit State.raiseLoop
  dsimp only
  rw [if_neg hled, (s.stopAutoTone_untouched l).1]

theorem State.raiseDigit_free (free : s.leadOf l = none) :
    s.raiseDigit l digit method count
      = ((s.modLoop l (·.dialDigit digit)).stopAutoTone l).routeLoop l
          ⟨.digit digit method count, some l, none, s.timebase⟩ := by
  have hfree : (s.leadOf l).isNone = true := Option.isNone_iff_eq_none.mpr free
  unfold State.raiseDigit State.raiseLoop
  dsimp only
  rw [if_pos hfree, (State.stopAutoTone_untouched _ l).1]
  rfl

end

theorem LoopState.dialDigit_room {x : LoopState} (h : x.dial.length < 32) (digit : Byte) :
    x.dialDigit digit = { x with dial := x.dial ++ [digit] } := if_pos h

theorem LoopState.dialDigit_full {x : LoopState} (h : 32 ≤ x.dial.length) (digit : Byte) :
    x.dialDigit digit = { x with dialOverflow := true } := if_neg (Nat.not_lt.mpr h)

theorem State.dial_after_pulses {s : State} {l : Loop} (room : (s.loop l).dial.length < 32) (digit : Byte) :
    ((s.modLoop l fun x => { x with pulses := 0 }).modLoop l (·.dialDigit digit))
      = s.modLoop l fun x => { x with pulses := 0, dial := x.dial ++ [digit] } := by
  rw [State.modLoop_modLoop]
  exact State.modLoop_congr (LoopState.dialDigit_room (x := { s.loop l with pulses := 0 }) room digit)

theorem State.dialOverflow_after_pulses {s : State} {l : Loop} (full : 32 ≤ (s.loop l).dial.length) (digit : Byte) :
    ((s.modLoop l fun x => { x with pulses := 0 }).modLoop l (·.dialDigit digit))
      = s.modLoop l fun x => { x with pulses := 0, dialOverflow := true } := by
  rw [State.modLoop_modLoop]
  exact State.modLoop_congr (LoopState.dialDigit_full (x := { s.loop l with pulses := 0 }) full digit)

/-- A change of a loop that keeps its auto tone flag stops the tone as the flag before it says (R123). -/
theorem State.stopAutoTone_modLoop {s : State} {l : Loop} {f : LoopState → LoopState}
    (keeps : (f (s.loop l)).autoTone = (s.loop l).autoTone) :
    (s.modLoop l f).stopAutoTone l
      = if (s.loop l).autoTone then (s.modLoop l f).endTone l .digit s.timebase else s.modLoop l f := by
  unfold State.stopAutoTone
  rw [State.loop_modLoop_same, keeps]
  rfl

section
variable {s : State} {l : Loop}

theorem State.endRotary_digit (few : (s.loop l).pulses ≤ 10) :
    s.endRotary l
      = (s.modLoop l fun x => { x with pulses := 0 }).raiseDigit l (pulseDigit (s.loop l).pulses) .pulse
          (BitVec.ofNat 16 (s.loop l).pulses) := if_pos few

theorem State.endRotary_bad (many : 11 ≤ (s.loop l).pulses) :
    s.endRotary l
      = ((s.modLoop l fun x => { x with pulses := 0 }).stopAutoTone l).routeLoop l
          ⟨.badDigit (s.loop l).pulses, some l, none, s.timebase⟩ := by
  refine (if_neg (by omega)).trans ?_
  rw [State.raiseLoop, (State.stopAutoTone_untouched _ l).1]
  rfl

theorem execRotaryDigitEnd_waits
    (h : (s.loop l).pulses = 0 ∨ (s.loop l).hook ≠ .offhook
      ∨ ¬(s.loopSet l).interdigitMin * 8 ≤ (s.timebase - (s.loop l).makeStart).toNat) :
    execRotaryDigitEnd l s = .next s := by
  refine if_neg ?_
  obtain h | h | h := h
  · simp [h]
  · simp [h]
  · have hpersisted : persisted s.timebase (s.loop l).makeStart (s.loopSet l).interdigitMin = false := decide_eq_false h
    simp [hpersisted]

theorem execRotaryDigitEnd_ends (counting : (s.loop l).pulses ≠ 0) (hook : (s.loop l).hook = .offhook)
    (lasted : (s.loopSet l).interdigitMin * 8 ≤ (s.timebase - (s.loop l).makeStart).toNat) :
    execRotaryDigitEnd l s = .next (s.endRotary l) := by
  have hpersisted : persisted s.timebase (s.loop l).makeStart (s.loopSet l).interdigitMin = true := decide_eq_true lasted
  exact if_pos (by simp [counting, hook, hpersisted])

end

/-- Settles O43: the pulses counted, the loop's lead and the room of the dial buffer decide the digit's end. -/
theorem rotaryDigitEnds : Obligations.RotaryDigitEnds := by
  intro s l
  refine ⟨execRotaryDigitEnd_waits, fun counting hook lasted => ?_⟩
  have hrun := execRotaryDigitEnd_ends counting hook lasted
  have hlead : (s.modLoop l fun x => { x with pulses := 0 }).leadOf l = s.leadOf l := rfl
  refine ⟨fun few led => hrun.trans (congrArg _ ?_), fun few free room => hrun.trans (congrArg _ ?_),
    fun few free full => hrun.trans (congrArg _ ?_), fun many => hrun.trans (congrArg _ ?_)⟩
  · rw [State.endRotary_digit few, State.raiseDigit_led _ _ _ (hlead ▸ led), State.stopAutoTone_modLoop] <;> rfl
  · rw [State.endRotary_digit few, State.raiseDigit_free _ _ _ (hlead.trans free),
      State.dial_after_pulses room, State.stopAutoTone_modLoop] <;> rfl
  · rw [State.endRotary_digit few, State.raiseDigit_free _ _ _ (hlead.trans free),
      State.dialOverflow_after_pulses full, State.stopAutoTone_modLoop] <;> rfl
  · rw [State.endRotary_bad many, State.stopAutoTone_modLoop] <;> rfl

end Sys2Proof.Machine


namespace Sys2Proof.Machine

/-! ### The drains a hang-up ends (R18) -/

/-- The end of a drain, by the holder and the loop of its channel (R18). -/
theorem State.endDrain_eq {s : State} {c : Chan} {holder : Option Port} {l : Loop} {now : Word} (reason : DrainReason)
    (hholder : (s.chan c).holder = holder) (hloop : (s.chan c).loop = l) (htime : s.timebase = now) :
    s.endDrain c reason = (s.toIdle c).offerTo holder ⟨.drainDone reason, some l, some c, now⟩ := by
  subst hholder hloop htime
  rfl

/-- The end of one drain leaves the holder and the loop of every other channel. -/
theorem State.endDrain_other (s : State) {c d : Chan} (h : d ≠ c) (reason : DrainReason) :
    ((s.endDrain c reason).chan d).holder = (s.chan d).holder ∧ ((s.endDrain c reason).chan d).loop = (s.chan d).loop := by
  have hchan : (s.endDrain c reason).chan d = (s.toIdle c).chan d :=
    congrArg (PerChan.get · d) (State.offerTo_untouched _ _ _).2.2.1
  rw [hchan, State.toIdle_chan, if_neg h]
  split <;> exact ⟨rfl, rfl⟩

/-- Drains ended one after another report the holders and the loop the channels had before the first. -/
theorem endDrains_eq {cs : List Chan} (nodup : cs.Nodup) {t : State} {holder : Chan → Option Port} {l : Loop}
    {now : Word} (reason : DrainReason) (hholder : ∀ c ∈ cs, (t.chan c).holder = holder c)
    (hloop : ∀ c ∈ cs, (t.chan c).loop = l) (htime : t.timebase = now) :
    cs.foldl (fun t c => t.endDrain c reason) t
      = cs.foldl (fun t c => (t.toIdle c).offerTo (holder c) ⟨.drainDone reason, some l, some c, now⟩) t := by
  induction cs generalizing t with
  | nil => rfl
  | cons c rest ih =>
    obtain ⟨hc, hrest⟩ := List.nodup_cons.mp nodup
    have hne {d : Chan} (hd : d ∈ rest) : d ≠ c := fun e => hc (e ▸ hd)
    rw [List.foldl_cons, List.foldl_cons,
      ← State.endDrain_eq reason (hholder c List.mem_cons_self) (hloop c List.mem_cons_self) htime]
    refine ih hrest (fun d hd => ?_) (fun d hd => ?_) ((t.endDrain_untouched c reason).1.trans htime)
    · rw [(t.endDrain_other (hne hd) reason).1, hholder d (List.mem_cons_of_mem c hd)]
    · rw [(t.endDrain_other (hne hd) reason).2, hloop d (List.mem_cons_of_mem c hd)]

/-! ### What a routed notice leaves of the channels (R24, R26) -/

/-- The part of a channel that a kept notice does not change. -/
def Channel.SamePlace (x y : Channel) : Prop := x.state = y.state ∧ x.loop = y.loop ∧ x.holder = y.holder

theorem State.routeLoop_samePlace (s : State) (l : Loop) (n : Notice) (c : Chan) :
    ((s.routeLoop l n).chan c).SamePlace (s.chan c) := by
  have hsame (t : State) (h : t.chans = s.chans) : (t.chan c).SamePlace (s.chan c) := by
    rw [State.chan, h]
    exact ⟨rfl, rfl, rfl⟩
  unfold State.routeLoop
  split
  · unfold State.routeChannel
    split
    · rw [State.chan_modChan]
      split
      · next h =>
        subst h
        unfold Channel.keepNotice
        split <;> exact ⟨rfl, rfl, rfl⟩
      · exact ⟨rfl, rfl, rfl⟩
    · exact ⟨rfl, rfl, rfl⟩
    · exact hsame _ (by simp)
  · exact hsame _ (by simp)

/-- The channels that drain on a loop, read from the channels' states and loops alone. -/
theorem State.drainingOn_eq {s t : State} (h : ∀ c, (t.chan c).SamePlace (s.chan c)) (l : Loop) :
    t.drainingOn l = Chan.all.filter fun c => (s.chan c).attachedTo l && (s.chan c).state == .draining := by
  have hattached : t.attached l = s.attached l := State.attached_congr (fun c => ⟨(h c).1, (h c).2.1⟩) l
  have hstate : (fun c => (t.chan c).state == .draining) = fun c => (s.chan c).state == .draining :=
    funext fun c => by rw [(h c).1]
  unfold State.drainingOn
  rw [hattached, hstate, State.attached, List.filter_filter]
  exact congrArg (List.filter · Chan.all) (funext fun c => Bool.and_comm _ _)

/-! ### HANGUP (R117) -/

section
variable {s : State} {l : Loop}

theorem execHangup_waits
    (h : (s.loop l).hook ≠ .brk ∨ ¬(s.loopSet l).hangupMin * 8 ≤ (s.timebase - (s.loop l).breakStart).toNat) :
    execHangup l s = .next s := by
  refine if_neg ?_
  obtain h | h := h
  · simp [h]
  · have hpersisted : persisted s.timebase (s.loop l).breakStart (s.loopSet l).hangupMin = false := decide_eq_false h
    simp [hpersisted]

theorem execHangup_ends (hook : (s.loop l).hook = .brk)
    (lasted : (s.loopSet l).hangupMin * 8 ≤ (s.timebase - (s.loop l).breakStart).toNat) :
    execHangup l s = .next (s.hangUp l) := by
  have hpersisted : persisted s.timebase (s.loop l).breakStart (s.loopSet l).hangupMin = true := decide_eq_true lasted
  exact if_pos (by rw [hook, hpersisted]; rfl)

end

/-- A loop at rest after its hang-up was told: IDLE and on-hook, its dial buffer empty, its tone ended (R117). -/
def State.hungUp (s : State) (l : Loop) : State :=
  ((s.routeLoop l ⟨.hangup, some l, none, s.timebase⟩).modLoop l fun x =>
    { x.enterIdle.emptyDial with hook := .onhook }).endTone l .hangup s.timebase

theorem State.hangUp_eq (s : State) (l : Loop) :
    s.hangUp l = ((s.hungUp l).drainingOn l).foldl (fun t c => t.endDrain c .hangup) (s.hungUp l) := rfl

theorem State.hungUp_samePlace (s : State) (l : Loop) (c : Chan) : ((s.hungUp l).chan c).SamePlace (s.chan c) := by
  have hchan : (s.hungUp l).chan c = (s.routeLoop l ⟨.hangup, some l, none, s.timebase⟩).chan c :=
    congrArg (PerChan.get · c) (by simp [State.hungUp])
  rw [hchan]
  exact s.routeLoop_samePlace l _ c

theorem State.hungUp_timebase (s : State) (l : Loop) : (s.hungUp l).timebase = s.timebase := by simp [State.hungUp]

/-- Settles O44: the loop is put to rest, and then each channel that drains on it ends its drain. -/
theorem hangupClearsLoop : Obligations.HangupClearsLoop := by
  intro s l
  refine ⟨execHangup_waits, fun hook lasted => (execHangup_ends hook lasted).trans (congrArg _ ?_)⟩
  have hplace (c : Chan) := s.hungUp_samePlace l c
  have hnodup : (Chan.all.filter fun c => (s.chan c).attachedTo l && (s.chan c).state == .draining).Nodup :=
    List.Nodup.filter _ (by decide)
  rw [State.hangUp_eq, State.drainingOn_eq hplace,
    endDrains_eq hnodup .hangup (holder := fun c => (s.chan c).holder) (fun c _ => (hplace c).2.2) (fun c hc => ?_)
      (s.hungUp_timebase l)]
  · rfl
  · have hattached := (Bool.and_eq_true_iff.mp (List.mem_filter.mp hc).2).1
    have hloop := (Bool.and_eq_true_iff.mp hattached).2
    exact (hplace c).2.1.trans (by simpa using hloop)

end Sys2Proof.Machine


namespace Sys2Proof.Machine

/-! ### The key at a crossing (R120) -/

theorem nearHz_eq_true {milliHz hz : Nat} : nearHz milliHz hz = true ↔ 980 * hz ≤ milliHz ∧ milliHz ≤ 1020 * hz := by
  simp [nearHz]

theorem nearHz_eq_false {milliHz hz : Nat} (h : ¬(980 * hz ≤ milliHz ∧ milliHz ≤ 1020 * hz)) : nearHz milliHz hz = false :=
  Bool.eq_false_iff.mpr fun hnear => h (nearHz_eq_true.mp hnear)

/-- Among frequencies whose ranges do not meet, a component near one of them is found there. -/
theorem findIdx?_nearHz {bands : List Nat} (apart : bands.Pairwise fun a b => 1020 * a < 980 * b) {i hz milliHz : Nat}
    (hi : bands[i]? = some hz) (near : 980 * hz ≤ milliHz ∧ milliHz ≤ 1020 * hz) :
    bands.findIdx? (nearHz milliHz) = some i := by
  induction bands generalizing i with
  | nil => cases hi
  | cons a rest ih =>
    obtain ⟨hfirst, hrest⟩ := List.pairwise_cons.mp apart
    rw [List.findIdx?_cons]
    cases i with
    | zero =>
      obtain rfl : a = hz := Option.some.inj hi
      rw [nearHz_eq_true.mpr near, if_pos rfl]
    | succ i =>
      have hi' : rest[i]? = some hz := hi
      have hfar := hfirst hz (List.mem_of_getElem? hi')
      rw [nearHz_eq_false (by omega), if_neg Bool.false_ne_true, ih hrest hi']
      rfl

theorem rowOf_near {row hz milliHz : Nat} (h : [697, 770, 852, 941][row]? = some hz)
    (near : 980 * hz ≤ milliHz ∧ milliHz ≤ 1020 * hz) : rowOf milliHz = some row := findIdx?_nearHz (by decide) h near

theorem colOf_near {col hz milliHz : Nat} (h : [1209, 1336, 1477, 1633][col]? = some hz)
    (near : 980 * hz ≤ milliHz ∧ milliHz ≤ 1020 * hz) : colOf milliHz = some col := findIdx?_nearHz (by decide) h near

theorem rowOf_none {milliHz : Nat} (h : ∀ hz ∈ [697, 770, 852, 941], ¬(980 * hz ≤ milliHz ∧ milliHz ≤ 1020 * hz)) :
    rowOf milliHz = none := List.findIdx?_eq_none_iff.mpr fun hz hmem => nearHz_eq_false (h hz hmem)

theorem colOf_none {milliHz : Nat} (h : ∀ hz ∈ [1209, 1336, 1477, 1633], ¬(980 * hz ≤ milliHz ∧ milliHz ≤ 1020 * hz)) :
    colOf milliHz = none := List.findIdx?_eq_none_iff.mpr fun hz hmem => nearHz_eq_false (h hz hmem)

/-- A component pair at a crossing is judged by its levels alone (R120). -/
theorem judgeKey_crossing {m : KeyMeasure} {row col : Nat} (hrow : rowOf m.rowMilliHz = some row)
    (hcol : colOf m.colMilliHz = some col) :
    judgeKey (some m)
      = if m.rowBelow ≤ 30000 ∧ m.colBelow ≤ 30000 ∧ m.colBelow - m.rowBelow ≤ 8000 ∧ m.rowBelow - m.colBelow ≤ 4000
            ∧ m.rowBelow + 15000 ≤ m.restBelow ∧ m.colBelow + 15000 ≤ m.restBelow
          then keyTable[row]?.bind (·[col]?) else none := by
  have hmax : max m.rowBelow m.colBelow + 15000 ≤ m.restBelow
      ↔ m.rowBelow + 15000 ≤ m.restBelow ∧ m.colBelow + 15000 ≤ m.restBelow := by omega
  simp only [judgeKey, hrow, hcol, hmax]

theorem judgeKey_noRow {m : KeyMeasure} (h : rowOf m.rowMilliHz = none) : judgeKey (some m) = none := by
  simp only [judgeKey, h]

theorem judgeKey_noCol {m : KeyMeasure} (h : colOf m.colMilliHz = none) : judgeKey (some m) = none := by
  cases hrow : rowOf m.rowMilliHz <;> simp only [judgeKey, h, hrow]

/-! ### The tone-digit detector (R121, R122) -/

section
variable {s : State} {l : Loop}

theorem execDtmfKeyChange_active (active : (s.loop l).feed = .active) {m : Option KeyMeasure} {key : Option Byte}
    (hkey : judgeKey m = key) {d : Dtmf} (hears : (s.loop l).dtmf.hear s.timebase key = d) :
    execDtmfKeyChange l m s = .next (s.modLoop l fun y => { y with dtmf := d, keyPresent := judgeKey m }) := by
  subst hkey hears
  refine congrArg _ (State.modLoop_congr ?_)
  exact if_pos (by rw [active]; rfl)

theorem execDtmfKeyChange_deaf (deaf : (s.loop l).feed ≠ .active) (m : Option KeyMeasure) :
    execDtmfKeyChange l m s = .next (s.modLoop l fun y => { y with keyPresent := judgeKey m }) :=
  congrArg _ (State.modLoop_congr (if_neg (by simpa using deaf)))

theorem execDtmfOnsetQualified_deaf (deaf : (s.loop l).feed ≠ .active) : execDtmfOnsetQualified l s = .next s := by
  unfold execDtmfOnsetQualified
  split
  · exact if_neg (by simp [deaf])
  · rfl

theorem execDtmfDigitEnd_deaf (deaf : (s.loop l).feed ≠ .active) : execDtmfDigitEnd l s = .next s := by
  unfold execDtmfDigitEnd
  split
  · exact if_neg (by simp [deaf])
  · rfl

/-- An onset in ACTIVE is held once it has lasted tone_on_min. -/
theorem execDtmfOnsetQualified_onset {k : Byte} {onset : Word} (active : (s.loop l).feed = .active)
    (h : (s.loop l).dtmf = .onset k onset) :
    execDtmfOnsetQualified l s
      = if (s.loopSet l).toneOnMin * 8 ≤ (s.timebase - onset).toNat then
          .next (s.modLoop l fun y => { y with dtmf := .held k onset })
        else .next s := by
  unfold execDtmfOnsetQualified
  rw [h]
  refine if_congr ?_ rfl rfl
  rw [active]
  exact decide_eq_true_iff

/-- A released digit in ACTIVE ends once its gap has lasted tone_off_min. -/
theorem execDtmfDigitEnd_release {k : Byte} {onset gap : Word} (active : (s.loop l).feed = .active)
    (h : (s.loop l).dtmf = .release k onset gap) :
    execDtmfDigitEnd l s
      = if (s.loopSet l).toneOffMin * 8 ≤ (s.timebase - gap).toNat then .next (s.endToneDigit l k onset gap)
        else .next s := by
  unfold execDtmfDigitEnd
  rw [h]
  refine if_congr ?_ rfl rfl
  rw [active]
  exact decide_eq_true_iff

end

theorem LoopState.toneOver_keyPresent (x : LoopState) (cause : ToneCause) (moment : Word) :
    (x.toneOver cause moment).keyPresent = x.keyPresent := by
  unfold LoopState.toneOver
  dsimp only
  (repeat' split) <;> rfl

theorem LoopState.dialDigit_keyPresent (x : LoopState) (digit : Byte) : (x.dialDigit digit).keyPresent = x.keyPresent := by
  unfold LoopState.dialDigit
  split <;> rfl

theorem State.stopAutoTone_keyPresent (s : State) (l : Loop) :
    ((s.stopAutoTone l).loop l).keyPresent = (s.loop l).keyPresent := by
  unfold State.stopAutoTone
  split
  · rw [State.endTone_loop, LoopState.toneOver_keyPresent]
  · rfl

/-- A DIGIT raised leaves the key on the line. -/
theorem State.raiseDigit_keyPresent (s : State) (l : Loop) (digit : Byte) (method : DigitMethod) (count : Half) :
    ((s.raiseDigit l digit method count).loop l).keyPresent = (s.loop l).keyPresent := by
  have hrouted (t : State) (n : Notice) : (t.routeLoop l n).loop l = t.loop l := congrArg (PerLoop.get · l) (by simp)
  unfold State.raiseDigit State.raiseLoop
  dsimp only
  rw [hrouted, State.stopAutoTone_keyPresent]
  split
  · rw [State.loop_modLoop_same, LoopState.dialDigit_keyPresent]
  · rfl

/-- A tone digit whose length fits its field: its DIGIT, and then the detector hears the key on the line afresh. -/
theorem State.endToneDigit_eq {s : State} {l : Loop} (k : Byte) {onset gap : Word}
    (fits : (gap - onset).toNat / 8 < 65536) :
    s.endToneDigit l k onset gap
      = (s.raiseDigit l k .tone (BitVec.ofNat 16 ((gap - onset).toNat / 8))).modLoop l fun y =>
          { y with
            dtmf :=
              match (s.loop l).keyPresent with
              | none => .quiet
              | some j => .onset j s.timebase } := by
  unfold State.endToneDigit
  dsimp only
  rw [elapsed, msField_fits fits]
  refine State.modLoop_congr ?_
  dsimp only
  rw [State.raiseDigit_keyPresent]
  rfl

/-- Settles O45: a component near one frequency alone names its row and its column; and the detector state by state. -/
theorem keysDetected : Obligations.KeysDetected := by
  refine ⟨fun m row col rowHz colHz key hrow hcol hkey rowLow rowHigh colLow colHigh => ?crossing,
    fun m => ⟨fun h => judgeKey_noRow (rowOf_none h), fun h => judgeKey_noCol (colOf_none h)⟩,
    fun s l m k onset gap => ⟨fun deaf => ⟨execDtmfKeyChange_deaf deaf m, execDtmfOnsetQualified_deaf deaf,
      execDtmfDigitEnd_deaf deaf⟩, fun active => ⟨fun h => ?quiet, fun h => ?onset, fun h => ?held, fun h => ?release,
        fun h long => ?onsetLong, fun h short => ?onsetShort, fun h short => ?gapShort, fun h long fits => ?gapLong⟩⟩⟩
  case crossing =>
    have hjudge := judgeKey_crossing (rowOf_near hrow ⟨rowLow, rowHigh⟩) (colOf_near hcol ⟨colLow, colHigh⟩)
    exact ⟨fun h => (hjudge.trans (if_pos h)).trans hkey, fun h => hjudge.trans (if_neg h), rfl⟩
  case quiet =>
    exact ⟨fun none => execDtmfKeyChange_active active none (by rw [h]; rfl),
      fun j hj => execDtmfKeyChange_active active hj (by rw [h]; rfl)⟩
  case onset =>
    exact ⟨fun none => execDtmfKeyChange_active active none (by rw [h]; rfl),
      fun same => execDtmfKeyChange_active active same (by rw [h]; exact if_pos rfl),
      fun j hj other => execDtmfKeyChange_active active other (by rw [h]; exact if_neg hj)⟩
  case held =>
    exact ⟨fun same => execDtmfKeyChange_active active same (by rw [h]; exact if_pos rfl),
      fun other => execDtmfKeyChange_active active rfl (by rw [h]; exact if_neg other)⟩
  case release =>
    exact ⟨fun same => execDtmfKeyChange_active active same (by rw [h]; exact if_pos rfl),
      fun other => execDtmfKeyChange_active active rfl (by rw [h]; exact if_neg other)⟩
  case onsetLong => exact (execDtmfOnsetQualified_onset active h).trans (if_pos long)
  case onsetShort => exact (execDtmfOnsetQualified_onset active h).trans (if_neg short)
  case gapShort => exact (execDtmfDigitEnd_release active h).trans (if_neg short)
  case gapLong =>
    refine ((execDtmfDigitEnd_release active h).trans (if_pos long)).trans (congrArg _ ?_)
    exact State.endToneDigit_eq k fits

end Sys2Proof.Machine


namespace Sys2Proof.Machine

/-! ### The checks of a RING (R131, R133) -/

/-- A RING's cadence and caller record pass their checks (R131, R133). -/
def RingParams.Good (n m1 m0 b : Byte) (fields : List (Byte × List Byte)) : Prop :=
  1 ≤ n.toNat ∧ n.toNat ≤ 16 ∧ half m1 m0 ≠ 0 ∧ (half m1 m0).toNat < 2 ^ n.toNat ∧ b ≠ 0 ∧ fieldTypesOk fields = true
    ∧ (callerOf fields).ok = true

theorem RingParams.ofBytes_unnamed {a count : Byte} {rest : List Byte}
    (h : 2 ≤ a.toNat ∨ parseFields count.toNat rest = none) (n m1 m0 b : Byte) :
    RingParams.ofBytes (a :: n :: m1 :: m0 :: b :: count :: rest) = none := by
  unfold RingParams.ofBytes
  dsimp only
  split
  · next hl hf =>
    obtain h | h := h
    · rw [Loop.ofByte_none h] at hl; cases hl
    · rw [h] at hf; cases hf
  · rfl

section
variable {n m1 m0 b count : Byte} {rest : List Byte} {fields : List (Byte × List Byte)} (l : Loop)
  (parsed : parseFields count.toNat rest = some fields)
include parsed

theorem RingParams.ofBytes_good (good : RingParams.Good n m1 m0 b fields) :
    RingParams.ofBytes (Loop.byte l :: n :: m1 :: m0 :: b :: count :: rest)
      = some ⟨l, n.toNat, half m1 m0, b.toNat, callerOf fields⟩ := by
  simp only [RingParams.ofBytes, Loop.ofByte_byte, parsed]
  exact if_pos good

theorem RingParams.ofBytes_bad (bad : ¬RingParams.Good n m1 m0 b fields) :
    RingParams.ofBytes (Loop.byte l :: n :: m1 :: m0 :: b :: count :: rest) = none := by
  simp only [RingParams.ofBytes, Loop.ofByte_byte, parsed]
  exact if_neg bad

end

/-! ### RING by the feed of its loop (R131, R132) -/

section
variable {s : State} {p : Port} {tag : Byte} {params : List Byte} {o : RingParams}

theorem ringBody_badParam (h : RingParams.ofBytes params = none) (s : State) :
    ringBody p tag params s = s.refuse p tag .badParam := by
  simp only [ringBody, h]

theorem ringBody_idle (h : RingParams.ofBytes params = some o) (feed : (s.loop o.loop).feed = .idle) :
    ringBody p tag params s = s.startRing p tag o := by
  simp only [ringBody, h, feed]

theorem ringBody_testing (h : RingParams.ofBytes params = some o) (feed : (s.loop o.loop).feed = .testing) :
    ringBody p tag params s = (s.abortTest o.loop .abortedRing).startRing p tag o := by
  simp only [ringBody, h, feed]

theorem ringBody_active (h : RingParams.ofBytes params = some o) (feed : (s.loop o.loop).feed = .active) :
    ringBody p tag params s = s.refuse p tag .loopBusy := by
  simp only [ringBody, h, feed]

theorem ringBody_taken (h : RingParams.ofBytes params = some o)
    (feed : (s.loop o.loop).feed = .ringing ∨ (s.loop o.loop).feed = .callerData ∨ (s.loop o.loop).feed = .denied) :
    ringBody p tag params s = s.refuse p tag .busy := by
  obtain feed | feed | feed := feed <;> simp only [ringBody, h, feed]

end

/-! ### The checks of a caller record (R133) -/

theorem isDigitChar_iff (b : Byte) : isDigitChar b = true ↔ 0x30 ≤ b.toNat ∧ b.toNat ≤ 0x39 := by
  simp [isDigitChar]

theorem isNumberChar_iff (b : Byte) :
    isNumberChar b = true ↔ (0x30 ≤ b.toNat ∧ b.toNat ≤ 0x39) ∨ b = 0x2A ∨ b = 0x23 ∨ b = 0x2B := by
  simp [isNumberChar, isDigitChar_iff, or_assoc]

theorem withheldOk_iff (c : List Byte) : withheldOk c = true ↔ c = [0x50] ∨ c = [0x4F] := by
  simp [withheldOk]

theorem optionOk_iff (x : Option (List Byte)) (test : List Byte → Bool) :
    optionOk x test = true ↔ ∀ c, x = some c → test c = true := by
  cases x <;> simp [optionOk]

theorem CallerRecord.ok_iff (r : CallerRecord) :
    r.ok = true ↔
      (∀ c, r.time = some c → c.length = 8 ∧ ∀ b ∈ c, 0x30 ≤ b.toNat ∧ b.toNat ≤ 0x39)
        ∧ (∀ c, r.number = some c →
            1 ≤ c.length ∧ c.length ≤ 20 ∧ r.numberWithheld = none
              ∧ ∀ b ∈ c, (0x30 ≤ b.toNat ∧ b.toNat ≤ 0x39) ∨ b = 0x2A ∨ b = 0x23 ∨ b = 0x2B)
        ∧ (∀ c, r.numberWithheld = some c → c = [0x50] ∨ c = [0x4F])
        ∧ (∀ c, r.name = some c → 1 ≤ c.length ∧ c.length ≤ 64 ∧ r.nameWithheld = none)
        ∧ ∀ c, r.nameWithheld = some c → c = [0x50] ∨ c = [0x4F] := by
  simp only [CallerRecord.ok, Bool.and_eq_true, optionOk_iff, withheldOk_iff, List.all_eq_true, isDigitChar_iff,
    isNumberChar_iff, beq_iff_eq, decide_eq_true_eq, Option.isNone_iff_eq_none, and_assoc]
  refine and_congr_right' (and_congr_left' (forall_congr' fun c => imp_congr_right fun _ => ?_))
  tauto

theorem storedName_getElem? {name : List Byte} {k : Nat} {b : Byte} (hk : k < 15) (hb : name[k]? = some b) :
    (storedName name)[k]? = some (if 0x20 ≤ b.toNat ∧ b.toNat ≤ 0x7E then b else 0x20) := by
  rw [storedName, List.getElem?_map, List.getElem?_take_of_lt hk, hb]
  rfl

/-- Settles O46: the bytes' checks first, and then RING by the feed of the loop it names. -/
theorem ringAnswered : Obligations.RingAnswered := by
  refine ⟨⟨fun s p tag a n m1 m0 b count rest ready h => ?unnamed,
    fun s p tag n m1 m0 b count l rest fields ready parsed => ?named⟩,
    fun r => ⟨CallerRecord.ok_iff r, fun name k b hk hb => storedName_getElem? hk hb, storedName_length⟩⟩
  case unnamed =>
    rw [exec_ringReq_ready ready, ringBody_badParam (RingParams.ofBytes_unnamed h n m1 m0 b), State.refuse_counted]
  case named =>
    have hexec := exec_ringReq_ready ready tag (Loop.byte l :: n :: m1 :: m0 :: b :: count :: rest)
    refine ⟨fun bad => ?_, fun good feed => ?_, fun good feed => ?_, fun good feed => ?_, fun good feed => ?_⟩
    · rw [hexec, ringBody_badParam (RingParams.ofBytes_bad l parsed bad), State.refuse_counted]
    · rw [hexec, ringBody_active (s := s.counted p) (RingParams.ofBytes_good l parsed good) feed, State.refuse_counted]
    · rw [hexec, ringBody_taken (s := s.counted p) (RingParams.ofBytes_good l parsed good) feed, State.refuse_counted]
    · rw [hexec, ringBody_idle (s := s.counted p) (RingParams.ofBytes_good l parsed good) feed, State.startRing,
        ← State.counted_modLoop, State.acceptClamped_counted]
      rfl
    · rw [hexec, ringBody_testing (s := s.counted p) (RingParams.ofBytes_good l parsed good) feed, State.abortTest_eq]
      rfl

end Sys2Proof.Machine


namespace Sys2Proof.Machine

/-! ### RING_STOP (R134, R141) -/

/-- A ring's end in IDLE, and its RING_DONE (R134, R139, R145). -/
theorem State.finishRing_eq (s : State) (l : Loop) (r : RingRecord) (reason : RingReason) :
    s.finishRing l r reason
      = (s.modLoop l fun x =>
          { x with
            ring := none, tx := none, feed := .idle, polarity := .normal, pulses := 0, dtmf := .quiet,
            ringSignal := false }).routeRing l r.owner r.ownerLost
          ⟨.ringDone reason ⟨if r.callerState = .awaitRunEnd ∨ r.callerState = .waiting then .notSent
              else if r.callerState = .sending then .aborted else r.callerState,
            r.rung, r.deferred, r.suppressed, r.bursts⟩, some l, none, s.timebase⟩ := by
  rw [State.finishRing, RingRecord.summary_eq]
  rfl

section
variable {s : State} {p : Port} {tag : Byte} {l : Loop} {r : RingRecord}

theorem ringStopBody_badParam {b : Byte} (h : 2 ≤ b.toNat) (s : State) :
    ringStopBody p tag [b] s = s.refuse p tag .badParam := by
  simp only [ringStopBody, Loop.ofByte_none h]

theorem ringStopBody_silent (h : (s.loop l).ring = none) :
    ringStopBody p tag [Loop.byte l] s = s.refuse p tag .wrongState := by
  simp only [ringStopBody, Loop.ofByte_byte, h]

theorem ringStopBody_notHolder (h : (s.loop l).ring = some r) (other : r.owner ≠ p) :
    ringStopBody p tag [Loop.byte l] s = s.refuse p tag .notHolder := by
  simp only [ringStopBody, Loop.ofByte_byte, h, if_neg other]

theorem ringStopBody_stops (h : (s.loop l).ring = some r) (own : r.owner = p) :
    ringStopBody p tag [Loop.byte l] s = (s.accept p tag []).finishRing l r .stopped := by
  simp only [ringStopBody, Loop.ofByte_byte, h, if_pos own]

end

/-! ### Caller data (R142, R144, R145) -/

section
variable {s : State} {l : Loop} {r : RingRecord} (ring : (s.loop l).ring = some r)
include ring

theorem execCallerWaitEnd_ring :
    execCallerWaitEnd l s
      = if r.callerState = .waiting ∧ reached s.timebase r.waitEnd = true ∧ (s.loop l).feed = .ringing
            ∧ (s.loop l).hook = .onhook then
          .next (s.beginTransmission l r)
        else .next s := by
  unfold execCallerWaitEnd
  dsimp only
  rw [ring]
  refine if_congr ?_ rfl rfl
  simp [and_assoc]

theorem execCallerTransmissionEnd_notSending (h : r.callerState ≠ .sending) :
    execCallerTransmissionEnd l s = .next s := by
  unfold execCallerTransmissionEnd
  dsimp only
  rw [ring]
  split
  · next hr ht =>
    cases hr
    exact if_neg (by simp [h])
  · rfl

theorem execCallerTransmissionEnd_tx {t : Transmitter} (tx : (s.loop l).tx = some t) :
    execCallerTransmissionEnd l s
      = if r.callerState = .sending ∧ txLength t.message ≤ t.sent then .next (s.endTransmission l r) else .next s := by
  unfold execCallerTransmissionEnd
  dsimp only
  rw [ring, tx]
  refine if_congr ?_ rfl rfl
  simp [Transmitter.finished]

end

/-- Settles O47: RING_STOP by the record and its owner; the caller data by the wait, the samples sent and the final
flag. -/
theorem ringStoppedAndCallerDataSent : Obligations.RingStoppedAndCallerDataSent := by
  refine ⟨fun s p tag ready => ⟨fun b h => ?_, fun l => ⟨fun h => ?_, fun r ring => ⟨fun other => ?_, fun own => ?_⟩⟩⟩,
    fun s l r ring => ⟨fun h => ?_, fun begins => ?_, fun h => execCallerTransmissionEnd_notSending ring h,
      fun t tx => ?transmission⟩⟩
  · rw [exec_ringStopReq_ready ready, ringStopBody_badParam h, State.refuse_counted]
  · exact (exec_ringStopReq_ready ready _ _).trans
      (congrArg _ ((ringStopBody_silent (s := s.counted p) h).trans (State.refuse_counted s p tag _)))
  · exact (exec_ringStopReq_ready ready _ _).trans
      (congrArg _ ((ringStopBody_notHolder (s := s.counted p) ring other).trans (State.refuse_counted s p tag _)))
  · refine (exec_ringStopReq_ready ready _ _).trans
      (congrArg _ ((ringStopBody_stops (s := s.counted p) ring own).trans ?_))
    rw [State.finishRing_eq, State.accept_counted, own]
    rfl
  · exact (execCallerWaitEnd_ring ring).trans (if_neg h)
  · exact (execCallerWaitEnd_ring ring).trans (if_pos begins)
  case transmission =>
    have hrun := execCallerTransmissionEnd_tx ring tx
    rw [txLength_eq] at hrun
    refine ⟨fun early => hrun.trans (if_neg fun h => Nat.not_le.mpr early h.2), fun sending done more => ?_,
      fun sending done final => ?_⟩
    · refine (hrun.trans (if_pos ⟨sending, done⟩)).trans (congrArg _ ?_)
      exact if_neg (by rw [more]; decide)
    · refine (hrun.trans (if_pos ⟨sending, done⟩)).trans (congrArg _ ?_)
      exact (if_pos final).trans (State.finishRing_eq s l { r with callerState := .complete } .completed)

end Sys2Proof.Machine


namespace Sys2Proof.Machine

/-! ### A record through a step boundary (R130, R132, R135) -/

/-- The step that ends is the last of an own period in which the record rang (R135). -/
def RingRecord.endsPeriod (old : Nat) (r : RingRecord) : Bool :=
  r.started && (old + 720720 - r.phaseOrigin) % 720720 % r.period + 1 == r.period && r.rang

theorem stopAt_eq (limit n : Nat) : stopAt limit n = min limit n := Nat.min_comm n limit

theorem RingRecord.closeStep_endsPeriod {r : RingRecord} {old : Nat} (h : r.endsPeriod old = true) :
    r.closeStep old
      = { r with
          ringAge := r.ringAge + 1
          lastAge := r.lastAge.map (· + 1)
          bursts := min 65535 (r.bursts + 1)
          burstsLeft := if r.burstsLeft != 255 then r.burstsLeft - 1 else r.burstsLeft
          final := r.final || (r.burstsLeft != 255 && r.burstsLeft - 1 == 0)
          rang := false } := by
  obtain ⟨⟨hstarted, hperiod⟩, hrang⟩ : (r.started = true ∧ (r.ownStep old + 1 == r.period) = true) ∧ r.rang = true := by
    simpa only [RingRecord.endsPeriod, RingRecord.ownStep, Bool.and_eq_true] using h
  rw [RingRecord.closeStep, if_pos hstarted, if_pos (beq_iff_eq.mp hperiod), RingRecord.endPeriod, if_pos hrang]
  by_cases hleft : r.burstsLeft = 255
  · simp [hleft, stopAt_eq]
  · have hne : (r.burstsLeft != 255) = true := bne_iff_ne.mpr hleft
    simp [hleft, hne, stopAt_eq]

theorem RingRecord.closeStep_within {r : RingRecord} {old : Nat} (started : r.started = true)
    (h : r.endsPeriod old = false) :
    r.closeStep old = { r with ringAge := r.ringAge + 1, lastAge := r.lastAge.map (· + 1) } := by
  rw [RingRecord.closeStep, if_pos started]
  dsimp only
  split
  · next hperiod =>
    have hstep : (r.started && (old + 720720 - r.phaseOrigin) % 720720 % r.period + 1 == r.period) = true := by
      rw [started, Bool.true_and]
      exact beq_iff_eq.mpr hperiod
    have hrang : ¬r.rang = true := by
      rw [RingRecord.endsPeriod, hstep, Bool.true_and] at h
      exact Bool.eq_false_iff.mp h
    exact if_neg hrang
  · rfl

/-- A record after the close of a step and the start of one that had not started. -/
def RingRecord.turn (old : Nat) (r : RingRecord) : RingRecord := (r.closeStep old).start ((old + 1) % 720720)

theorem RingRecord.turn_eq (old : Nat) (r : RingRecord) :
    r.turn old
      = if r.started then
          { r with
            ringAge := r.ringAge + 1
            lastAge := r.lastAge.map (· + 1)
            bursts := if r.endsPeriod old then min 65535 (r.bursts + 1) else r.bursts
            burstsLeft := if r.endsPeriod old && r.burstsLeft != 255 then r.burstsLeft - 1 else r.burstsLeft
            final := r.final || (r.endsPeriod old && r.burstsLeft != 255 && r.burstsLeft - 1 == 0)
            rang := r.rang && !r.endsPeriod old }
        else { r with started := true, phaseOrigin := (old + 1) % 720720 } := by
  unfold RingRecord.turn
  cases hstarted : r.started with
  | false =>
    have hclose : r.closeStep old = r := if_neg (by simp [hstarted])
    rw [hclose]
    exact if_neg (by simp [hstarted])
  | true =>
    rw [if_pos rfl]
    cases hends : r.endsPeriod old with
    | true =>
      rw [RingRecord.closeStep_endsPeriod hends, RingRecord.start, if_pos hstarted]
      simp [hstarted]
    | false =>
      rw [RingRecord.closeStep_within hstarted hends, RingRecord.start, if_pos hstarted]
      simp [hstarted]

theorem RingRecord.turn_started (old : Nat) (r : RingRecord) : (r.turn old).started = true := by
  rw [RingRecord.turn_eq]
  split
  · assumption
  · rfl

theorem RingRecord.turn_period (old : Nat) (r : RingRecord) : (r.turn old).period = r.period := by
  rw [RingRecord.turn_eq]
  split <;> rfl

/-! ### The step that begins (R130, R138, R139) -/

theorem RingRecord.wants_of_started {r : RingRecord} (h : r.started = true) (index : Nat) :
    r.wants index = (r.flagged index && !r.final && !r.callerBusy) := by
  rw [RingRecord.wants, h, Bool.true_and]

theorem RingRecord.settleStep_eq {r : RingRecord} (index : Nat) (granted : Bool) :
    r.settleStep index granted
      = if r.wants index && granted then
          { r with rung := min 65535 (r.rung + 1), rang := true, lastAge := some 0 }
        else if r.wants index then { r with deferred := min 65535 (r.deferred + 1) }
        else if r.flagged index && !r.final && r.callerBusy then { r with suppressed := min 65535 (r.suppressed + 1) }
        else r := by
  unfold RingRecord.settleStep
  simp only [stopAt_eq]
  cases r.wants index <;> cases granted <;> simp

theorem RingRecord.settleCaller_eq (r : RingRecord) (before : Option Nat) (granted : Bool) (waitEnd : Word) :
    r.settleCaller (before == some 1) granted waitEnd
      = if r.callerState = .awaitRunEnd ∧ before = some 1 ∧ granted = false then
          { r with callerState := .waiting, waitEnd := waitEnd }
        else r := by
  unfold RingRecord.settleCaller
  refine if_congr ?_ rfl rfl
  simp [and_assoc]

/-! ### The boundary (R129, R137 to R139) -/

/-- The ring of a loop is complete: final, with no caller data to come (R139). -/
theorem RingRecord.done_iff (r : RingRecord) :
    r.done = true ↔ r.final = true ∧ r.callerState ≠ .waiting ∧ r.callerState ≠ .sending := by
  simp [RingRecord.done, RingRecord.callerBusy]

/-- The end of a complete ring of a loop at a moment, with nothing for another (R139, step 2). -/
def State.completeRingAt (now : Word) (s : State) (l : Loop) : State :=
  match (s.loop l).ring with
  | some r =>
    if r.final = true ∧ r.callerState ≠ .waiting ∧ r.callerState ≠ .sending then
      (s.modLoop l fun x =>
        { x with
          ring := none, tx := none, feed := .idle, polarity := .normal, pulses := 0, dtmf := .quiet,
          ringSignal := false }).routeRing l r.owner r.ownerLost
        ⟨.ringDone .completed
          ⟨if r.callerState = .awaitRunEnd then .notSent else r.callerState, r.rung, r.deferred, r.suppressed,
            r.bursts⟩, some l, none, now⟩
    else s
  | none => s

theorem State.completeRing_eq {s : State} {now : Word} (time : s.timebase = now) (l : Loop) :
    s.completeRing l = s.completeRingAt now l := by
  unfold State.completeRingAt
  unfold State.completeRing
  cases (s.loop l).ring with
  | none => rfl
  | some r =>
    dsimp only
    by_cases h : r.final = true ∧ r.callerState ≠ .waiting ∧ r.callerState ≠ .sending
    · rw [if_pos h, if_pos ((RingRecord.done_iff r).mpr h), State.finishRing_eq, time]
      obtain ⟨-, hwaiting, hsending⟩ := h
      simp only [hwaiting, hsending, or_false, if_false]
    · rw [if_neg h, if_neg fun hd => h ((RingRecord.done_iff r).mp hd)]

/-- The rings of both loops completed at one moment, loop A's first. -/
theorem State.completeRings_eq {s : State} {now : Word} (time : s.timebase = now) :
    (s.completeRing .a).completeRing .b = (s.completeRingAt now .a).completeRingAt now .b := by
  rw [State.completeRing_eq ((s.completeRing_untouched .a).1.trans time), State.completeRing_eq time]

/-- A loop turned and settled: without a record it stays as it is (R138, R139). -/
theorem LoopState.settle_turnStep (x : LoopState) (old index : Nat) (granted : Bool) (waitEnd : Word) :
    (x.turnStep old).settle index granted waitEnd
      = match x.ring.map fun r => (r.closeStep old).start ((old + 1) % 720720) with
        | none => x
        | some r =>
          { x with
            ring := some ((r.settleStep index granted).settleCaller r.wasRung granted waitEnd)
            ringSignal := granted } := by
  unfold LoopState.settle LoopState.turnStep
  cases h : x.ring with
  | none =>
    cases x
    cases h
    rfl
  | some r => rfl

/-- The supply's grants at a boundary, for loop A and for loop B (R137). -/
def State.boundaryGrants (s : State) : Bool × Bool :=
  arbitrate s.live.global.ringBudget (s.loadOf .a) (s.loadOf .b) ((s.stepIndex + 1) % 720720)
    ((s.loop .a).turnStep s.stepIndex).ring ((s.loop .b).turnStep s.stepIndex).ring

/-- The part past a boundary, each loop's record settled, before a complete ring ends (R129, R137, R138). -/
def State.boundarySettled (s : State) : State :=
  let waitEnd := s.nextBoundary + msSpan s.live.global.callerDelay
  { s with
    stepIndex := (s.stepIndex + 1) % 720720
    nextBoundary := s.nextBoundary + msSpan s.live.global.cadenceStep
    loops :=
      ⟨((s.loop .a).turnStep s.stepIndex).settle ((s.stepIndex + 1) % 720720) s.boundaryGrants.1 waitEnd,
        ((s.loop .b).turnStep s.stepIndex).settle ((s.stepIndex + 1) % 720720) s.boundaryGrants.2 waitEnd⟩ }

theorem State.takeBoundary_eq (s : State) : s.takeBoundary = (s.boundarySettled.completeRing .a).completeRing .b := rfl

/-- Settles O49: the record by its started flag and the end of its period; the boundary's two loops, and loop A's
ring completed before loop B's. -/
theorem boundariesSettled : Obligations.BoundariesSettled := by
  refine ⟨fun old granted waitEnd r => ?record, fun s => ⟨fun early => ?early, fun due => ?due⟩⟩
  case record =>
    intro index ended turned own busy flagged wants settled
    have hturned : r.turn old = turned := RingRecord.turn_eq old r
    have hperiod : turned.period = r.period := hturned ▸ RingRecord.turn_period old r
    have hown : turned.ownStep index = own := by rw [RingRecord.ownStep, hperiod]
    have hflagged : turned.flagged index = flagged := by rw [RingRecord.flagged, hown]
    have hwants : turned.wants index = wants := by
      rw [RingRecord.wants_of_started (hturned ▸ RingRecord.turn_started old r), hflagged]
      rfl
    refine ⟨hturned, hwants, ?_, RingRecord.settleCaller_eq settled turned.lastAge granted waitEnd⟩
    rw [RingRecord.settleStep_eq, hwants, hflagged]
    rfl
  case early => exact if_neg (by simp [early])
  case due =>
    refine (if_pos due).trans (congrArg _ ?_)
    rw [State.takeBoundary_eq, State.completeRings_eq (s := s.boundarySettled) (now := s.timebase) rfl, State.boundarySettled]
    simp only [LoopState.settle_turnStep]
    rfl

end Sys2Proof.Machine


namespace Sys2Proof.Machine

/-! ### TONE and TONE_STOP (R157, R159) -/

theorem programOf_eq_some {n : Nat} {k : Fin 8} (h : n = k.val) : programOf n = some k := by
  subst h
  exact dif_pos k.isLt

theorem programOf_eq_none {n : Nat} (h : 8 ≤ n) : programOf n = none := dif_neg (Nat.not_lt.mpr h)

section
variable {s : State} {n : Nat}

theorem State.playable_none (h : 8 ≤ n) : s.playable n = none := by rw [State.playable, programOf_eq_none h]; rfl

theorem State.playable_empty {k : Fin 8} (h : n = k.val) (empty : (s.live.programs.get k).segments = []) :
    s.playable n = none := by
  rw [State.playable, programOf_eq_some h]
  simp [Option.filter, Program.isEmpty, empty]

theorem State.playable_some {k : Fin 8} (h : n = k.val) (filled : (s.live.programs.get k).segments ≠ []) :
    s.playable n = some k := by
  rw [State.playable, programOf_eq_some h]
  simp [Option.filter, Program.isEmpty, filled]

end

section
variable {s : State} {p : Port} {tag : Byte} {l : Loop}

theorem toneBody_badLoop {b : Byte} (h : 2 ≤ b.toNat) (n : Byte) (s : State) :
    toneBody p tag [b, n] s = s.refuse p tag .badParam := by
  simp only [toneBody, Loop.ofByte_none h]

theorem toneBody_notHolder (mayNot : ¬(s.leadOf l = none ∨ s.LeadHeldBy l p)) (n : Byte) :
    toneBody p tag [Loop.byte l, n] s = s.refuse p tag .notHolder := by
  simp only [toneBody, Loop.ofByte_byte, State.no_authority_of mayNot, Bool.not_false, if_true]

theorem toneBody_notPlayable (may : s.leadOf l = none ∨ s.LeadHeldBy l p) {n : Byte} (h : s.playable n.toNat = none) :
    toneBody p tag [Loop.byte l, n] s = s.refuse p tag .badParam := by
  simp only [toneBody, Loop.ofByte_byte, State.authority_of may, h, Bool.not_true, Bool.false_eq_true, if_false]

theorem toneBody_starts (may : s.leadOf l = none ∨ s.LeadHeldBy l p) {n : Byte} {k : Fin 8}
    (h : s.playable n.toNat = some k) :
    toneBody p tag [Loop.byte l, n] s = (s.accept p tag []).startTone l .requested p k := by
  simp only [toneBody, Loop.ofByte_byte, State.authority_of may, h, Bool.not_true, Bool.false_eq_true, if_false]

theorem toneStopBody_badLoop {b : Byte} (h : 2 ≤ b.toNat) (s : State) :
    toneStopBody p tag [b] s = s.refuse p tag .badParam := by
  simp only [toneStopBody, Loop.ofByte_none h]

theorem toneStopBody_notHolder (mayNot : ¬(s.leadOf l = none ∨ s.LeadHeldBy l p)) :
    toneStopBody p tag [Loop.byte l] s = s.refuse p tag .notHolder := by
  simp only [toneStopBody, Loop.ofByte_byte, State.no_authority_of mayNot, Bool.not_false, if_true]

theorem toneStopBody_idle (may : s.leadOf l = none ∨ s.LeadHeldBy l p) (idle : (s.loop l).player = none) :
    toneStopBody p tag [Loop.byte l] s = s.refuse p tag .wrongState := by
  simp only [toneStopBody, Loop.ofByte_byte, State.authority_of may, idle, Bool.not_true, Bool.false_eq_true, if_false,
    Option.isNone_none, if_true]

theorem toneStopBody_stops (may : s.leadOf l = none ∨ s.LeadHeldBy l p) {t : Tone}
    (playing : (s.loop l).player = some t) :
    toneStopBody p tag [Loop.byte l] s = (s.accept p tag []).endTone l .stopped s.timebase := by
  simp only [toneStopBody, Loop.ofByte_byte, State.authority_of may, playing, Bool.not_true, Bool.false_eq_true, if_false,
    Option.isNone_some]

end

/-- A refusal of a request in the state that has counted it, as an outcome. -/
theorem State.refused_outcome (s : State) (p : Port) (tag : Byte) (code : ReplyCode) {u : State}
    (h : u = (s.counted p).refuse p tag code) :
    (Host.Outcome.next u : Host.Outcome State Fault Refusal) = .next (s.replied p (refusal tag code)) := by
  rw [h, State.refuse_counted]

/-- Settles O51: both requests by the loop named, the authority, and the program or the tone that plays. -/
theorem tonesAnswered : Obligations.TonesAnswered := by
  refine ⟨fun s p tag n ready => ⟨fun b h => ?_, fun l => ⟨fun mayNot => ?_, fun may h => ?_,
      fun k may h => ⟨fun empty => ?_, fun filled => ?_⟩⟩⟩,
    fun s p tag ready => ⟨fun b h => ?_, fun l => ⟨fun mayNot => ?_, fun may idle => ?_, fun t may playing => ?_⟩⟩⟩
  · exact (exec_toneReq_ready ready _ _).trans (s.refused_outcome p tag _ (toneBody_badLoop h n _))
  · exact (exec_toneReq_ready ready _ _).trans
      (s.refused_outcome p tag _ (toneBody_notHolder (s := s.counted p) mayNot n))
  · exact (exec_toneReq_ready ready _ _).trans
      (s.refused_outcome p tag _ (toneBody_notPlayable (s := s.counted p) may (State.playable_none h)))
  · exact (exec_toneReq_ready ready _ _).trans
      (s.refused_outcome p tag _ (toneBody_notPlayable (s := s.counted p) may (State.playable_empty h empty)))
  · refine (exec_toneReq_ready ready _ _).trans (congrArg _ ?_)
    rw [toneBody_starts (s := s.counted p) may (State.playable_some h filled), State.accept_counted]
    rfl
  · exact (exec_toneStopReq_ready ready _ _).trans (s.refused_outcome p tag _ (toneStopBody_badLoop h _))
  · exact (exec_toneStopReq_ready ready _ _).trans
      (s.refused_outcome p tag _ (toneStopBody_notHolder (s := s.counted p) mayNot))
  · exact (exec_toneStopReq_ready ready _ _).trans
      (s.refused_outcome p tag _ (toneStopBody_idle (s := s.counted p) may idle))
  · refine (exec_toneStopReq_ready ready _ _).trans (congrArg _ ?_)
    rw [toneStopBody_stops (s := s.counted p) may playing, State.accept_counted]
    rfl

end Sys2Proof.Machine


namespace Sys2Proof.Machine

/-! ### The end of a tone by its kind (R158) -/

section
variable {s : State} {l : Loop} {t : Tone} (playing : (s.loop l).player = some t)
include playing

theorem State.endTone_requested (kind : t.kind = .requested) (cause : ToneCause) (moment : Word) :
    s.endTone l cause moment
      = (s.modLoop l fun x => { x with player := none }).offer t.requester
          ⟨.toneDone t.number cause, some l, none, moment⟩ := by
  simp only [State.endTone, playing, State.toneEnded, kind]

theorem State.endTone_parkLost (kind : t.kind = .parkLost) (cause : ToneCause) (moment : Word) :
    s.endTone l cause moment = s.modLoop l (·.toneOver cause moment) := by
  simp only [State.endTone, playing, State.toneEnded, kind, State.modLoop_modLoop]
  refine State.modLoop_congr ?_
  simp only [LoopState.toneOver, playing, kind] <;> rfl

end

section
variable {x : LoopState} {t : Tone} (playing : x.player = some t) (kind : t.kind = .parkLost)
include playing kind

theorem LoopState.toneOver_noDenial (lost : x.lostDenial = none) (cause : ToneCause) (moment : Word) :
    x.toneOver cause moment = { x with player := none } := by
  simp only [LoopState.toneOver, playing, kind, lost]

theorem LoopState.toneOver_cancels {ms : Nat} (lost : x.lostDenial = some ms) {cause : ToneCause}
    (h : cause ≠ .completed ∨ x.feed ≠ .active) (moment : Word) :
    x.toneOver cause moment = { x with player := none, lostDenial := none } := by
  simp only [LoopState.toneOver, playing, kind, lost]
  refine if_neg ?_
  obtain h | h := h <;> simp [h]

theorem LoopState.toneOver_denies {ms : Nat} (lost : x.lostDenial = some ms) (active : x.feed = .active) (moment : Word) :
    x.toneOver .completed moment
      = { x with
          player := none
          lostDenial := none
          feed := .denied
          denyEnd := moment + msSpan ms
          hook := if x.hook = .brk then .offhook else x.hook
          pulses := 0
          dtmf := .quiet } := by
  simp only [LoopState.toneOver, playing, kind, lost]
  refine (if_pos (by rw [active]; rfl)).trans ?_
  unfold LoopState.enterDenied
  cases x.hook <;> rfl

end

/-! ### The player through one sample (R153) -/

section
variable {t : Tone} {g : Segment} (segment : t.program.segments[t.segIndex]? = some g)

include segment in
theorem Tone.segment_eq : t.segment = g := by
  rw [Tone.segment, List.getD_eq_getElem?_getD, segment, Option.getD_some]

variable (incomplete : t.complete = none)
include segment incomplete

theorem Tone.advance_within (h : ¬(g.duration ≠ 0 ∧ g.duration * 8 ≤ t.segSample + 1)) (now : Word) :
    t.advance now = { t with segSample := t.segSample + 1 } := by
  have hstays : g.duration = 0 ∨ t.segSample + 1 < g.duration * 8 := by omega
  rw [Tone.advance, Tone.segment_eq segment, if_neg (by simp [incomplete]), if_pos hstays]

/-- Past the last sample of a segment the player leaves it: for the next one, the next pass or completion. -/
theorem Tone.advance_leaves (h : g.duration ≠ 0 ∧ g.duration * 8 ≤ t.segSample + 1) (now : Word) :
    t.advance now
      = if t.segIndex + 1 < t.program.segments.length then { t with segIndex := t.segIndex + 1, segSample := 0 }
        else if t.program.repeats ≠ 0 ∧ t.program.repeats ≤ t.passes + 1 then
          { t with passes := min 255 (t.passes + 1), complete := some (now + 1) }
        else { t with passes := min 255 (t.passes + 1), segIndex := 0, segSample := 0 } := by
  have hleaves : ¬(g.duration = 0 ∨ t.segSample + 1 < g.duration * 8) := by omega
  rw [Tone.advance, Tone.segment_eq segment, if_neg (by simp [incomplete]), if_neg hleaves, stopAt_eq]

theorem Tone.sample?_eq : t.sample? = some (Segment.sample g t.segSample) := by
  rw [Tone.sample?, Tone.segment_eq segment, if_neg (by simp [incomplete])]

end

section
variable {s : State} {l : Loop}

theorem execToneComplete_waits (h : ∀ t, (s.loop l).player = some t → t.complete = none) :
    execToneComplete l s = .next s := by
  have hbind : (s.loop l).player.bind (·.complete) = none := Option.bind_eq_none_iff.mpr h
  simp only [execToneComplete, hbind]

theorem execToneComplete_ends {t : Tone} {moment : Word} (playing : (s.loop l).player = some t)
    (complete : t.complete = some moment) : execToneComplete l s = .next (s.endTone l .completed moment) := by
  have hbind : (s.loop l).player.bind (·.complete) = some moment := by rw [playing, Option.bind_some, complete]
  simp only [execToneComplete, hbind]

end

/-- Settles O52: the end of a tone by its kind, and the player by its sample, its segment and its passes. -/
theorem tonesAdvanceAndEnd : Obligations.TonesAdvanceAndEnd := by
  refine ⟨fun s l cause moment => ⟨fun idle => State.endTone_none idle cause moment,
      fun t playing => ⟨fun kind => State.endTone_requested playing kind cause moment,
        fun kind => State.endTone_auto playing kind cause moment, fun kind lost => ?undenied,
        fun ms kind lost h => ?cancelled, fun ms kind lost completed active => ?denied⟩,
      execToneComplete_waits, fun t moment playing complete => execToneComplete_ends playing complete⟩,
    fun now t g segment incomplete => ?player, fun s l kind requester n => rfl⟩
  case undenied =>
    rw [State.endTone_parkLost playing kind]
    exact State.modLoop_congr (LoopState.toneOver_noDenial playing kind lost cause moment)
  case cancelled =>
    rw [State.endTone_parkLost playing kind]
    exact State.modLoop_congr (LoopState.toneOver_cancels playing kind lost h moment)
  case denied =>
    rw [State.endTone_parkLost playing kind, completed]
    exact State.modLoop_congr (LoopState.toneOver_denies playing kind lost active moment)
  case player =>
    have hinside : t.segIndex < t.program.segments.length := (List.getElem?_eq_some_iff.mp segment).1
    intro lastSample lastSegment passes
    refine ⟨fun h => Tone.advance_within segment incomplete h now, fun last more => ?_, fun last final again => ?_,
      fun last final counted done => ?_, Tone.sample?_eq segment incomplete⟩
    · have hnext : t.segIndex + 1 ≠ t.program.segments.length := more
      exact (Tone.advance_leaves segment incomplete last now).trans (if_pos (by omega))
    · have hend : t.segIndex + 1 = t.program.segments.length := final
      rw [Tone.advance_leaves segment incomplete last, if_neg (by omega), if_neg (by omega)]
    · have hend : t.segIndex + 1 = t.program.segments.length := final
      rw [Tone.advance_leaves segment incomplete last, if_neg (by omega), if_pos ⟨counted, done⟩]

end Sys2Proof.Machine


namespace Sys2Proof.Machine

/-! ### TONE_DEFINE (R153, R154) -/

/-- A program's frequencies are at most 3999 Hz, and only its last segment may be a hold (R154). -/
def SegmentsFit (segments : List Segment) : Prop :=
  (∀ g ∈ segments, g.f1 ≤ 3999 ∧ g.f2 ≤ 3999) ∧ ∀ g ∈ segments.dropLast, g.duration ≠ 0

theorem State.programPlays_iff (s : State) (n : Fin 8) :
    s.programPlays n = true ↔ ∃ l t, (s.loop l).player = some t ∧ t.number = n := by
  have hall (l : Loop) : l ∈ Loop.all := by cases l <;> decide
  simp only [State.programPlays, List.any_eq_true, beq_iff_eq, Option.map_eq_some_iff]
  exact exists_congr fun l => and_iff_right (hall l)

section
variable {s : State} {p : Port} {tag number count repeats : Byte} {rest : List Byte} {segments : List Segment}

theorem toneDefineBody_badNumber (h : 8 ≤ number.toNat) (s : State) :
    toneDefineBody p tag (number :: count :: repeats :: rest) s = s.refuse p tag .badParam := by
  simp only [toneDefineBody, programOf_eq_none h]

variable (parsed : parseSegments count.toNat rest = some segments)
include parsed

theorem toneDefineBody_badSegments (h : ¬(segments.length ≤ 4 ∧ SegmentsFit segments)) (s : State) :
    toneDefineBody p tag (number :: count :: repeats :: rest) s = s.refuse p tag .badParam := by
  have hbad : 4 < segments.length ∨ (!segmentsOk segments) = true := by
    rw [Bool.not_eq_true', Bool.eq_false_iff, ne_eq, segmentsOk_iff]
    by_cases hlen : segments.length ≤ 4
    · exact Or.inr fun hfit => h ⟨hlen, hfit⟩
    · exact Or.inl (by omega)
  simp only [toneDefineBody, parsed]
  split
  · next hsegments =>
    cases hsegments
    exact if_pos hbad
  · rfl

variable {k : Fin 8} (named : number.toNat = k.val) (good : segments.length ≤ 4 ∧ SegmentsFit segments)
include named good

/-- A program that passes its checks is stored unless a tone of its number plays (R154). -/
theorem toneDefineBody_good :
    toneDefineBody p tag (number :: count :: repeats :: rest) s
      = if s.programPlays k then s.refuse p tag .busy
        else (s.putProgram k ⟨segments.map Segment.stored, repeats.toNat⟩).acceptClamped p tag
          (segments.map Segment.stored != segments)
          (programBytes k ⟨segments.map Segment.stored, repeats.toNat⟩) := by
  have hgood : ¬(4 < segments.length ∨ (!segmentsOk segments) = true) := by
    rw [(segmentsOk_iff segments).mpr good.2]
    simp [good.1]
  simp only [toneDefineBody, parsed, programOf_eq_some named, if_neg hgood]

end

/-- The bytes a stored program is answered with (R200). -/
theorem programBytes_stored (k : Fin 8) (segments : List Segment) (repeats : Byte) :
    programBytes k ⟨segments.map Segment.stored, repeats.toNat⟩
      = [BitVec.ofNat 8 k.val, BitVec.ofNat 8 segments.length, repeats]
          ++ (segments.map Segment.stored).flatMap fun g =>
            nat16 g.f1 ++ nat16 g.f2 ++ [BitVec.ofNat 8 g.level] ++ nat16 g.duration := by
  have hrepeats : byteOf repeats.toNat = repeats := BitVec.eq_of_toNat_eq (byteOf_toNat repeats.isLt)
  rw [programBytes, List.length_map, hrepeats]
  rfl

/-- Settles O54: the number and the segments are checked, then the players of both loops. -/
theorem toneDefineStores : Obligations.ToneDefineStores := by
  intro s p tag number count repeats rest segments ready parsed
  have hexec := exec_toneDefineReq_ready ready tag (number :: count :: repeats :: rest)
  refine ⟨fun h => ?_, fun k named good => ⟨fun playing => ?_, fun silent => ?_⟩⟩
  · refine hexec.trans (s.refused_outcome p tag _ ?_)
    obtain h | h := h
    · exact toneDefineBody_badNumber h _
    · exact toneDefineBody_badSegments parsed h _
  · have hplays : (s.counted p).programPlays k = true := ((s.counted p).programPlays_iff k).mpr playing
    exact hexec.trans (s.refused_outcome p tag _ ((toneDefineBody_good parsed named good).trans (if_pos hplays)))
  · have hplays : ¬(s.counted p).programPlays k = true := fun h => silent (((s.counted p).programPlays_iff k).mp h)
    refine hexec.trans (congrArg _ (((toneDefineBody_good parsed named good).trans (if_neg hplays)).trans ?_))
    exact (State.acceptClamped_counted (s.putProgram k ⟨segments.map Segment.stored, repeats.toNat⟩) p tag _ _).trans
      (by rw [programBytes_stored]; rfl)

end Sys2Proof.Machine


namespace Sys2Proof.Machine

/-! ### TEST and the ends of its phases (R163 to R167) -/

section
variable {s : State} {p : Port} {tag : Byte} {l : Loop}

theorem testBody_badLoop {b : Byte} (h : 2 ≤ b.toNat) (s : State) : testBody p tag [b] s = s.refuse p tag .badParam := by
  simp only [testBody, Loop.ofByte_none h]

theorem testBody_active (h : (s.loop l).feed = .active) : testBody p tag [Loop.byte l] s = s.refuse p tag .loopBusy := by
  simp only [testBody, Loop.ofByte_byte, h]

theorem testBody_busy (active : (s.loop l).feed ≠ .active) (idle : (s.loop l).feed ≠ .idle) :
    testBody p tag [Loop.byte l] s = s.refuse p tag .busy := by
  cases h : (s.loop l).feed with
  | idle => exact absurd h idle
  | active => exact absurd h active
  | ringing | callerData | denied | testing => simp only [testBody, Loop.ofByte_byte, h]

theorem testBody_begins (h : (s.loop l).feed = .idle) :
    testBody p tag [Loop.byte l] s
      = (s.modLoop l fun x =>
          { x with feed := .testing, test := x.test.begun p s.live.global.testGate s.timebase }).accept p tag [] := by
  simp only [testBody, Loop.ofByte_byte, h]

end

section
variable {s : State} {l : Loop}

theorem execRefPhaseEnd_waits
    (h : (s.loop l).test.phase ≠ .ref ∨ ¬reached s.timebase (s.loop l).test.phaseEnd = true) (count : Nat) :
    execRefPhaseEnd l count s = .next s := by
  refine if_neg ?_
  obtain h | h := h <;> simp [h]

theorem execRefPhaseEnd_ends (phase : (s.loop l).test.phase = .ref)
    (ended : reached s.timebase (s.loop l).test.phaseEnd = true) (count : Nat) :
    execRefPhaseEnd l count s = .next (s.modLoop l fun x => { x with test := x.test.refEnded count }) :=
  if_pos (by rw [phase, ended]; rfl)

theorem execLoopPhaseEnd_waits
    (h : (s.loop l).test.phase ≠ .loop ∨ ¬reached s.timebase (s.loop l).test.phaseEnd = true) (count : Nat) :
    execLoopPhaseEnd l count s = .next s := by
  refine if_neg ?_
  obtain h | h := h <;> simp [h]

theorem execLoopPhaseEnd_ends (phase : (s.loop l).test.phase = .loop)
    (ended : reached s.timebase (s.loop l).test.phaseEnd = true) (count : Nat) :
    execLoopPhaseEnd l count s = .next (s.finishTest l (min 65535 count)) := by
  refine (if_pos (by rw [phase, ended]; rfl)).trans ?_
  rw [stopAt_eq]

/-- A finished test, by its result (R165, R167). -/
theorem State.finishTest_eq {nLoop : Nat} {outcome : TestOutcome} {result : Option Nat} {isOver : Bool}
    (h : testResult (s.loop l).test.nRef nLoop (s.loop l).test.load = (outcome, result, isOver)) :
    s.finishTest l nLoop
      = (s.modLoop l fun x =>
          { x with
            feed := .idle, polarity := .normal, pulses := 0, dtmf := .quiet, ringSignal := false,
            test := { x.test with phase := .none, nLoop := nLoop, load := result } }).offer (s.loop l).test.requester
          ⟨.testDone outcome (s.loop l).test.nRef nLoop result isOver, some l, none, s.timebase⟩ := by
  unfold State.finishTest State.testDone
  dsimp only
  rw [h, State.loop_modLoop_same]
  rfl

end

section
variable {nRef nLoop : Nat} (before : Option Nat)

theorem testResult_refFault (h : nRef < 256) : testResult nRef nLoop before = (.refFault, before, false) := if_pos h

variable (h : 256 ≤ nRef)
include h

theorem testResult_within (within : (20 * nLoop + nRef) / (2 * nRef) ≤ 99) :
    testResult nRef nLoop before = (.completed, some ((20 * nLoop + nRef) / (2 * nRef)), false) :=
  (if_neg (Nat.not_lt.mpr h)).trans (if_neg (Nat.not_lt.mpr within))

theorem testResult_over (above : 99 < (20 * nLoop + nRef) / (2 * nRef)) :
    testResult nRef nLoop before = (.completed, some 99, true) :=
  (if_neg (Nat.not_lt.mpr h)).trans (if_pos above)

end

/-- Settles O56: TEST by the feed, the phases by their ends, the result by the reference and the ratio. -/
theorem loadTested : Obligations.LoadTested := by
  refine ⟨fun s p tag ready => ⟨fun b h => ?_, fun l => ⟨fun active => ?_, fun active idle => ?_, fun idle => ?_⟩⟩,
    fun s l count => ⟨fun h => execRefPhaseEnd_waits h count, fun phase ended => ?_,
      fun h => execLoopPhaseEnd_waits h count, fun phase ended low => ?_, fun phase ended high within => ?_,
      fun phase ended high above => ?_⟩⟩
  · exact (exec_testReq_ready ready _ _).trans (s.refused_outcome p tag _ (testBody_badLoop h _))
  · exact (exec_testReq_ready ready _ _).trans (s.refused_outcome p tag _ (testBody_active (s := s.counted p) active))
  · exact (exec_testReq_ready ready _ _).trans (s.refused_outcome p tag _ (testBody_busy (s := s.counted p) active idle))
  · refine (exec_testReq_ready ready _ _).trans (congrArg _ ((testBody_begins (s := s.counted p) idle).trans ?_))
    rw [State.modLoop_accept_counted]
    rfl
  · refine (execRefPhaseEnd_ends phase ended count).trans (congrArg _ (State.modLoop_congr ?_))
    rw [LineTest.refEnded, stopAt_eq]
  · exact (execLoopPhaseEnd_ends phase ended count).trans (congrArg _ (State.finishTest_eq (testResult_refFault _ low)))
  · exact (execLoopPhaseEnd_ends phase ended count).trans
      (congrArg _ (State.finishTest_eq (testResult_within _ high within)))
  · exact (execLoopPhaseEnd_ends phase ended count).trans
      (congrArg _ (State.finishTest_eq (testResult_over _ high above)))

end Sys2Proof.Machine


namespace Sys2Proof.Machine

/-! ### A loop through a sample time (R80, R112, R120, R144, R153) -/

theorem LoopState.putMix_eq (x : LoopState) (now : Word) (m : MixSample) :
    x.putMix now m
      = { x with
          blockStart := if x.block = [] then now else x.blockStart
          block := if 80 ≤ (x.block ++ [m]).length then [] else x.block ++ [m]
          closed :=
            if 80 ≤ (x.block ++ [m]).length then
              some ⟨if x.block = [] then now else x.blockStart, now + 1, x.block ++ [m]⟩
            else x.closed } := by
  have hlength : (x.block ++ [m]).length = x.block.length + 1 := List.length_append
  have hstart : (if x.block.isEmpty then now else x.blockStart) = if x.block = [] then now else x.blockStart :=
    if_congr List.isEmpty_iff rfl rfl
  unfold LoopState.putMix
  dsimp only
  rw [hlength, hstart]
  by_cases h : 80 ≤ x.block.length + 1
  · simp only [if_pos h]
  · simp only [if_neg h]

/-- The raw state of a loop at a sample time: as it stands while DENIED, and otherwise by the current (R111, R112). -/
def LoopState.rawNow (threshold : Nat) (x : LoopState) : RawState :=
  if x.feed = .denied then x.raw else if threshold * 1000 ≤ x.current.natAbs then .off else .on

theorem LoopState.judge_eq (x : LoopState) (now : Word) (threshold : Nat) :
    x.judge now threshold
      = { x with
          raw := x.rawNow threshold
          rawEdge := if x.rawNow threshold = x.raw then x.rawEdge else now } := by
  by_cases hfeed : x.feed = .denied
  · have hraw : x.rawNow threshold = x.raw := if_pos hfeed
    rw [LoopState.judge_denied _ _ hfeed, hraw, if_pos rfl]
  · have hraw : x.rawNow threshold = judgeRaw threshold x.current := if_neg hfeed
    by_cases hsame : judgeRaw threshold x.current = x.raw
    · rw [LoopState.judge_same _ _ hfeed hsame, hraw, if_pos hsame, hsame]
    · rw [LoopState.judge_edge _ _ hfeed hsame, hraw, if_neg hsame]

/-- A loop after a sample time, field by field. -/
theorem LoopState.sampled_eq (x : LoopState) (now : Word) (codec : Sample) (m : MixSample) (threshold : Nat) :
    x.sampled now codec m threshold
      = { x with
          codec := codec
          dtmf := if x.feed = .active then x.dtmf.hear now x.keyPresent else x.dtmf
          player := x.player.map (Tone.advance now)
          tx := x.tx.map fun t => if t.finished then t else t.advance
          blockStart := if x.block = [] then now else x.blockStart
          block := if 80 ≤ (x.block ++ [m]).length then [] else x.block ++ [m]
          closed :=
            if 80 ≤ (x.block ++ [m]).length then
              some ⟨if x.block = [] then now else x.blockStart, now + 1, x.block ++ [m]⟩
            else x.closed
          raw := x.rawNow threshold
          rawEdge := if x.rawNow threshold = x.raw then x.rawEdge else now } := by
  unfold LoopState.sampled
  rw [LoopState.putMix_eq, LoopState.judge_eq, LoopState.hearKey_eq]
  rfl

/-- The transmitter past one sample (R144). -/
theorem Transmitter.step_eq (t : Transmitter) :
    (if t.finished then t else t.advance)
      = if txLength t.message ≤ t.sent then t
        else
          { t with
            sent := t.sent + 1
            phase := (t.phase + (if txBit t.message (3 * t.sent / 20) then 1200 else 2200) * 65536) % 524288000 } :=
  if_congr decide_eq_true_iff rfl rfl

theorem Transmitter.finished_eq_false (t : Transmitter) : t.finished = false ↔ t.sent < txLength t.message := by
  simp [Transmitter.finished]

/-- Settles O55: the samples each loop is handed, the channels' outputs, and the fields of a loop one by one. -/
theorem sampleAssembled : Obligations.SampleAssembled := by
  intro s lineA lineB now out attached voiced tone value caller codec given mix played loop
  have hsum (l : Loop) : s.downlinkSum l = saturate (voiced l .c0 + voiced l .c1 + voiced l .c2 + voiced l .c3) := by
    have hlist : s.downlinkSum l = saturate ([voiced l .c0, voiced l .c1, voiced l .c2, voiced l .c3].sum) := rfl
    rw [hlist]
    simp only [List.sum_cons, List.sum_nil, add_zero, add_assoc]
  have htone (l : Loop) : (s.loop l).player.bind Tone.sample? = tone l := by
    change _ = match (s.loop l).player with | some t => t.sample? | none => none
    cases (s.loop l).player <;> rfl
  have hcaller (l : Loop) : (s.loop l).callerSample = caller l := by
    change _ = match (s.loop l).tx with
      | some t => if (s.loop l).feed = FeedState.callerData ∧ t.sent < txLength t.message then some (txSample t.phase) else none
      | none => none
    unfold LoopState.callerSample
    cases (s.loop l).tx with
    | none => rfl
    | some t => exact if_congr (and_congr_right' t.finished_eq_false) rfl rfl
  have hcodec (l : Loop) : s.codecSample l = codec l := by
    rw [State.codecSample, State.loopValue, hcaller, htone, hsum]
  have hloop (l : Loop) (line : Sample) :
      (s.loop l).sampled now (s.codecSample l) (s.mixSample l line) (s.loopSet l).hookThreshold = loop l line := by
    rw [hcodec, LoopState.sampled_eq]
    simp only [Transmitter.step_eq]
    congr 1
    refine if_congr Iff.rfl ?_ rfl
    cases (s.loop l).dtmf <;> cases (s.loop l).keyPresent <;> rfl
  refine congrArg Host.Outcome.next (State.eq_of_parts rfl rfl (fun c => ?_) rfl (fun l => ?_) (fun _ => rfl) rfl rfl rfl rfl
    rfl rfl rfl)
  · cases c <;> rfl
  · cases l with
    | a => exact hloop .a lineA
    | b => exact hloop .b lineB

end Sys2Proof.Machine


namespace Sys2Proof.Machine

/-! ### SET by its key (R186) -/

/-- A reply reads no live settings but its port's. -/
theorem State.replied_live {s : State} {g : Profile} (ports : g.port = s.live.port) (p : Port) (r : Reply) :
    ({ s with live := g } : State).replied p r = { s.replied p r with live := g } := by
  simp only [State.replied, ports] <;> rfl

section
variable {s : State} {p : Port} {tag key index v3 v2 v1 v0 : Byte} {k : SettingKey}

theorem setBody_noKey (h : SettingKey.ofBytes key index = none) (s : State) :
    setBody p tag [key, index, v3, v2, v1, v0] s = s.refuse p tag .badParam := by
  simp only [setBody, h]

theorem setBody_locked (hkey : SettingKey.ofBytes key index = some k) (reserve : k.isReserve = true)
    (occupied : s.allIdle = false) : setBody p tag [key, index, v3, v2, v1, v0] s = s.refuse p tag .wrongState := by
  simp only [setBody, hkey, reserve, occupied, Bool.not_false, Bool.and_self, if_true]

variable (hkey : SettingKey.ofBytes key index = some k) (free : k.isReserve = false ∨ s.allIdle = true)
include hkey free

theorem setBody_refused (write : k.write (word v3 v2 v1 v0).toNat s.live = none) :
    setBody p tag [key, index, v3, v2, v1, v0] s = s.refuse p tag .badParam := by
  have hfree : ¬(k.isReserve && !s.allIdle) = true := by obtain h | h := free <;> simp [h]
  simp only [setBody, hkey, if_neg hfree, write]

theorem setBody_stores {g : Profile} (write : k.write (word v3 v2 v1 v0).toNat s.live = some g) :
    setBody p tag [key, index, v3, v2, v1, v0] s = s.storeSetting p tag k (word v3 v2 v1 v0).toNat g := by
  have hfree : ¬(k.isReserve && !s.allIdle) = true := by obtain h | h := free <;> simp [h]
  simp only [setBody, hkey, if_neg hfree, write]

end

section
variable {s : State} {p : Port} (ready : s.ready p) {tag key index v3 v2 v1 v0 : Byte} {k : SettingKey}
include ready

theorem exec_set_noKey (h : SettingKey.ofBytes key index = none) :
    exec (.setReq p tag [key, index, v3, v2, v1, v0]) s = .next (s.replied p (refusal tag .badParam)) :=
  (exec_setReq_ready ready _ _).trans (s.refused_outcome p tag _ (setBody_noKey h _))

variable (hkey : SettingKey.ofBytes key index = some k)
include hkey

theorem exec_set_refused (free : k.isReserve = false ∨ s.allIdle = true)
    (write : k.write (word v3 v2 v1 v0).toNat s.live = none) :
    exec (.setReq p tag [key, index, v3, v2, v1, v0]) s = .next (s.replied p (refusal tag .badParam)) :=
  (exec_setReq_ready ready _ _).trans
    (s.refused_outcome p tag _ (setBody_refused (s := s.counted p) hkey free write))

/-- A setting stored under a key that is not a reserve: the reply is made as before the change (R186). -/
theorem exec_set_stores_live (notReserve : k.isReserve = false) {g : Profile}
    (write : k.write (word v3 v2 v1 v0).toNat s.live = some g) {n : Nat} (read : k.read g = n) :
    exec (.setReq p tag [key, index, v3, v2, v1, v0]) s
      = .next { s.replied p (acceptanceOf tag (n != (word v3 v2 v1 v0).toNat) (bytes32 (BitVec.ofNat 32 n))) with
          live := g } := by
  refine (exec_setReq_ready ready _ _).trans (congrArg _ ?_)
  rw [setBody_stores (s := s.counted p) hkey (Or.inl notReserve) write, State.storeSetting, notReserve, read,
    ← State.acceptClamped_counted]
  rfl

/-- A setting of another group than the ports stored: the reply is made after the change as well. -/
theorem exec_set_stores (notReserve : k.isReserve = false) {g : Profile}
    (write : k.write (word v3 v2 v1 v0).toNat s.live = some g) {n : Nat} (read : k.read g = n)
    (ports : g.port = s.live.port) :
    exec (.setReq p tag [key, index, v3, v2, v1, v0]) s
      = .next (({ s with live := g } : State).replied p
          (acceptanceOf tag (n != (word v3 v2 v1 v0).toNat) (bytes32 (BitVec.ofNat 32 n)))) := by
  rw [exec_set_stores_live ready hkey notReserve write read, State.replied_live ports]

end

/-! ### Per-loop keys (R119, R187) -/

/-- A key byte names a per-loop key (R200). -/
def LoopKey.Named (k : LoopKey) (key : Byte) : Prop := 0x20 ≤ key.toNat ∧ loopKeys[key.toNat - 0x20]? = some k

theorem LoopKey.Named.ofBytes {k : LoopKey} {key : Byte} (h : k.Named key) (l : Loop) :
    SettingKey.ofBytes key (Loop.byte l) = some (.loop k l) := by
  obtain ⟨hlow, hget⟩ := h
  have hindex : key.toNat - 0x20 < 16 := (List.getElem?_eq_some_iff.mp hget).1
  have hgroup : ¬key.toNat < 0x20 := by omega
  have hhigh : key.toNat < 0x40 := by omega
  simp only [SettingKey.ofBytes, if_neg hgroup, if_pos hhigh, hget, Loop.ofByte_byte]

section
variable {s : State} {p : Port} (ready : s.ready p) {tag key v3 v2 v1 v0 : Byte} {k : LoopKey} (named : k.Named key)
  {l : Loop}
include ready named

theorem exec_setLoop_stores {y : LoopSettings} (write : k.write (word v3 v2 v1 v0).toNat (s.loopSet l) = some y) {n : Nat}
    (read : k.read y = n) :
    exec (.setReq p tag [key, Loop.byte l, v3, v2, v1, v0]) s
      = .next (({ s with live := { s.live with loop := s.live.loop.put l y } } : State).replied p
          (acceptanceOf tag (n != (word v3 v2 v1 v0).toNat) (bytes32 (BitVec.ofNat 32 n)))) := by
  have hwrite : SettingKey.write (.loop k l) (word v3 v2 v1 v0).toNat s.live
      = some { s.live with loop := s.live.loop.put l y } := by
    rw [SettingKey.write, ← State.loopSet, write, Option.map_some]
  have hread : SettingKey.read (.loop k l) { s.live with loop := s.live.loop.put l y } = n :=
    (congrArg k.read (PerLoop.get_put_same _ _ _)).trans read
  exact exec_set_stores ready (named.ofBytes l) rfl hwrite hread rfl

theorem exec_setLoop_refused (write : k.write (word v3 v2 v1 v0).toNat (s.loopSet l) = none) :
    exec (.setReq p tag [key, Loop.byte l, v3, v2, v1, v0]) s = .next (s.replied p (refusal tag .badParam)) :=
  exec_set_refused ready (named.ofBytes l) (Or.inl rfl)
    (by rw [SettingKey.write, ← State.loopSet, write, Option.map_none])

end

theorem keepOrder_ordered {x : LoopSettings} (h : x.pulseBreakMax < x.flashMin ∧ x.flashMin < x.hangupMin) :
    keepOrder x = some x := if_pos (by simp [LoopSettings.ordered, h])

theorem keepOrder_broken {x : LoopSettings} (h : ¬(x.pulseBreakMax < x.flashMin ∧ x.flashMin < x.hangupMin)) :
    keepOrder x = none := if_neg (by simpa [LoopSettings.ordered] using h)

section
variable {v : Nat} (x : LoopSettings)

theorem write_autoDialTone (h : v < 2) : LoopKey.autoDialTone.write v x = some { x with autoDialTone := v == 1 } := by
  simp only [LoopKey.write, onOff_lt_two h, Option.map_some]

theorem write_denyOnLoss (h : v < 2) : LoopKey.denyOnLoss.write v x = some { x with denyOnLoss := v == 1 } := by
  simp only [LoopKey.write, onOff_lt_two h, Option.map_some]

theorem write_onOff_none (h : 2 ≤ v) : LoopKey.autoDialTone.write v x = none ∧ LoopKey.denyOnLoss.write v x = none := by
  simp only [LoopKey.write, onOff_none h, Option.map_none, and_self]

theorem write_dialProgram {k : Fin 8} (h : v = k.val) :
    LoopKey.dialProgram.write v x = some { x with dialProgram := k } := by
  simp only [LoopKey.write, programOf_eq_some h, Option.map_some]

theorem offerOf_lt_eight (h : v < 8) : offerOf v = some ⟨v.testBit 0, v.testBit 1, v.testBit 2⟩ := by
  interval_cases v <;> rfl

theorem offerBits_testBit (h : v < 8) : offerBits ⟨v.testBit 0, v.testBit 1, v.testBit 2⟩ = v := by
  interval_cases v <;> rfl

theorem write_offerSet (h : v < 8) :
    LoopKey.offerSet.write v x = some { x with offerSet := ⟨v.testBit 0, v.testBit 1, v.testBit 2⟩ } := by
  simp only [LoopKey.write, offerOf_lt_eight h, Option.map_some]

theorem parkLostOf_program {k : Fin 8} (h : v = k.val) : parkLostOf v = some (some k) := by
  rw [parkLostOf, if_neg (by omega), programOf_eq_some h]
  rfl

theorem write_parkLostProgram {k : Fin 8} (h : v = k.val) :
    LoopKey.parkLostProgram.write v x = some { x with parkLostProgram := some k } := by
  simp only [LoopKey.write, parkLostOf_program h, Option.map_some]

theorem write_parkLostProgram_off (h : v = 255) :
    LoopKey.parkLostProgram.write v x = some { x with parkLostProgram := none } := by
  simp only [LoopKey.write, parkLostOf, if_pos h, Option.map_some]

theorem write_program_none (h : 8 ≤ v) :
    LoopKey.dialProgram.write v x = none ∧ LoopKey.offerSet.write v x = none
      ∧ (v ≠ 255 → LoopKey.parkLostProgram.write v x = none) := by
  have hoffer : offerOf v = none := if_neg (by omega)
  refine ⟨?_, ?_, fun hpark => ?_⟩
  · simp only [LoopKey.write, programOf_eq_none h, Option.map_none]
  · simp only [LoopKey.write, hoffer, Option.map_none]
  · simp only [LoopKey.write, parkLostOf, if_neg hpark, programOf_eq_none h, Option.map_none]

end

/-! ### Per-port keys (R186, R200) -/

/-- The bits of the kinds that are not maskable are 0 exactly when the mask is even and below 0x4000 (R200). -/
theorem maskable_iff (w : Word) : w &&& 0xFFFFC001#32 = 0#32 ↔ w.toNat < 0x4000 ∧ w.toNat % 2 = 0 := by
  have hbit (i : Nat) : (w &&& 0xFFFFC001#32).getLsbD i = (w.toNat.testBit i && Nat.testBit 0xFFFFC001 i) :=
    BitVec.getLsbD_and
  have hzero : w &&& 0xFFFFC001#32 = 0#32 ↔ ∀ i < 32, (w.toNat.testBit i && Nat.testBit 0xFFFFC001 i) = false :=
    ⟨fun h i _ => by rw [← hbit, h, BitVec.getLsbD_zero],
      fun h => BitVec.eq_of_getLsbD_eq fun i hi => by rw [hbit, h i hi, BitVec.getLsbD_zero]⟩
  rw [hzero]
  constructor
  · intro h
    have hlow := h 0 (by decide)
    refine ⟨Nat.lt_pow_two_of_testBit (n := 14) _ fun i hi => ?_, ?_⟩
    · by_cases hlt : i < 32
      · have hmask : Nat.testBit 0xFFFFC001 i = true := by interval_cases i <;> rfl
        simpa [hmask] using h i hlt
      · exact Nat.testBit_lt_two_pow (Nat.lt_of_lt_of_le w.isLt (Nat.pow_le_pow_right (by decide) (by omega)))
    · have hodd : w.toNat.testBit 0 = false := by simpa using hlow
      rw [Nat.testBit_zero] at hodd
      simpa using hodd
  · rintro ⟨hlt, heven⟩ i hi
    by_cases h14 : 14 ≤ i
    · have hpow : 2 ^ 14 ≤ 2 ^ i := Nat.pow_le_pow_right (by decide) h14
      rw [Nat.testBit_lt_two_pow (Nat.lt_of_lt_of_le hlt hpow), Bool.false_and]
    · by_cases h0 : i = 0
      · subst h0
        rw [Nat.testBit_zero, heven]
        rfl
      · have hpos : 1 ≤ i := by omega
        have hmask : Nat.testBit 0xFFFFC001 i = false := by interval_cases i <;> rfl
        rw [hmask, Bool.and_false]

end Sys2Proof.Machine


namespace Sys2Proof.Machine

/-! ### The reserves (R34) -/

theorem State.allIdle_of_all {s : State} (h : ¬∃ d, (s.chan d).state ≠ .idle) : s.allIdle = true := by
  refine List.all_eq_true.mpr fun d _ => beq_iff_eq.mpr ?_
  exact not_not.mp fun hd => h ⟨d, hd⟩

theorem State.not_allIdle_of {s : State} (h : ∃ d, (s.chan d).state ≠ .idle) : s.allIdle = false := by
  obtain ⟨d, hd⟩ := h
  refine Bool.eq_false_iff.mpr fun hall => hd ?_
  exact beq_iff_eq.mp (List.all_eq_true.mp hall d (by cases d <;> decide))

theorem SettingKey.ofBytes_reserve (c : Chan) : SettingKey.ofBytes (0x08 + Chan.byte c) 0 = some (.reserve c) := by
  cases c <;> rfl

theorem writeReserve_fits {c : Chan} {v : Nat} {g : Profile} (h : (g.global.reserve.put c (min 128 v)).total ≤ 256) :
    writeReserve c v g
      = some { g with global := { g.global with reserve := g.global.reserve.put c (min 128 v) } } := by
  simp only [writeReserve, clampNat_zero, if_pos h]

theorem writeReserve_exceeds {c : Chan} {v : Nat} {g : Profile} (h : 256 < (g.global.reserve.put c (min 128 v)).total) :
    writeReserve c v g = none := by
  simp only [writeReserve, clampNat_zero, if_neg (Nat.not_le.mpr h)]

/-- A reserve stored, and the pool split under it (R34). -/
theorem State.storeSetting_reserve {s : State} {p : Port} {tag : Byte} {c : Chan} {v : Nat} {g : Profile}
    (ports : g.port = s.live.port) :
    (s.counted p).storeSetting p tag (.reserve c) v g
      = ({ s with live := g, pool := s.pool.split g.global.reserve } : State).replied p
          (acceptanceOf tag (g.global.reserve.get c != v) (bytes32 (BitVec.ofNat 32 (g.global.reserve.get c)))) := by
  rw [← State.acceptClamped_counted]
  simp only [State.storeSetting, State.counted, State.modPort, ports] <;> rfl

section
variable {s : State} {p : Port} (ready : s.ready p) {tag v3 v2 v1 v0 : Byte} {c : Chan}
include ready

theorem exec_setReserve_locked (occupied : ∃ d, (s.chan d).state ≠ .idle) :
    exec (.setReq p tag [0x08 + Chan.byte c, 0, v3, v2, v1, v0]) s = .next (s.replied p (refusal tag .wrongState)) :=
  (exec_setReq_ready ready _ _).trans (s.refused_outcome p tag _
    (setBody_locked (s := s.counted p) (SettingKey.ofBytes_reserve c) rfl (State.not_allIdle_of occupied)))

theorem exec_setReserve_stores (free : ¬∃ d, (s.chan d).state ≠ .idle) {reserve : PerChan Nat}
    (value : s.live.global.reserve.put c (min 128 (word v3 v2 v1 v0).toNat) = reserve) (fits : reserve.total ≤ 256) :
    exec (.setReq p tag [0x08 + Chan.byte c, 0, v3, v2, v1, v0]) s
      = .next (({ s with
          live := { s.live with global := { s.live.global with reserve := reserve } }
          pool := { s.pool with free := reserve, shared := 256 - reserve.total } } : State).replied p
          (acceptanceOf tag (min 128 (word v3 v2 v1 v0).toNat != (word v3 v2 v1 v0).toNat)
            (bytes32 (BitVec.ofNat 32 (min 128 (word v3 v2 v1 v0).toNat))))) := by
  have hget : reserve.get c = min 128 (word v3 v2 v1 v0).toNat := by rw [← value, PerChan.get_put_same]
  have hwrite : writeReserve c (word v3 v2 v1 v0).toNat s.live
      = some { s.live with global := { s.live.global with reserve := reserve } } := by
    subst value
    exact writeReserve_fits fits
  refine (exec_setReq_ready ready _ _).trans (congrArg _ ?_)
  rw [setBody_stores (s := s.counted p) (SettingKey.ofBytes_reserve c) (Or.inr (State.allIdle_of_all free)) hwrite,
    ← hget]
  exact State.storeSetting_reserve (g := { s.live with global := { s.live.global with reserve := reserve } }) rfl

end

/-! ### Bytes that name no key (R186, R200) -/

theorem Chan.ofByte_byteOf_none {n : Nat} (h : 4 ≤ n) (small : n < 256) : Chan.ofByte (byteOf n) = none :=
  Chan.ofByte_none (by rw [byteOf_toNat small]; exact h)

/-- Loop keys end at 0x2F, and only loops A and B have settings. -/
theorem SettingKey.ofBytes_noLoop {key index : Byte} (low : 0x20 ≤ key.toNat) (high : key.toNat < 0x40)
    (h : 0x30 ≤ key.toNat ∨ 2 ≤ index.toNat) : SettingKey.ofBytes key index = none := by
  simp only [SettingKey.ofBytes, if_neg (Nat.not_lt.mpr low), if_pos high]
  split
  · next hk hl =>
    obtain h | h := h
    · have hlength := (List.getElem?_eq_some_iff.mp hk).1
      change key.toNat - 0x20 < 16 at hlength
      omega
    · rw [Loop.ofByte_none h] at hl
      cases hl
  · rfl

/-- Only ports P0 to P2 have settings. -/
theorem SettingKey.ofBytes_noPort {key index : Byte} (h : key.toNat = 0x40 ∨ key.toNat = 0x41) (none : 3 ≤ index.toNat) :
    SettingKey.ofBytes key index = .none := by
  obtain h | h := h <;> simp [SettingKey.ofBytes, h, Port.ofByte_none none]

/-- Template keys run from 0x60 to 0x6E and have no index. -/
theorem SettingKey.ofBytes_noTemplate {key index : Byte} (high : 0x42 ≤ key.toNat)
    (h : index ≠ 0 ∨ key.toNat < 0x60 ∨ 0x6E < key.toNat) : SettingKey.ofBytes key index = none := by
  simp only [SettingKey.ofBytes, if_neg (show ¬key.toNat < 0x20 by omega), if_neg (show ¬key.toNat < 0x40 by omega),
    if_neg (show ¬key.toNat = 0x40 by omega), if_neg (show ¬key.toNat = 0x41 by omega)]
  by_cases hindex : index = 0
  · rw [if_neg (not_not.mpr hindex), TemplateKey.ofByte_none (h.resolve_left (not_not.mpr hindex))]
    rfl
  · exact if_pos hindex

/-- Global keys run from 0x01 to 0x0B and have no index. -/
theorem SettingKey.ofBytes_noGlobal {key index : Byte} (low : key.toNat < 0x20)
    (h : index ≠ 0 ∨ key.toNat = 0 ∨ 0x0C ≤ key.toNat) : SettingKey.ofBytes key index = none := by
  simp only [SettingKey.ofBytes, if_pos low]
  by_cases hindex : index = 0
  · rw [if_neg (not_not.mpr hindex)]
    obtain hkey | hkey := h.resolve_left (not_not.mpr hindex)
    · rw [if_neg (by omega), if_neg (by omega)]
    · rw [if_neg (by omega), if_pos (by omega), Chan.ofByte_byteOf_none (by omega) (by omega)]
      rfl
  · exact if_pos hindex

theorem SettingKey.ofBytes_none {key index : Byte}
    (h : key = 0x00 ∨ (0x0C ≤ key.toNat ∧ key.toNat < 0x20) ∨ (0x30 ≤ key.toNat ∧ key.toNat < 0x40)
      ∨ (0x42 ≤ key.toNat ∧ key.toNat < 0x60) ∨ 0x6F ≤ key.toNat
      ∨ (index ≠ 0 ∧ (key.toNat < 0x20 ∨ 0x60 ≤ key.toNat)) ∨ 3 ≤ index.toNat
      ∨ (index = 2 ∧ 0x20 ≤ key.toNat ∧ key.toNat < 0x40)) :
    SettingKey.ofBytes key index = none := by
  have hindex : index ≠ 0 ↔ index.toNat ≠ 0 := not_congr BitVec.toNat_inj.symm
  have hkey : key = 0x00 ↔ key.toNat = 0 := BitVec.toNat_inj.symm
  have htwo : index = 2 ↔ index.toNat = 2 := BitVec.toNat_inj.symm
  rw [hkey, hindex, htwo] at h
  rcases Nat.lt_or_ge key.toNat 0x20 with hlow | hlow
  · exact SettingKey.ofBytes_noGlobal hlow (by rw [hindex]; omega)
  rcases Nat.lt_or_ge key.toNat 0x40 with hloop | hloop
  · exact SettingKey.ofBytes_noLoop hlow hloop (by omega)
  rcases Nat.lt_or_ge key.toNat 0x42 with hport | hport
  · exact SettingKey.ofBytes_noPort (by omega) (by omega)
  · exact SettingKey.ofBytes_noTemplate hport (by rw [hindex]; omega)

end Sys2Proof.Machine


namespace Sys2Proof.Machine

/-! ### SET of a template key and of a port key (R185 to R187) -/

section
variable {s : State} {p : Port} (ready : s.ready p) {tag key v3 v2 v1 v0 : Byte}
include ready

theorem exec_setTemplate_stores {k : TemplateKey} (hkey : SettingKey.ofBytes key 0 = some (.template k))
    {new : ChannelSettings} (write : k.write (word v3 v2 v1 v0).toNat s.live.template = some new) {n : Nat}
    (read : k.read new = n) :
    exec (.setReq p tag [key, 0, v3, v2, v1, v0]) s
      = .next (({ s with live := { s.live with template := new } } : State).replied p
          (acceptanceOf tag (n != (word v3 v2 v1 v0).toNat) (bytes32 (BitVec.ofNat 32 n)))) := by
  have hwrite : SettingKey.write (.template k) (word v3 v2 v1 v0).toNat s.live
      = some { s.live with template := new } := by rw [SettingKey.write, write, Option.map_some]
  exact exec_set_stores ready hkey rfl hwrite read rfl

theorem exec_setTemplate_refused {k : TemplateKey} (hkey : SettingKey.ofBytes key 0 = some (.template k))
    (write : k.write (word v3 v2 v1 v0).toNat s.live.template = none) :
    exec (.setReq p tag [key, 0, v3, v2, v1, v0]) s = .next (s.replied p (refusal tag .badParam)) :=
  exec_set_refused ready hkey (Or.inl rfl) (by rw [SettingKey.write, write, Option.map_none])

variable {k : PortKey} {q : Port} (hkey : SettingKey.ofBytes key (Port.byte q) = some (.port k q))
include hkey

theorem exec_setPort_stores {y : PortSettings} (write : k.write (word v3 v2 v1 v0).toNat (s.live.port.get q) = some y)
    {n : Nat} (read : k.read y = n) :
    exec (.setReq p tag [key, Port.byte q, v3, v2, v1, v0]) s
      = .next { s.replied p (acceptanceOf tag (n != (word v3 v2 v1 v0).toNat) (bytes32 (BitVec.ofNat 32 n))) with
          live := { s.live with port := s.live.port.put q y } } := by
  have hwrite : SettingKey.write (.port k q) (word v3 v2 v1 v0).toNat s.live
      = some { s.live with port := s.live.port.put q y } := by rw [SettingKey.write, write, Option.map_some]
  have hread : SettingKey.read (.port k q) { s.live with port := s.live.port.put q y } = n :=
    (congrArg k.read (PerPort.get_put_same _ _ _)).trans read
  exact exec_set_stores_live ready hkey rfl hwrite hread

theorem exec_setPort_refused (write : k.write (word v3 v2 v1 v0).toNat (s.live.port.get q) = none) :
    exec (.setReq p tag [key, Port.byte q, v3, v2, v1, v0]) s = .next (s.replied p (refusal tag .badParam)) :=
  exec_set_refused ready hkey (Or.inl rfl) (by rw [SettingKey.write, write, Option.map_none])

end

theorem write_noticeMask {w : Word} (h : w &&& 0xFFFFC001#32 = 0#32) (x : PortSettings) :
    PortKey.noticeMask.write w.toNat x = some { x with noticeMask := w } := by
  have hword : BitVec.ofNat 32 w.toNat = w := by rw [BitVec.ofNat_toNat, BitVec.setWidth_eq]
  simp only [PortKey.write, if_pos ((maskable_iff w).mp h), hword]

theorem write_noticeMask_none {w : Word} (h : w &&& 0xFFFFC001#32 ≠ 0#32) (x : PortSettings) :
    PortKey.noticeMask.write w.toNat x = none := if_neg fun hw => h ((maskable_iff w).mpr hw)

/-- Settles O57: each key by the value it stores, in its group. -/
theorem settingsStored : Obligations.SettingsStored := by
  refine ⟨fun s p tag v3 v2 v1 v0 ready => ?global, fun s p tag v3 v2 v1 v0 ready => ?indexed,
    fun s p tag v3 v2 v1 v0 ready range => ?template⟩
  case global =>
    intro v run reply stores step
    refine ⟨exec_set_stores ready (k := .global .cadenceStep) rfl rfl rfl rfl rfl,
      exec_set_stores ready (k := .global .ringBudget) rfl rfl rfl rfl rfl,
      exec_set_stores ready (k := .global .assumedLoad) rfl rfl
        (by simp only [SettingKey.write, GlobalKey.write, clampNat_zero]; rfl) rfl rfl,
      exec_set_stores ready (k := .global .callerDelay) rfl rfl rfl rfl rfl,
      exec_set_stores ready (k := .global .testGate) rfl rfl rfl rfl rfl,
      exec_set_stores ready (k := .global .silenceLevel) rfl rfl
        (by simp only [SettingKey.write, GlobalKey.write, clampNat_zero]; rfl) rfl rfl,
      exec_set_stores ready (k := .global .toneDataMin) rfl rfl rfl rfl rfl,
      fun c => ⟨fun occupied => exec_setReserve_locked ready occupied, fun free exceeds => ?_,
        fun free fits => exec_setReserve_stores ready free rfl fits⟩,
      fun key index h => exec_set_noKey ready (SettingKey.ofBytes_none h)⟩
    exact exec_set_refused ready (SettingKey.ofBytes_reserve c) (Or.inr (State.allIdle_of_all free))
      (writeReserve_exceeds exceeds)
  case indexed =>
    intro v run reply refused
    refine ⟨fun l => ?_, fun q => ?_⟩
    · intro set stores threshold
      refine ⟨exec_setLoop_stores ready (k := .hookThreshold) ⟨by decide, rfl⟩ rfl rfl,
        exec_setLoop_stores ready (k := .hookQualify) ⟨by decide, rfl⟩ rfl rfl, ?pulseBreakMax, ?flashMin, ?hangupMin,
        exec_setLoop_stores ready (k := .interdigitMin) ⟨by decide, rfl⟩ rfl rfl,
        exec_setLoop_stores ready (k := .toneOnMin) ⟨by decide, rfl⟩ rfl rfl,
        exec_setLoop_stores ready (k := .toneOffMin) ⟨by decide, rfl⟩ rfl rfl,
        fun h => exec_setLoop_stores ready ⟨by decide, rfl⟩ (write_autoDialTone set h) (flagNat_eq_one h),
        fun k h => exec_setLoop_stores ready ⟨by decide, rfl⟩ (write_dialProgram set h) h.symm,
        fun h => exec_setLoop_stores ready ⟨by decide, rfl⟩ (write_offerSet set h) (offerBits_testBit h),
        exec_setLoop_stores ready (k := .rxGain) ⟨by decide, rfl⟩ (by simp only [LoopKey.write, clampNat_zero]; rfl) rfl,
        exec_setLoop_stores ready (k := .txGain) ⟨by decide, rfl⟩ (by simp only [LoopKey.write, clampNat_zero]; rfl) rfl,
        fun h => exec_setLoop_stores ready ⟨by decide, rfl⟩ (write_denyOnLoss set h) (flagNat_eq_one h),
        exec_setLoop_stores ready (k := .denyTime) ⟨by decide, rfl⟩ rfl rfl,
        fun k h => exec_setLoop_stores ready ⟨by decide, rfl⟩ (write_parkLostProgram set h) h.symm,
        fun h => exec_setLoop_stores ready ⟨by decide, rfl⟩ (write_parkLostProgram_off set h) h.symm,
        fun h => ⟨exec_setLoop_refused ready ⟨by decide, rfl⟩ (write_onOff_none set h).1,
          exec_setLoop_refused ready ⟨by decide, rfl⟩ (write_onOff_none set h).2⟩,
        fun h => ⟨exec_setLoop_refused ready ⟨by decide, rfl⟩ (write_program_none set h).1,
          exec_setLoop_refused ready ⟨by decide, rfl⟩ (write_program_none set h).2.1,
          fun hpark => exec_setLoop_refused ready ⟨by decide, rfl⟩ ((write_program_none set h).2.2 hpark)⟩⟩
      case pulseBreakMax =>
        intro n
        split
        · next h => exact exec_setLoop_stores ready (k := .pulseBreakMax) ⟨by decide, rfl⟩ (keepOrder_ordered h) rfl
        · next h => exact exec_setLoop_refused ready (k := .pulseBreakMax) ⟨by decide, rfl⟩ (keepOrder_broken h)
      case flashMin =>
        intro n
        split
        · next h => exact exec_setLoop_stores ready (k := .flashMin) ⟨by decide, rfl⟩ (keepOrder_ordered h) rfl
        · next h => exact exec_setLoop_refused ready (k := .flashMin) ⟨by decide, rfl⟩ (keepOrder_broken h)
      case hangupMin =>
        intro n
        split
        · next h => exact exec_setLoop_stores ready (k := .hangupMin) ⟨by decide, rfl⟩ (keepOrder_ordered h) rfl
        · next h => exact exec_setLoop_refused ready (k := .hangupMin) ⟨by decide, rfl⟩ (keepOrder_broken h)
    · intro set stores
      have hsilence : SettingKey.ofBytes 0x40 (Port.byte q) = some (.port .silenceTime q) := by cases q <;> rfl
      have hmask : SettingKey.ofBytes 0x41 (Port.byte q) = some (.port .noticeMask q) := by cases q <;> rfl
      exact ⟨exec_setPort_stores ready hsilence rfl rfl,
        fun h => exec_setPort_stores ready hmask (write_noticeMask h set) rfl,
        fun h => exec_setPort_refused ready hmask (write_noticeMask_none h set)⟩
  case template =>
    intro v set run stores low high start span
    refine ⟨exec_setTemplate_stores ready (k := .depthMin) rfl (congrArg some (boundDepths_depthMin range v)) rfl,
      exec_setTemplate_stores ready (k := .depthMax) rfl rfl rfl,
      exec_setTemplate_stores ready (k := .depthStart) rfl (congrArg some (boundDepths_depthStart range v)) rfl,
      exec_setTemplate_stores ready (k := .guard) rfl (by simp only [TemplateKey.write, clampNat_zero]; rfl) rfl,
      exec_setTemplate_stores ready (k := .window) rfl rfl rfl,
      exec_setTemplate_stores ready (k := .smoothing) rfl (by simp only [TemplateKey.write, clampNat_zero]; rfl) rfl,
      exec_setTemplate_stores ready (k := .dataDepth) rfl (congrArg some (boundDepths_dataDepth range v)) rfl,
      exec_setTemplate_stores ready (k := .dataSlack) rfl rfl rfl,
      exec_setTemplate_stores ready (k := .history) rfl rfl rfl,
      exec_setTemplate_stores ready (k := .redundancy) rfl
        (by simp only [TemplateKey.write, redundancy_write range]; rfl) rfl,
      exec_setTemplate_stores ready (k := .packet) rfl rfl rfl,
      fun h => ⟨exec_setTemplate_stores ready rfl (write_autoData set h) (flagNat_eq_one h),
        exec_setTemplate_stores ready rfl (write_suppressDigits set h) (flagNat_eq_one h)⟩,
      fun h => ⟨exec_setTemplate_refused ready rfl (write_autoData_none set h),
        exec_setTemplate_refused ready rfl (write_suppressDigits_none set h)⟩,
      exec_setTemplate_stores ready (k := .parkTime) rfl rfl rfl,
      exec_setTemplate_stores ready (k := .drainLimit) rfl (by simp only [TemplateKey.write, clampNat_zero]; rfl) rfl⟩

end Sys2Proof.Machine


namespace Sys2Proof.Machine

/-! ### GET (R188) -/

section
variable {s : State} {p : Port} (ready : s.ready p) {tag key index : Byte}
include ready

theorem exec_get_reads {k : SettingKey} (hkey : SettingKey.ofBytes key index = some k) {n : Nat}
    (read : k.read s.live = n) :
    exec (.getReq p tag [key, index]) s = .next (s.replied p (acceptance tag (bytes32 (BitVec.ofNat 32 n)))) := by
  subst read
  refine (exec_getReq_ready ready _ _).trans (congrArg _ ?_)
  rw [← State.accept_counted]
  simp only [getBody, hkey]
  rfl

theorem exec_get_noKey (h : SettingKey.ofBytes key index = none) :
    exec (.getReq p tag [key, index]) s = .next (s.replied p (refusal tag .badParam)) := by
  refine (exec_getReq_ready ready _ _).trans (s.refused_outcome p tag _ ?_)
  simp only [getBody, h]

theorem exec_get_loop {k : LoopKey} (named : k.Named key) {l : Loop} {n : Nat} (read : k.read (s.loopSet l) = n) :
    exec (.getReq p tag [key, Loop.byte l]) s
      = .next (s.replied p (acceptance tag (bytes32 (BitVec.ofNat 32 n)))) :=
  exec_get_reads ready (named.ofBytes l) read

end

/-! ### INQUIRE (R189, R200) -/

theorem nat16_zero : nat16 0 = [0, 0] := by decide

/-- A channel's part of the INQUIRE reply, state by state. -/
theorem Channel.inquire_eq (ch : Channel) (now : Word) :
    ch.inquire now
      = match ch.state with
        | .idle => [0, portOrNoneByte none, 0xFF, 0, 0, 0xFF, 0xFF, 0, 0]
        | .parked =>
          [2, portOrNoneByte none, Loop.byte ch.loop, flagByte ch.lead, ch.mode.byte, Port.byte ch.oldHolder,
            ch.parkCause.byte] ++ nat16 (msLeft now ch.parkDeadline)
        | .run =>
          [1, portOrNoneByte ch.holder, Loop.byte ch.loop, flagByte ch.lead, ch.mode.byte, 0xFF, 0xFF, 0, 0]
        | .draining =>
          [3, portOrNoneByte ch.holder, Loop.byte ch.loop, flagByte ch.lead, ch.mode.byte, 0xFF, 0xFF, 0, 0] := by
  cases h : ch.state <;> simp [Channel.inquire, Channel.holderOf, h, ChanState.byte, nat16_zero]

theorem Channel.inquire_length (ch : Channel) (now : Word) : (ch.inquire now).length = 9 := by
  rw [Channel.inquire_eq]
  cases ch.state <;> rfl

theorem PortState.inquire_length (x : PortState) : x.inquire.length = 17 := rfl

/-- The INQUIRE reply, block by block. -/
theorem State.inquiry_eq (s : State) :
    s.inquiry
      = [0x24, 0x18, 1, 2, 4, 3, 1, 0, 8, 4] ++ s.inquireLoop .a ++ s.inquireLoop .b
          ++ (s.chan .c0).inquire s.timebase ++ (s.chan .c1).inquire s.timebase ++ (s.chan .c2).inquire s.timebase
          ++ (s.chan .c3).inquire s.timebase ++ (s.port .p0).inquire ++ (s.port .p1).inquire ++ (s.port .p2).inquire
          ++ [BitVec.ofNat 8 s.store.start.val, 0, s.store.slot1.byte, s.store.slot2.byte, s.store.slot3.byte] := by
  have hhead : ([0x24, 0x18, 1, 2, 4, 3] ++ nat16 256 ++ [8, 4] : List Byte) = [0x24, 0x18, 1, 2, 4, 3, 1, 0, 8, 4] := by
    decide
  unfold State.inquiry
  rw [hhead]
  simp only [Loop.all, Chan.all, Port.all, List.flatMap_cons, List.flatMap_nil, List.append_nil, List.append_assoc]
  rfl

theorem State.inquiry_length (s : State) : s.inquiry.length = 108 := by
  rw [State.inquiry_eq]
  simp only [List.length_append, Channel.inquire_length, PortState.inquire_length]
  rfl

end Sys2Proof.Machine


namespace Sys2Proof.Machine

theorem inquireBody_reports (s : State) (p : Port) (tag : Byte) : inquireBody p tag [] s = s.accept p tag s.inquiry := rfl

theorem State.inquiry_counted (s : State) (p : Port) : (s.counted p).inquiry = s.inquiry := by
  have hport (q : Port) : ((s.counted p).port q).inquire = (s.port q).inquire := by
    unfold State.counted
    by_cases h : q = p
    · subst h
      rw [State.port_modPort_same]
      rfl
    · rw [State.port_modPort_ne _ h]
  simp only [State.inquiry_eq, hport]
  rfl

/-- Settles O58: each key by the value it reads, and the report block by block. -/
theorem settingsReadAndReported : Obligations.SettingsReadAndReported := by
  refine ⟨fun s p tag ready => ?get, fun s p tag ready => ?inquire⟩
  case get =>
    refine ⟨⟨exec_get_reads ready rfl rfl, exec_get_reads ready rfl rfl, exec_get_reads ready rfl rfl,
        exec_get_reads ready rfl rfl, exec_get_reads ready rfl rfl, exec_get_reads ready rfl rfl,
        exec_get_reads ready rfl rfl, fun c => exec_get_reads ready (SettingKey.ofBytes_reserve c) rfl⟩,
      fun l => ?loop, fun q => ?port, ?template, fun key index h => exec_get_noKey ready (SettingKey.ofBytes_none h)⟩
    case loop =>
      exact ⟨exec_get_loop ready ⟨by decide, rfl⟩ rfl, exec_get_loop ready ⟨by decide, rfl⟩ rfl,
        exec_get_loop ready ⟨by decide, rfl⟩ rfl, exec_get_loop ready ⟨by decide, rfl⟩ rfl,
        exec_get_loop ready ⟨by decide, rfl⟩ rfl, exec_get_loop ready ⟨by decide, rfl⟩ rfl,
        exec_get_loop ready ⟨by decide, rfl⟩ rfl, exec_get_loop ready ⟨by decide, rfl⟩ rfl,
        exec_get_loop ready ⟨by decide, rfl⟩ rfl, exec_get_loop ready ⟨by decide, rfl⟩ rfl,
        exec_get_loop ready ⟨by decide, rfl⟩ rfl, exec_get_loop ready ⟨by decide, rfl⟩ rfl,
        exec_get_loop ready ⟨by decide, rfl⟩ rfl, exec_get_loop ready ⟨by decide, rfl⟩ rfl,
        exec_get_loop ready ⟨by decide, rfl⟩ rfl, exec_get_loop ready ⟨by decide, rfl⟩ rfl⟩
    case port =>
      exact ⟨exec_get_reads ready (k := .port .silenceTime q) (by cases q <;> rfl) rfl,
        exec_get_reads ready (k := .port .noticeMask q) (by cases q <;> rfl) rfl⟩
    case template =>
      exact ⟨exec_get_reads ready rfl rfl, exec_get_reads ready rfl rfl, exec_get_reads ready rfl rfl,
        exec_get_reads ready rfl rfl, exec_get_reads ready rfl rfl, exec_get_reads ready rfl rfl,
        exec_get_reads ready rfl rfl, exec_get_reads ready rfl rfl, exec_get_reads ready rfl rfl,
        exec_get_reads ready rfl rfl, exec_get_reads ready rfl rfl, exec_get_reads ready rfl rfl,
        exec_get_reads ready rfl rfl, exec_get_reads ready rfl rfl, exec_get_reads ready rfl rfl⟩
  case inquire =>
    intro flag loop chan port report
    have hchan (c : Chan) : (s.chan c).inquire s.timebase = chan c := by
      rw [Channel.inquire_eq]
      cases h : (s.chan c).state <;> simp [chan, flag, flagByte, h]
    have hreport : s.inquiry = report := by
      rw [State.inquiry_eq, hchan, hchan, hchan, hchan]
      rfl
    rw [← hreport]
    refine ⟨?_, s.inquiry_length⟩
    rw [exec_inquireReq_ready ready, inquireBody_reports, State.inquiry_counted, State.accept_counted]

end Sys2Proof.Machine


namespace Sys2Proof.Machine

/-! ### PROFILE_SAVE and the end of its write (R190) -/

section
variable {s : State} {p : Port} {tag b : Byte}

theorem profileSaveBody_badSlot (h : b.toNat < 1 ∨ 3 < b.toNat) (s : State) :
    profileSaveBody p tag [b] s = s.refuse p tag .badParam := if_pos h

variable (slot : 1 ≤ b.toNat ∧ b.toNat ≤ 3)
include slot

theorem profileSaveBody_busy (writing : s.store.save.isSome = true) :
    profileSaveBody p tag [b] s = s.refuse p tag .busy :=
  (if_neg (by omega)).trans (if_pos writing)

theorem profileSaveBody_saves (idle : s.store.save = none) :
    profileSaveBody p tag [b] s = (s.beginSave p b.toNat).accept p tag [] :=
  (if_neg (by omega)).trans (if_neg (by simp [idle]))

end

/-- A slot 1 to 3 replaced (R190). -/
theorem Store.putSlot_eq (x : Store) {n : Nat} (h : n = 1 ∨ n = 2 ∨ n = 3) (v : Slot) :
    x.putSlot n v
      = if n = 1 then { x with slot1 := v } else if n = 2 then { x with slot2 := v } else { x with slot3 := v } := by
  obtain rfl | rfl | rfl := h <;> rfl

theorem execSaveComplete_idle {s : State} (h : s.store.save = none) : execSaveComplete s = .next s := by
  simp only [execSaveComplete, h]

theorem execSaveComplete_saving {s : State} {v : Save} (h : s.store.save = some v) :
    execSaveComplete s
      = if 1 ≤ (s.timebase - v.accepted).toNat ∧ (s.timebase - v.accepted).toNat ≤ 480 then .next (s.endSave v)
        else .next s := by
  simp only [execSaveComplete, h]
  rfl

/-! ### PROFILE_LOAD and PROFILE_START (R192, R193) -/

theorem slotOf_eq_none {b : Byte} (h : 4 ≤ b.toNat) : slotOf b = none := dif_neg (Nat.not_lt.mpr h)

theorem slotOf_eq_some {b : Byte} {k : Fin 4} (h : b.toNat = k.val) : slotOf b = some k := by
  have hlt : b.toNat < 4 := h ▸ k.isLt
  exact (dif_pos hlt).trans (congrArg some (Fin.ext h))

section
variable {s : State} {p : Port} {tag b : Byte}

theorem profileLoadBody_badSlot (h : 4 ≤ b.toNat) (s : State) :
    profileLoadBody p tag [b] s = s.refuse p tag .badParam := by
  simp only [profileLoadBody, slotOf_eq_none h]

theorem profileStartBody_badSlot (h : 4 ≤ b.toNat) (s : State) :
    profileStartBody p tag [b] s = s.refuse p tag .badParam := by
  simp only [profileStartBody, slotOf_eq_none h]

theorem profileStartBody_stores {k : Fin 4} (h : b.toNat = k.val) (s : State) :
    profileStartBody p tag [b] s = ({ s with store := { s.store with start := k } } : State).accept p tag [] := by
  simp only [profileStartBody, slotOf_eq_some h]

variable {k : Fin 4} (named : b.toNat = k.val)
include named

theorem profileLoadBody_busy (writing : s.store.save.isSome = true) :
    profileLoadBody p tag [b] s = s.refuse p tag .busy := by
  simp only [profileLoadBody, slotOf_eq_some named, writing, if_true]

variable (settled : s.store.save = none)
include settled

theorem profileLoadBody_occupied (occupied : s.allIdle = false) :
    profileLoadBody p tag [b] s = s.refuse p tag .wrongState := by
  simp only [profileLoadBody, slotOf_eq_some named, settled, Option.isSome_none, Bool.false_eq_true, if_false, occupied,
    Bool.not_false, if_true]

theorem profileLoadBody_noProfile (free : s.allIdle = true) (h : s.store.profile k.val = none) :
    profileLoadBody p tag [b] s = s.refuse p tag .wrongState := by
  simp only [profileLoadBody, slotOf_eq_some named, settled, Option.isSome_none, Bool.false_eq_true, if_false, free,
    Bool.not_true, h]

theorem profileLoadBody_loads (free : s.allIdle = true) {g : Profile} (h : s.store.profile k.val = some g) :
    profileLoadBody p tag [b] s = (s.loadProfile g).accept p tag [] := by
  simp only [profileLoadBody, slotOf_eq_some named, settled, Option.isSome_none, Bool.false_eq_true, if_false, free,
    Bool.not_true, h]

end

theorem Store.profile_of_valid {x : Store} {n : Nat} {g : Profile} (h : x.slot n = .valid g) : x.profile n = some g := by
  rw [Store.profile, h]

theorem Store.profile_of_not_valid {x : Store} {n : Nat} (h : x.slot n = .invalid ∨ x.slot n = .writing) :
    x.profile n = none := by
  obtain h | h := h <;> rw [Store.profile, h]

/-- The slot a byte below 4 names: slot 0 is the factory profile (12.2). -/
theorem Store.slot_toNat (x : Store) {b : Byte} (h : b.toNat < 4) :
    x.slot b.toNat
      = if b = 0 then .valid factoryProfile
        else if b = 1 then x.slot1
        else if b = 2 then x.slot2
        else x.slot3 := by
  have hb (c : Byte) : b = c ↔ b.toNat = c.toNat := BitVec.toNat_inj.symm
  obtain hn | hn | hn | hn : b.toNat = 0 ∨ b.toNat = 1 ∨ b.toNat = 2 ∨ b.toNat = 3 := by omega
  · rw [(hb 0).mpr hn]; rfl
  · rw [(hb 1).mpr hn]; rfl
  · rw [(hb 2).mpr hn]; rfl
  · rw [(hb 3).mpr hn]; rfl

/-- Settles O59: the slot named, then the write in progress, then the channels and the slot's state. -/
theorem profilesAnswered : Obligations.ProfilesAnswered := by
  refine ⟨fun s p tag b ready => ?save, fun s p tag b ready => ?load⟩
  case save =>
    have hb (c : Byte) : b = c ↔ b.toNat = c.toNat := BitVec.toNat_inj.symm
    have hslot (h : b = 1 ∨ b = 2 ∨ b = 3) : b.toNat = 1 ∨ b.toNat = 2 ∨ b.toNat = 3 := by
      rwa [hb 1, hb 2, hb 3] at h
    have hexec := exec_profileSaveReq_ready ready tag [b]
    intro run writing
    refine ⟨fun h => ?_, fun h busy => ?_, fun h idle => ?_, execSaveComplete_idle, fun v saving slot => ?_⟩
    · refine hexec.trans (s.refused_outcome p tag _ (profileSaveBody_badSlot ?_ _))
      rw [hb 0] at h
      change b.toNat = 0 ∨ 4 ≤ b.toNat at h
      omega
    · have hrange := hslot h
      exact hexec.trans (s.refused_outcome p tag _ (profileSaveBody_busy (s := s.counted p) (by omega) busy))
    · have hrange := hslot h
      refine hexec.trans (congrArg _ ((profileSaveBody_saves (s := s.counted p) (by omega) idle).trans ?_))
      have hput : s.store.putSlot b.toNat .writing = writing s.store := by
        rw [Store.putSlot_eq _ hrange]
        exact if_congr (hb 1).symm rfl (if_congr (hb 2).symm rfl rfl)
      rw [← State.accept_counted]
      exact congrArg (fun x : Store =>
        (({ s with store := { x with save := some ⟨b.toNat, s.live, p, s.timebase⟩ } } : State).counted p).accept p tag [])
        hput
    · have hrun := execSaveComplete_saving saving
      refine ⟨fun h => hrun.trans (if_neg (by omega)), fun low high => (hrun.trans (if_pos ⟨low, high⟩)).trans ?_⟩
      rw [State.endSave, Store.putSlot_eq _ slot]
  case load =>
    have hload := exec_profileLoadReq_ready ready tag [b]
    refine ⟨fun h => ⟨hload.trans (s.refused_outcome p tag _ (profileLoadBody_badSlot h _)),
        (exec_profileStartReq_ready ready _ _).trans (s.refused_outcome p tag _ (profileStartBody_badSlot h _))⟩,
      fun h busy => ?_, fun h idle occupied => ?_, fun h idle free bad => ?_, fun g h idle free good => ?_,
      fun k named => ?_⟩
    · exact hload.trans (s.refused_outcome p tag _
        (profileLoadBody_busy (s := s.counted p) (k := ⟨b.toNat, h⟩) rfl busy))
    · exact hload.trans (s.refused_outcome p tag _ (profileLoadBody_occupied (s := s.counted p) (k := ⟨b.toNat, h⟩) rfl
        idle (State.not_allIdle_of occupied)))
    · have hprofile : s.store.profile b.toNat = none :=
        Store.profile_of_not_valid (by rw [s.store.slot_toNat h]; exact bad)
      exact hload.trans (s.refused_outcome p tag _ (profileLoadBody_noProfile (s := s.counted p) (k := ⟨b.toNat, h⟩) rfl
        idle (State.allIdle_of_all free) hprofile))
    · have hprofile : s.store.profile b.toNat = some g := Store.profile_of_valid ((s.store.slot_toNat h).trans good)
      refine hload.trans (congrArg _ ((profileLoadBody_loads (s := s.counted p) (k := ⟨b.toNat, h⟩) rfl idle
        (State.allIdle_of_all free) hprofile).trans ?_))
      rw [← State.accept_counted]
      rfl
    · refine (exec_profileStartReq_ready ready _ _).trans (congrArg _ ((profileStartBody_stores named _).trans ?_))
      exact State.accept_counted ({ s with store := { s.store with start := k } } : State) p tag []

end Sys2Proof.Machine


namespace Sys2Proof.Machine

/-! ### The store through a reset (R191) -/

/-- A slot after a reset: INVALID when a write to it was in progress (R191). -/
def Store.abandoned (x : Store) (n : Nat) (v : Slot) : Slot :=
  match x.save with
  | some w => if w.slot = n then .invalid else v
  | none => v

theorem Store.abandonSave_eq (x : Store) :
    x.abandonSave
      = { x with
          slot1 := x.abandoned 1 x.slot1
          slot2 := x.abandoned 2 x.slot2
          slot3 := x.abandoned 3 x.slot3
          save := none } := by
  unfold Store.abandonSave Store.abandoned
  cases hsave : x.save with
  | none =>
    cases x
    cases hsave
    rfl
  | some w =>
    dsimp only
    by_cases h1 : w.slot = 1
    · simp [h1, Store.putSlot]
    by_cases h2 : w.slot = 2
    · simp [h2, Store.putSlot]
    by_cases h3 : w.slot = 3
    · simp [h3, Store.putSlot]
    · have hput : x.putSlot w.slot .invalid = x := by
        unfold Store.putSlot
        split
        · next h => exact absurd h h1
        · next h => exact absurd h h2
        · next h => exact absurd h h3
        · rfl
      rw [hput, if_neg h1, if_neg h2, if_neg h3]

/-- The slot a number below 4 names. -/
theorem Store.slot_val (x : Store) (k : Fin 4) :
    x.slot k.val
      = if k = 0 then .valid factoryProfile else if k = 1 then x.slot1 else if k = 2 then x.slot2 else x.slot3 := by
  match k with
  | 0 => rfl
  | 1 => rfl
  | 2 => rfl
  | 3 => rfl

/-! ### RESTART (R194) -/

theorem Channel.blocksRestart_iff (p : Port) (ch : Channel) :
    ch.blocksRestart p = true ↔ ch.state = .parked ∨ (ch.state = .run ∨ ch.state = .draining) ∧ ch.holder ≠ some p := by
  unfold Channel.blocksRestart
  cases ch.state <;> simp

theorem State.blocksRestart_iff (s : State) (p : Port) :
    Chan.all.any (fun c => (s.chan c).blocksRestart p) = true
      ↔ ∃ c, (s.chan c).state = .parked
          ∨ ((s.chan c).state = .run ∨ (s.chan c).state = .draining) ∧ (s.chan c).holder ≠ some p := by
  have hall (c : Chan) : c ∈ Chan.all := by cases c <;> decide
  simp only [List.any_eq_true, Channel.blocksRestart_iff]
  exact exists_congr fun c => and_iff_right (hall c)

section
variable {s : State} {p : Port} {tag : Byte}

theorem restartBody_busy
    (h : s.restart ≠ .none ∨ Chan.all.any (fun c => (s.chan c).blocksRestart p) = true) :
    restartBody p tag [] s = s.refuse p tag .busy := if_pos h

theorem restartBody_waits
    (h : ¬(s.restart ≠ .none ∨ Chan.all.any (fun c => (s.chan c).blocksRestart p) = true)) :
    restartBody p tag [] s = { s.answer p ⟨tag, .ok, [], true⟩ with restart := .pending p } := if_neg h

end

/-! ### Power-on and the reset line (R193) -/

theorem State.startUp_profile {s : State} {cause : StartCause} {g : Profile}
    (h : s.store.abandonSave.slot s.store.abandonSave.start.val = .valid g) :
    s.startUp cause = s.startWith cause s.store.abandonSave g s.store.abandonSave.start.val false := by
  simp only [State.startUp, Store.profile_of_valid h]

theorem State.startUp_fallback {s : State} {cause : StartCause}
    (h : s.store.abandonSave.slot s.store.abandonSave.start.val = .invalid
      ∨ s.store.abandonSave.slot s.store.abandonSave.start.val = .writing) :
    s.startUp cause = s.startWith cause s.store.abandonSave factoryProfile 0 true := by
  simp only [State.startUp, Store.profile_of_not_valid h]

/-- Settles O60: RESTART by what stands in its way, the restart when it is due, and a start-up by its start slot. -/
theorem restartsAndStartUps : Obligations.RestartsAndStartUps := by
  refine ⟨fun s p tag ready => ⟨fun h => ?busy, fun free open_ => ?waits, fun h => if_neg h, fun due => ?taken⟩,
    fun s => ⟨fun g h => ?profile, fun h => ?fallback⟩⟩
  case busy =>
    refine (exec_restartReq_ready ready _ _).trans (s.refused_outcome p tag _ (restartBody_busy (s := s.counted p) ?_))
    exact h.imp id ((s.counted p).blocksRestart_iff p).mpr
  case waits =>
    have hfree : ¬((s.counted p).restart ≠ .none
        ∨ Chan.all.any (fun c => ((s.counted p).chan c).blocksRestart p) = true) := by
      rintro (h | h)
      · exact h free
      · obtain ⟨c, hc⟩ := ((s.counted p).blocksRestart_iff p).mp h
        exact open_ c hc
    refine (exec_restartReq_ready ready _ _).trans (congrArg _ ((restartBody_waits hfree).trans ?_))
    rw [State.replied_eq]
  case taken =>
    refine (if_pos due).trans (congrArg _ ?_)
    unfold State.restarted
    rw [Store.abandonSave_eq]
    rfl
  case profile =>
    have hslot : s.store.abandonSave.slot s.store.abandonSave.start.val = .valid g := by
      rw [Store.slot_val, Store.abandonSave_eq]
      exact h
    have hrun (cause : StartCause) := State.startUp_profile (cause := cause) hslot
    rw [Store.abandonSave_eq] at hrun
    exact ⟨congrArg _ (hrun .power), congrArg _ (hrun .line)⟩
  case fallback =>
    have hslot : s.store.abandonSave.slot s.store.abandonSave.start.val = .invalid
        ∨ s.store.abandonSave.slot s.store.abandonSave.start.val = .writing := by
      rw [Store.slot_val, Store.abandonSave_eq]
      exact h
    have hrun (cause : StartCause) := State.startUp_fallback (cause := cause) hslot
    rw [Store.abandonSave_eq] at hrun
    exact ⟨congrArg _ (hrun .power), congrArg _ (hrun .line)⟩

end Sys2Proof.Machine


namespace Sys2Proof.Machine

/-! ### What every reset leaves sound -/

section
variable (set : ChannelSettings)

theorem afterReset_timingBounds : TimingBounds (Channel.afterReset set).tru := cleared_timingBounds (est := 0) (by decide) 0

theorem afterReset_ringOrdered : RingOrdered (Channel.afterReset set).uf := ⟨Nat.le_refl 0, trivial⟩

theorem afterReset_playoutSound : PlayoutSound (Channel.afterReset set).pe := cleared_sound false

theorem afterReset_queueOrdered : QueueOrdered (Channel.afterReset set) :=
  ⟨fun _ => rfl, fun _ h => absurd h List.not_mem_nil, List.Pairwise.nil⟩

end

theorem afterReset_queueLimits (now : Word) (cause : StartCause) (slot : Option Nat) (fallback : Bool) :
    QueueLimits (PortState.afterReset (startNotice now cause slot fallback)) where
  notices := show 1 ≤ 28 by decide
  replies := rfl
  outstanding := Nat.zero_le 4
  mark h := nomatch h
  down _ := ⟨fun e he => by rw [List.mem_singleton.mp he]; rfl, rfl⟩

theorem afterReset_transferSound (start : Notice) : TransferSound (PortState.afterReset start) :=
  ⟨fun _ h => (nomatch h), fun _ _ h => (nomatch h), fun _ _ _ _ h => (nomatch h)⟩

section
variable (now : Word) (threshold : Nat) (current : Int) (key : Option Byte) (start : Word) (codec : Sample)
  (load : Option Nat)

theorem afterReset_feedAgrees (block : List MixSample) :
    FeedAgrees (LoopState.afterReset now threshold current key start block codec load) := by
  constructor <;> simp [LoopState.afterReset, LineTest.cleared]

theorem afterReset_loopBounds : LoopBounds (LoopState.afterReset now threshold current key start [] codec load) := by
  constructor <;> simp [LoopState.afterReset]

end

/-- The state after reset is fresh beside itself. -/
theorem reset_fresh : FreshFrom State.reset State.reset where
  chans c := by cases c <;> exact ⟨_, rfl⟩
  ports p := by cases p <;> exact ⟨_, _, _, _, rfl⟩
  loops l := by cases l <;> exact ⟨_, _, _, _, _, _, _, _, rfl, .inl rfl⟩
  pool := rfl
  live := .inl rfl
  store _ h := h

/-- The factory's part can load the factory profile alone. -/
theorem reset_everyProfile {good : Profile → Prop} (factory : good factoryProfile) : State.reset.everyProfile good := by
  refine ⟨factory, fun g h => ?_⟩
  obtain h | h | h | ⟨v, h, -⟩ := h <;> cases h

/-- Settles O3: every field of the state after reset, and each soundness from what any reset leaves. -/
theorem stateAfterReset : Obligations.StateAfterReset := by
  refine ⟨⟨rfl, rfl, rfl, rfl, rfl, rfl, rfl, rfl, fun c => ?chans, fun l => ?loops, fun p => ?ports⟩,
    reset_fresh.poolAccounts factoryProfile_reservesFit, reset_everyProfile factoryProfile_reservesFit, fun p => ?limits,
    fun p => ?transfers, fun c => ?bound, fun l => (reset_fresh.bindings (excused := fun _ => False)).led l, fun l => ?feed,
    fun c => ?timing, fun c => ?ring, fun c => ?playout, fun c => ?queue, fun l => ?bounds, fun c => ?notices,
    reset_everyProfile factoryProfile_inRange, fun c => ?settings⟩
  case chans =>
    cases c <;>
      exact ⟨rfl, rfl, rfl, rfl, rfl, rfl, rfl, rfl, rfl, rfl, rfl, rfl, rfl, rfl, rfl, rfl, rfl, rfl, rfl, rfl, rfl, rfl,
        rfl, rfl⟩
  case loops =>
    cases l <;> exact ⟨rfl, rfl, rfl, rfl, rfl, rfl, rfl, rfl, rfl, rfl, rfl, rfl, rfl, rfl, rfl, rfl, rfl⟩
  case ports => cases p <;> exact ⟨rfl, rfl, rfl, rfl, rfl, rfl, rfl, rfl, rfl, rfl, rfl, rfl, rfl, rfl⟩
  case limits => cases p <;> exact afterReset_queueLimits ..
  case transfers => cases p <;> exact afterReset_transferSound _
  case bound => cases c <;> exact ⟨rfl, rfl, rfl, rfl⟩
  case feed => cases l <;> exact afterReset_feedAgrees ..
  case timing => cases c <;> exact afterReset_timingBounds _
  case ring => cases c <;> exact afterReset_ringOrdered _
  case playout => cases c <;> exact afterReset_playoutSound _
  case queue => cases c <;> exact afterReset_queueOrdered _
  case bounds => cases l <;> exact afterReset_loopBounds ..
  case notices => cases c <;> exact Nat.zero_le 8
  case settings =>
    intro attached
    cases c <;> exact absurd rfl attached

end Sys2Proof.Machine

section
/-! Every operation of the part beside the queue: what it makes of the state does not ask which commands wait. -/

namespace Sys2Proof.Machine

/-- The state with the commands `q` waiting. -/
def State.withQueue (s : State) (q : List Instr) : State := { s with pending := q }

/-- The outcome with the commands `q` waiting in its state. -/
def outcomeBeside (q : List Instr) : Host.Outcome State Fault Refusal → Host.Outcome State Fault Refusal
  | .next t => .next (t.withQueue q)
  | .fault r => .fault r
  | .refused r => .refused r

@[simp] theorem outcomeBeside_next (q : List Instr) (t : State) :
    outcomeBeside q (.next t) = .next (t.withQueue q) := rfl

/-- A choice whose two branches commute with the queue commutes with it. -/
theorem ite_withQueue (q : List Instr) {P : Prop} [Decidable P] {t u t' u' : State} (then_eq : t' = t.withQueue q)
    (else_eq : u' = u.withQueue q) : (if P then t' else u') = (if P then t else u).withQueue q := by
  rw [then_eq, else_eq, apply_ite (State.withQueue · q)]

section
variable (s : State) (q : List Instr)

/-! ### The state and the moves the commands share -/

@[simp] theorem State.timebase_withQueue : (s.withQueue q).timebase = s.timebase := rfl

@[simp] theorem State.pool_withQueue : (s.withQueue q).pool = s.pool := rfl

@[simp] theorem State.nextBoundary_withQueue : (s.withQueue q).nextBoundary = s.nextBoundary := rfl

@[simp] theorem State.live_withQueue : (s.withQueue q).live = s.live := rfl

@[simp] theorem State.store_withQueue : (s.withQueue q).store = s.store := rfl

@[simp] theorem State.restart_withQueue : (s.withQueue q).restart = s.restart := rfl

@[simp] theorem State.chan_withQueue (c : Chan) : (s.withQueue q).chan c = s.chan c := rfl

@[simp] theorem State.modChan_withQueue (c : Chan) (f : Channel → Channel) :
    (s.withQueue q).modChan c f = (s.modChan c f).withQueue q := rfl

@[simp] theorem State.loop_withQueue (l : Loop) : (s.withQueue q).loop l = s.loop l := rfl

@[simp] theorem State.modLoop_withQueue (l : Loop) (f : LoopState → LoopState) :
    (s.withQueue q).modLoop l f = (s.modLoop l f).withQueue q := rfl

@[simp] theorem State.port_withQueue (p : Port) : (s.withQueue q).port p = s.port p := rfl

@[simp] theorem State.modPort_withQueue (p : Port) (f : PortState → PortState) :
    (s.withQueue q).modPort p f = (s.modPort p f).withQueue q := rfl

@[simp] theorem State.loopSet_withQueue (l : Loop) : (s.withQueue q).loopSet l = s.loopSet l := rfl

@[simp] theorem msField_withQueue (n : Nat) :
    msField n (s.withQueue q) = ((msField n s).1, (msField n s).2.withQueue q) := by
  unfold msField
  split <;> rfl

@[simp] theorem State.attached_withQueue (l : Loop) : (s.withQueue q).attached l = s.attached l := rfl

@[simp] theorem State.leadOf_withQueue (l : Loop) : (s.withQueue q).leadOf l = s.leadOf l := rfl

@[simp] theorem State.speaksFor_withQueue (l : Loop) (p : Port) :
    (s.withQueue q).speaksFor l p = s.speaksFor l p := rfl

@[simp] theorem State.authority_withQueue (l : Loop) (p : Port) :
    (s.withQueue q).authority l p = s.authority l p := rfl

@[simp] theorem State.offer_withQueue (p : Port) (n : Notice) :
    (s.withQueue q).offer p n = (s.offer p n).withQueue q := rfl

@[simp] theorem State.offerEach_withQueue (ps : List Port) (n : Notice) :
    (s.withQueue q).offerEach ps n = (s.offerEach ps n).withQueue q := by
  exact List.foldl_hom (State.withQueue · q) fun _ _ => rfl

@[simp] theorem State.offerList_withQueue (p : Port) (ns : List Notice) :
    (s.withQueue q).offerList p ns = (s.offerList p ns).withQueue q := by
  exact List.foldl_hom (State.withQueue · q) fun _ _ => rfl

@[simp] theorem State.offerTo_withQueue (p : Option Port) (n : Notice) :
    (s.withQueue q).offerTo p n = (s.offerTo p n).withQueue q := by
  unfold State.offerTo
  split <;> rfl

@[simp] theorem State.offerPorts_withQueue (l : Loop) : (s.withQueue q).offerPorts l = s.offerPorts l := rfl

@[simp] theorem State.routeChannel_withQueue (c : Chan) (n : Notice) :
    (s.withQueue q).routeChannel c n = (s.routeChannel c n).withQueue q := by
  unfold State.routeChannel
  simp
  split <;> rfl

@[simp] theorem State.routeLoop_withQueue (l : Loop) (n : Notice) :
    (s.withQueue q).routeLoop l n = (s.routeLoop l n).withQueue q := by
  unfold State.routeLoop
  simp
  split <;> rfl

@[simp] theorem State.raiseLoop_withQueue (l : Loop) (d : NoticeData) :
    (s.withQueue q).raiseLoop l d = (s.raiseLoop l d).withQueue q := by
  simp [State.raiseLoop]

@[simp] theorem State.routeRing_withQueue (l : Loop) (owner : Port) (lost : Bool) (n : Notice) :
    (s.withQueue q).routeRing l owner lost n = (s.routeRing l owner lost n).withQueue q := by
  unfold State.routeRing
  split <;> simp

@[simp] theorem State.messageTaken_withQueue (p : Port) :
    (s.withQueue q).messageTaken p = (s.messageTaken p).withQueue q := by
  by_cases up : (s.port p).up <;> simp [State.messageTaken, up]

@[simp] theorem State.countBadFrame_withQueue (p : Port) :
    (s.withQueue q).countBadFrame p = (s.countBadFrame p).withQueue q := rfl

@[simp] theorem State.refuse_withQueue (p : Port) (tag : Byte) (code : ReplyCode) :
    (s.withQueue q).refuse p tag code = (s.refuse p tag code).withQueue q := rfl

@[simp] theorem State.accept_withQueue (p : Port) (tag : Byte) (results : List Byte) :
    (s.withQueue q).accept p tag results = (s.accept p tag results).withQueue q := rfl

@[simp] theorem State.acceptClamped_withQueue (p : Port) (tag : Byte) (clamped : Bool) (results : List Byte) :
    (s.withQueue q).acceptClamped p tag clamped results = (s.acceptClamped p tag clamped results).withQueue q := rfl

@[simp] theorem State.reserves_withQueue : (s.withQueue q).reserves = s.reserves := rfl

@[simp] theorem State.modPool_withQueue (f : Pool → Pool) :
    (s.withQueue q).modPool f = (s.modPool f).withQueue q := rfl

@[simp] theorem State.allIdle_withQueue : (s.withQueue q).allIdle = s.allIdle := rfl

/-! ### Tones, the channels, parking and draining -/

@[simp] theorem State.toneEnded_withQueue (l : Loop) (t : Tone) (cause : ToneCause) (moment : Word) :
    (s.withQueue q).toneEnded l t cause moment = (s.toneEnded l t cause moment).withQueue q := by
  unfold State.toneEnded
  split <;> rfl

@[simp] theorem State.endTone_withQueue (l : Loop) (cause : ToneCause) (moment : Word) :
    (s.withQueue q).endTone l cause moment = (s.endTone l cause moment).withQueue q := by
  unfold State.endTone
  simp
  split <;> rfl

@[simp] theorem State.startTone_withQueue (l : Loop) (kind : ToneKind) (requester : Port) (number : Fin 8) :
    (s.withQueue q).startTone l kind requester number = (s.startTone l kind requester number).withQueue q := by
  simp [State.startTone]

@[simp] theorem State.passLead_withQueue (l : Loop) : (s.withQueue q).passLead l = (s.passLead l).withQueue q := by
  unfold State.passLead
  simp
  split <;> rfl

@[simp] theorem State.toIdle_withQueue (c : Chan) : (s.withQueue q).toIdle c = (s.toIdle c).withQueue q := by
  have stale (u : State) : { u.withQueue q with ports := (u.withQueue q).ports.map (PortState.staleMedia c) } =
      { u with ports := u.ports.map (PortState.staleMedia c) }.withQueue q := rfl
  simp only [State.toIdle, State.chan_withQueue, State.reserves_withQueue, State.modPool_withQueue,
    State.modChan_withQueue, State.modLoop_withQueue, stale, State.passLead_withQueue]
  split <;> rfl

@[simp] theorem State.offerRecipients_withQueue (c : Chan) :
    (s.withQueue q).offerRecipients c = s.offerRecipients c := rfl

@[simp] theorem State.takeoverOffer_withQueue (c : Chan) : (s.withQueue q).takeoverOffer c = s.takeoverOffer c := rfl

@[simp] theorem State.park_withQueue (c : Chan) (cause : ParkCause) (old : Port) :
    (s.withQueue q).park c cause old = (s.park c cause old).withQueue q := by
  simp [State.park]

@[simp] theorem State.endDrain_withQueue (c : Chan) (reason : DrainReason) :
    (s.withQueue q).endDrain c reason = (s.endDrain c reason).withQueue q := by
  simp [State.endDrain]

@[simp] theorem State.deny_withQueue (l : Loop) (ms : Nat) :
    (s.withQueue q).deny l ms = (s.deny l ms).withQueue q := rfl

/-! ### Media into the part and out of it -/

@[simp] theorem State.toneDetected_withQueue (c : Chan) (path : TonePath) (band : Option Band) (time : Word) :
    (s.withQueue q).toneDetected c path band time = (s.toneDetected c path band time).withQueue q := by
  unfold State.toneDetected
  simp
  split <;> rfl

@[simp] theorem State.loopInterval_withQueue (c : Chan) (band : Option Band) (length : Nat) (time : Word) :
    (s.withQueue q).loopInterval c band length time = (s.loopInterval c band length time).withQueue q := by
  unfold State.loopInterval
  simp
  (repeat' split) <;> simp [*]

@[simp] theorem State.playedInterval_withQueue (c : Chan) (band : Option Band) (length : Nat) (time : Word) :
    (s.withQueue q).playedInterval c band length time = (s.playedInterval c band length time).withQueue q := by
  unfold State.playedInterval
  simp
  (repeat' split) <;> simp [*]

@[simp] theorem State.dataHint_withQueue (c : Chan) : (s.withQueue q).dataHint c = (s.dataHint c).withQueue q := by
  unfold State.dataHint
  simp
  split <;> rfl

/-- A holder's request commutes with the queue where its act does. -/
theorem State.holderOnly_withQueue (p : Port) (tag b : Byte) (f g : Chan → State)
    (h : ∀ c, f c = (g c).withQueue q) :
    (s.withQueue q).holderOnly p tag b f = (s.holderOnly p tag b g).withQueue q := by
  unfold State.holderOnly
  split
  · rfl
  · rw [State.chan_withQueue]
    split
    · exact h _
    · rfl

/-- A request commutes with the queue where its body does. -/
theorem State.request_withQueue (p : Port) (act : State → State)
    (h : ∀ u : State, act (u.withQueue q) = (act u).withQueue q) :
    (s.withQueue q).request p act = (s.request p act).withQueue q := by
  unfold State.request
  rw [State.messageTaken_withQueue]
  simp only [State.port_withQueue, State.modPort_withQueue, h]
  split <;> rfl

@[simp] theorem modeBody_withQueue (p : Port) (tag : Byte) (params : List Byte) :
    modeBody p tag params (s.withQueue q) = (modeBody p tag params s).withQueue q := by
  unfold modeBody
  split
  · refine State.holderOnly_withQueue _ _ _ _ _ _ _ fun c => ?_
    split <;> rfl
  · rfl

@[simp] theorem State.modChanPool_withQueue (c : Chan) (f : ChanPool → ChanPool) :
    (s.withQueue q).modChanPool c f = (s.modChanPool c f).withQueue q := rfl

@[simp] theorem State.countNotHolder_withQueue (p : Port) :
    (s.withQueue q).countNotHolder p = (s.countNotHolder p).withQueue q := rfl

@[simp] theorem State.routeMedia_withQueue (p : Port) (m : MediaMsg) :
    (s.withQueue q).routeMedia p m = (s.routeMedia p m).withQueue q := by
  unfold State.routeMedia
  simp
  (repeat' split) <;> simp [*]

@[simp] theorem execMediaIn_withQueue (p : Port) (body : List Byte) :
    execMediaIn p body (s.withQueue q) = outcomeBeside q (execMediaIn p body s) := by
  unfold execMediaIn
  split <;> simp

@[simp] theorem State.judgePlayed_withQueue (c : Chan) (m : Option IntervalMeasure) :
    (s.withQueue q).judgePlayed c m = (s.judgePlayed c m).withQueue q := by
  unfold State.judgePlayed
  simp
  split <;> rfl

@[simp] theorem State.chooseBlock_withQueue (c : Chan) :
    (s.withQueue q).chooseBlock c = (s.chooseBlock c).withQueue q := by
  unfold State.chooseBlock
  simp
  split <;> rfl

@[simp] theorem execChannelTick_withQueue (c : Chan) (m : Option IntervalMeasure) :
    execChannelTick c m (s.withQueue q) = outcomeBeside q (execChannelTick c m s) := by
  unfold execChannelTick
  simp
  (repeat' split) <;> simp [*]

@[simp] theorem State.closeForChannel_withQueue (blk : ClosedBlock) (m : Option IntervalMeasure) (c : Chan) :
    State.closeForChannel blk m (s.withQueue q) c = (State.closeForChannel blk m s c).withQueue q := by
  unfold State.closeForChannel
  simp
  split <;> rfl

@[simp] theorem execLoopBlockClose_withQueue (l : Loop) (m : Option IntervalMeasure) :
    execLoopBlockClose l m (s.withQueue q) = outcomeBeside q (execLoopBlockClose l m s) := by
  have closed (blk : ClosedBlock) (u : State) (cs : List Chan) :
      cs.foldl (State.closeForChannel blk m) (u.withQueue q) =
        (cs.foldl (State.closeForChannel blk m) u).withQueue q :=
    List.foldl_hom (State.withQueue · q) fun t c => State.closeForChannel_withQueue t q blk m c
  unfold execLoopBlockClose
  rw [State.loop_withQueue]
  split <;> simp [closed]

@[simp] theorem execKeep_withQueue (p : Port) (body : List Byte) :
    execKeep p body (s.withQueue q) = outcomeBeside q (execKeep p body s) := by
  unfold execKeep
  simp
  (repeat' split) <;> simp [*]

@[simp] theorem execUnknownRequestCode_withQueue (p : Port) (tag : Byte) (code : Byte) (params : List Byte) :
    execUnknownRequestCode p tag code params (s.withQueue q) = outcomeBeside q (execUnknownRequestCode p tag
    code params s) := by
  unfold execUnknownRequestCode
  split
  · rfl
  · exact congrArg Host.Outcome.next (State.request_withQueue s q p _ fun _ => rfl)

@[simp] theorem execBadFrame_withQueue (p : Port) (bytes : List Byte) :
    execBadFrame p bytes (s.withQueue q) = outcomeBeside q (execBadFrame p bytes s) := by
  unfold execBadFrame
  simp
  (repeat' split) <;> simp [*]

@[simp] theorem State.cutTransfer_withQueue (p : Port) :
    (s.withQueue q).cutTransfer p = (s.cutTransfer p).withQueue q := by
  unfold State.cutTransfer
  simp
  split <;> rfl

@[simp] theorem State.parkHeldBy_withQueue (p : Port) :
    (s.withQueue q).parkHeldBy p = (s.parkHeldBy p).withQueue q := by
  exact List.foldl_hom (State.withQueue · q) fun u c => by
    simp only [State.chan_withQueue, State.park_withQueue]
    split <;> rfl

@[simp] theorem State.portDown_withQueue (p : Port) : (s.withQueue q).portDown p = (s.portDown p).withQueue q := by
  have lost (u : State) : { u.withQueue q with restart := (u.withQueue q).restart.lostWith p } =
      { u with restart := u.restart.lostWith p }.withQueue q := rfl
  simp only [State.portDown, State.cutTransfer_withQueue, State.modPort_withQueue, lost, State.parkHeldBy_withQueue,
    State.modLoop_withQueue]

@[simp] theorem execSilenceTimerExpiry_withQueue (p : Port) :
    execSilenceTimerExpiry p (s.withQueue q) = outcomeBeside q (execSilenceTimerExpiry p s) := by
  unfold execSilenceTimerExpiry
  simp
  (repeat' split) <;> simp [*]

@[simp] theorem State.nextDue_withQueue (p : Port) : (s.withQueue q).nextDue p = s.nextDue p := rfl

@[simp] theorem State.beginMedia_withQueue (p : Port) (c : Chan) :
    (s.withQueue q).beginMedia p c = (s.beginMedia p c).withQueue q := rfl

@[simp] theorem State.chooseMessage_withQueue (p : Port) :
    (s.withQueue q).chooseMessage p = (s.chooseMessage p).withQueue q := by
  by_cases busy : (s.port p).transfer.isSome
  · simp [State.chooseMessage, busy]
  · cases waiting : (s.port p).queue with
    | cons e rest => simp [State.chooseMessage, busy, waiting]
    | nil => cases due : s.nextDue p <;> simp [State.chooseMessage, busy, waiting, due]

@[simp] theorem execMessageBegin_withQueue (p : Port) :
    execMessageBegin p (s.withQueue q) = outcomeBeside q (execMessageBegin p s) := by
  simp [execMessageBegin]

@[simp] theorem State.completeTransfer_withQueue (p : Port) :
    (s.withQueue q).completeTransfer p = (s.completeTransfer p).withQueue q := by
  unfold State.completeTransfer
  rw [State.port_withQueue]
  split
  · rfl
  · split <;> rfl
  · split <;> rfl

@[simp] theorem execTransferComplete_withQueue (p : Port) :
    execTransferComplete p (s.withQueue q) = outcomeBeside q (execTransferComplete p s) := by
  simp [execTransferComplete]

@[simp] theorem State.lowestIdle_withQueue : (s.withQueue q).lowestIdle = s.lowestIdle := rfl

/-! ### The requests on channels and what ends a channel -/

@[simp] theorem State.takeDial_withQueue (l : Loop) (lead : Bool) (takeDial : Bool) :
    (s.withQueue q).takeDial l lead takeDial = (s.takeDial l lead takeDial).withQueue q := by
  unfold State.takeDial
  simp
  (repeat' split) <;> simp [*]

@[simp] theorem State.openChannel_withQueue (p : Port) (tag : Byte) (o : OpenParams) (c : Chan) (pool : Pool) :
    (s.withQueue q).openChannel p tag o c pool = (s.openChannel p tag o c pool).withQueue q := by
  have dialled := State.takeDial_withQueue ({ s with pool := pool }.modChan c
    (Channel.opened p o s.live.template (s.nextBlockTime o.loop) (s.attached o.loop).isEmpty)) q o.loop
    (s.attached o.loop).isEmpty o.takeDial
  exact congrArg (fun u : State => u.acceptClamped p tag (o.drift != o.driftHint)
    ([Chan.byte c, flagByte (s.attached o.loop).isEmpty,
      flagByte (dialTaken (s.loop o.loop) (s.attached o.loop).isEmpty o.takeDial).2,
      byteOf (dialTaken (s.loop o.loop) (s.attached o.loop).isEmpty o.takeDial).1.length] ++
      (dialTaken (s.loop o.loop) (s.attached o.loop).isEmpty o.takeDial).1)) dialled

@[simp] theorem openBody_withQueue (p : Port) (tag : Byte) (params : List Byte) :
    openBody p tag params (s.withQueue q) = (openBody p tag params s).withQueue q := by
  unfold openBody
  split
  · rfl
  · rw [State.lowestIdle_withQueue]
    split
    · rfl
    · refine ite_withQueue q rfl ?_
      simp only [State.reserves_withQueue, State.live_withQueue, State.pool_withQueue]
      split
      · rfl
      · exact State.openChannel_withQueue ..

@[simp] theorem State.claim_withQueue (p : Port) (tag : Byte) (c : Chan) :
    (s.withQueue q).claim p tag c = (s.claim p tag c).withQueue q := by
  simp [State.claim]

@[simp] theorem claimBody_withQueue (p : Port) (tag : Byte) (params : List Byte) :
    claimBody p tag params (s.withQueue q) = (claimBody p tag params s).withQueue q := by
  unfold claimBody
  simp
  (repeat' split) <;> simp [*]

@[simp] theorem State.handoff_withQueue (p : Port) (tag : Byte) (c : Chan) (target : Port) :
    (s.withQueue q).handoff p tag c target = (s.handoff p tag c target).withQueue q := by
  simp [State.handoff]

@[simp] theorem handoffBody_withQueue (p : Port) (tag : Byte) (params : List Byte) :
    handoffBody p tag params (s.withQueue q) = (handoffBody p tag params s).withQueue q := by
  unfold handoffBody
  split
  · refine State.holderOnly_withQueue _ _ _ _ _ _ _ fun c => ite_withQueue q rfl ?_
    split
    · rfl
    · exact ite_withQueue q rfl (ite_withQueue q rfl (State.handoff_withQueue ..))
  · rfl

@[simp] theorem State.closeWithDrain_withQueue (p : Port) (tag : Byte) (c : Chan) :
    (s.withQueue q).closeWithDrain p tag c = (s.closeWithDrain p tag c).withQueue q := by
  unfold State.closeWithDrain
  simp
  split <;> rfl

@[simp] theorem closeBody_withQueue (p : Port) (tag : Byte) (params : List Byte) :
    closeBody p tag params (s.withQueue q) = (closeBody p tag params s).withQueue q := by
  unfold closeBody
  split
  · split
    · rfl
    · refine State.holderOnly_withQueue _ _ _ _ _ _ _ fun c => ite_withQueue q ?_ (ite_withQueue q rfl ?_)
      · simp
      · simp
  · rfl

@[simp] theorem connectBody_withQueue (p : Port) (tag : Byte) (params : List Byte) :
    connectBody p tag params (s.withQueue q) = (connectBody p tag params s).withQueue q := by
  unfold connectBody
  split
  · refine State.holderOnly_withQueue _ _ _ _ _ _ _ fun c => ?_
    split <;> rfl
  · rfl

@[simp] theorem setFallbackBody_withQueue (p : Port) (tag : Byte) (params : List Byte) :
    setFallbackBody p tag params (s.withQueue q) = (setFallbackBody p tag params s).withQueue q := by
  unfold setFallbackBody
  split
  · refine State.holderOnly_withQueue _ _ _ _ _ _ _ fun c => ite_withQueue q rfl ?_
    split <;> rfl
  · rfl

@[simp] theorem channelSetBody_withQueue (p : Port) (tag : Byte) (params : List Byte) :
    channelSetBody p tag params (s.withQueue q) = (channelSetBody p tag params s).withQueue q := by
  unfold channelSetBody
  split
  · refine State.holderOnly_withQueue _ _ _ _ _ _ _ fun c => ite_withQueue q rfl ?_
    split
    · rfl
    · rfl
    · simp only [State.chan_withQueue]
      split <;> rfl
  · rfl

@[simp] theorem State.statsResults_withQueue (c : Chan) : (s.withQueue q).statsResults c = s.statsResults c := rfl

@[simp] theorem statsBody_withQueue (p : Port) (tag : Byte) (params : List Byte) :
    statsBody p tag params (s.withQueue q) = (statsBody p tag params s).withQueue q := by
  unfold statsBody
  simp
  (repeat' split) <;> simp [*]

@[simp] theorem State.parkLostProgram_withQueue (l : Loop) :
    (s.withQueue q).parkLostProgram l = s.parkLostProgram l := rfl

@[simp] theorem State.parkLost_withQueue (l : Loop) : (s.withQueue q).parkLost l = (s.parkLost l).withQueue q := by
  unfold State.parkLost
  simp
  (repeat' split) <;> simp [*]

@[simp] theorem State.expirePark_withQueue (c : Chan) :
    (s.withQueue q).expirePark c = (s.expirePark c).withQueue q := by
  unfold State.expirePark
  simp
  split <;> rfl

@[simp] theorem execParkExpiry_withQueue (c : Chan) :
    execParkExpiry c (s.withQueue q) = outcomeBeside q (execParkExpiry c s) := by
  unfold execParkExpiry
  simp
  (repeat' split) <;> simp [*]

@[simp] theorem execDrainDeadline_withQueue (c : Chan) :
    execDrainDeadline c (s.withQueue q) = outcomeBeside q (execDrainDeadline c s) := by
  unfold execDrainDeadline
  simp
  (repeat' split) <;> simp [*]

@[simp] theorem State.abortTest_withQueue (l : Loop) (outcome : TestOutcome) :
    (s.withQueue q).abortTest l outcome = (s.abortTest l outcome).withQueue q := rfl

/-! ### The loops: test, ring, feed, hook and digits -/

@[simp] theorem testBody_withQueue (p : Port) (tag : Byte) (params : List Byte) :
    testBody p tag params (s.withQueue q) = (testBody p tag params s).withQueue q := by
  unfold testBody
  simp
  (repeat' split) <;> simp [*]

@[simp] theorem execRefPhaseEnd_withQueue (l : Loop) (count : Nat) :
    execRefPhaseEnd l count (s.withQueue q) = outcomeBeside q (execRefPhaseEnd l count s) := by
  unfold execRefPhaseEnd
  simp
  (repeat' split) <;> simp [*]

@[simp] theorem State.finishTest_withQueue (l : Loop) (nLoop : Nat) :
    (s.withQueue q).finishTest l nLoop = (s.finishTest l nLoop).withQueue q := rfl

@[simp] theorem execLoopPhaseEnd_withQueue (l : Loop) (count : Nat) :
    execLoopPhaseEnd l count (s.withQueue q) = outcomeBeside q (execLoopPhaseEnd l count s) := by
  unfold execLoopPhaseEnd
  simp
  (repeat' split) <;> simp [*]

@[simp] theorem State.finishRing_withQueue (l : Loop) (r : RingRecord) (reason : RingReason) :
    (s.withQueue q).finishRing l r reason = (s.finishRing l r reason).withQueue q := by
  simp [State.finishRing]

@[simp] theorem State.ringTrip_withQueue (l : Loop) : (s.withQueue q).ringTrip l = (s.ringTrip l).withQueue q := by
  unfold State.ringTrip
  simp
  split <;> rfl

@[simp] theorem State.startRing_withQueue (p : Port) (tag : Byte) (o : RingParams) :
    (s.withQueue q).startRing p tag o = (s.startRing p tag o).withQueue q := rfl

@[simp] theorem ringBody_withQueue (p : Port) (tag : Byte) (params : List Byte) :
    ringBody p tag params (s.withQueue q) = (ringBody p tag params s).withQueue q := by
  unfold ringBody
  simp
  (repeat' split) <;> simp [*]

@[simp] theorem ringStopBody_withQueue (p : Port) (tag : Byte) (params : List Byte) :
    ringStopBody p tag params (s.withQueue q) = (ringStopBody p tag params s).withQueue q := by
  unfold ringStopBody
  simp
  (repeat' split) <;> simp [*]

@[simp] theorem State.completeRing_withQueue (l : Loop) :
    (s.withQueue q).completeRing l = (s.completeRing l).withQueue q := by
  unfold State.completeRing
  simp
  (repeat' split) <;> simp [*]

@[simp] theorem State.takeBoundary_withQueue : (s.withQueue q).takeBoundary = s.takeBoundary.withQueue q := by
  unfold State.takeBoundary
  exact (congrArg (State.completeRing · .b) (State.completeRing_withQueue { s with
    stepIndex := (s.stepIndex + 1) % 720720
    nextBoundary := s.nextBoundary + msSpan s.live.global.cadenceStep
    loops := _ } q .a)).trans (State.completeRing_withQueue _ q .b)

@[simp] theorem execStepBoundary_withQueue :
    execStepBoundary (s.withQueue q) = outcomeBeside q (execStepBoundary s) := by
  unfold execStepBoundary
  simp
  (repeat' split) <;> simp [*]

@[simp] theorem State.beginTransmission_withQueue (l : Loop) (r : RingRecord) :
    (s.withQueue q).beginTransmission l r = (s.beginTransmission l r).withQueue q := rfl

@[simp] theorem execCallerWaitEnd_withQueue (l : Loop) :
    execCallerWaitEnd l (s.withQueue q) = outcomeBeside q (execCallerWaitEnd l s) := by
  unfold execCallerWaitEnd
  simp
  (repeat' split) <;> simp [*]

@[simp] theorem State.endTransmission_withQueue (l : Loop) (r : RingRecord) :
    (s.withQueue q).endTransmission l r = (s.endTransmission l r).withQueue q := by
  unfold State.endTransmission
  split <;> simp

@[simp] theorem execCallerTransmissionEnd_withQueue (l : Loop) :
    execCallerTransmissionEnd l (s.withQueue q) = outcomeBeside q (execCallerTransmissionEnd l s) := by
  unfold execCallerTransmissionEnd
  simp
  (repeat' split) <;> simp [*]

@[simp] theorem polarityBody_withQueue (p : Port) (tag : Byte) (params : List Byte) :
    polarityBody p tag params (s.withQueue q) = (polarityBody p tag params s).withQueue q := by
  unfold polarityBody
  simp
  (repeat' split) <;> simp [*]

@[simp] theorem denyBody_withQueue (p : Port) (tag : Byte) (params : List Byte) :
    denyBody p tag params (s.withQueue q) = (denyBody p tag params s).withQueue q := by
  unfold denyBody
  simp
  (repeat' split) <;> simp [*]

@[simp] theorem execDenyEnd_withQueue (l : Loop) :
    execDenyEnd l (s.withQueue q) = outcomeBeside q (execDenyEnd l s) := by
  unfold execDenyEnd
  simp
  (repeat' split) <;> simp [*]

@[simp] theorem execLoopCurrentChange_withQueue (l : Loop) (microamps : Int) :
    execLoopCurrentChange l microamps (s.withQueue q) = outcomeBeside q (execLoopCurrentChange l microamps s) := by
  simp [execLoopCurrentChange]

@[simp] theorem State.stopAutoTone_withQueue (l : Loop) :
    (s.withQueue q).stopAutoTone l = (s.stopAutoTone l).withQueue q := by
  unfold State.stopAutoTone
  simp
  split <;> rfl

@[simp] theorem State.raiseDigit_withQueue (l : Loop) (digit : Byte) (method : DigitMethod) (count : Half) :
    (s.withQueue q).raiseDigit l digit method count = (s.raiseDigit l digit method count).withQueue q := by
  unfold State.raiseDigit
  simp
  split <;> simp

@[simp] theorem State.endRotary_withQueue (l : Loop) : (s.withQueue q).endRotary l = (s.endRotary l).withQueue q := by
  unfold State.endRotary
  simp
  split <;> rfl

@[simp] theorem execRotaryDigitEnd_withQueue (l : Loop) :
    execRotaryDigitEnd l (s.withQueue q) = outcomeBeside q (execRotaryDigitEnd l s) := by
  unfold execRotaryDigitEnd
  simp
  (repeat' split) <;> simp [*]

@[simp] theorem State.autoDialTone_withQueue (l : Loop) :
    (s.withQueue q).autoDialTone l = (s.autoDialTone l).withQueue q := by
  unfold State.autoDialTone
  simp
  split <;> rfl

@[simp] theorem State.seize_withQueue (l : Loop) : (s.withQueue q).seize l = (s.seize l).withQueue q := by
  simp [State.seize]

@[simp] theorem State.answerOffhook_withQueue (l : Loop) :
    (s.withQueue q).answerOffhook l = (s.answerOffhook l).withQueue q := by
  unfold State.answerOffhook
  simp
  split <;> rfl

@[simp] theorem State.flash_withQueue (l : Loop) (length : Nat) :
    (s.withQueue q).flash l length = (s.flash l length).withQueue q := by
  unfold State.flash
  simp
  split <;> simp

@[simp] theorem State.endBreak_withQueue (l : Loop) : (s.withQueue q).endBreak l = (s.endBreak l).withQueue q := by
  unfold State.endBreak
  simp
  (repeat' split) <;> simp [*]

@[simp] theorem execHookQualified_withQueue (l : Loop) :
    execHookQualified l (s.withQueue q) = outcomeBeside q (execHookQualified l s) := by
  unfold execHookQualified
  simp
  (repeat' split) <;> simp [*]

@[simp] theorem State.drainingOn_withQueue (l : Loop) : (s.withQueue q).drainingOn l = s.drainingOn l := rfl

@[simp] theorem State.hangUp_withQueue (l : Loop) : (s.withQueue q).hangUp l = (s.hangUp l).withQueue q := by
  have drained (u : State) (cs : List Chan) : cs.foldl (fun t c => t.endDrain c .hangup) (u.withQueue q) =
      (cs.foldl (fun t c => t.endDrain c .hangup) u).withQueue q :=
    List.foldl_hom (State.withQueue · q) fun t c => State.endDrain_withQueue t q c .hangup
  simp [State.hangUp, drained]

@[simp] theorem execHangup_withQueue (l : Loop) :
    execHangup l (s.withQueue q) = outcomeBeside q (execHangup l s) := by
  unfold execHangup
  simp
  (repeat' split) <;> simp [*]

@[simp] theorem execDtmfKeyChange_withQueue (l : Loop) (m : Option KeyMeasure) :
    execDtmfKeyChange l m (s.withQueue q) = outcomeBeside q (execDtmfKeyChange l m s) := by
  simp [execDtmfKeyChange]

@[simp] theorem execDtmfOnsetQualified_withQueue (l : Loop) :
    execDtmfOnsetQualified l (s.withQueue q) = outcomeBeside q (execDtmfOnsetQualified l s) := by
  unfold execDtmfOnsetQualified
  simp
  (repeat' split) <;> simp [*]

@[simp] theorem State.endToneDigit_withQueue (l : Loop) (k : Byte) (onset : Word) (gap : Word) :
    (s.withQueue q).endToneDigit l k onset gap = (s.endToneDigit l k onset gap).withQueue q := by
  simp [State.endToneDigit]

@[simp] theorem execDtmfDigitEnd_withQueue (l : Loop) :
    execDtmfDigitEnd l (s.withQueue q) = outcomeBeside q (execDtmfDigitEnd l s) := by
  unfold execDtmfDigitEnd
  simp
  (repeat' split) <;> simp [*]

@[simp] theorem State.modLoopSet_withQueue (l : Loop) (f : LoopSettings → LoopSettings) :
    (s.withQueue q).modLoopSet l f = (s.modLoopSet l f).withQueue q := rfl

@[simp] theorem gainBody_withQueue (p : Port) (tag : Byte) (params : List Byte) :
    gainBody p tag params (s.withQueue q) = (gainBody p tag params s).withQueue q := by
  unfold gainBody
  simp
  (repeat' split) <;> simp [*]

@[simp] theorem State.playable_withQueue (n : Nat) : (s.withQueue q).playable n = s.playable n := rfl

/-! ### Tones, samples, settings and the start -/

@[simp] theorem toneBody_withQueue (p : Port) (tag : Byte) (params : List Byte) :
    toneBody p tag params (s.withQueue q) = (toneBody p tag params s).withQueue q := by
  unfold toneBody
  simp
  (repeat' split) <;> simp [*]

@[simp] theorem toneStopBody_withQueue (p : Port) (tag : Byte) (params : List Byte) :
    toneStopBody p tag params (s.withQueue q) = (toneStopBody p tag params s).withQueue q := by
  unfold toneStopBody
  simp
  (repeat' split) <;> simp [*]

@[simp] theorem State.programPlays_withQueue (n : Fin 8) : (s.withQueue q).programPlays n = s.programPlays n := rfl

@[simp] theorem State.putProgram_withQueue (n : Fin 8) (g : Program) :
    (s.withQueue q).putProgram n g = (s.putProgram n g).withQueue q := rfl

@[simp] theorem toneDefineBody_withQueue (p : Port) (tag : Byte) (params : List Byte) :
    toneDefineBody p tag params (s.withQueue q) = (toneDefineBody p tag params s).withQueue q := by
  unfold toneDefineBody
  simp
  (repeat' split) <;> simp [*]

@[simp] theorem execToneComplete_withQueue (l : Loop) :
    execToneComplete l (s.withQueue q) = outcomeBeside q (execToneComplete l s) := by
  unfold execToneComplete
  simp
  (repeat' split) <;> simp [*]

@[simp] theorem State.sample_withQueue (lineA : Sample) (lineB : Sample) :
    (s.withQueue q).sample lineA lineB = (s.sample lineA lineB).withQueue q := rfl

@[simp] theorem execSampleTime_withQueue (lineA : Sample) (lineB : Sample) :
    execSampleTime lineA lineB (s.withQueue q) = outcomeBeside q (execSampleTime lineA lineB s) := by
  simp [execSampleTime]

@[simp] theorem State.storeSetting_withQueue (p : Port) (tag : Byte) (k : SettingKey) (v : Nat) (g : Profile) :
    (s.withQueue q).storeSetting p tag k v g = (s.storeSetting p tag k v g).withQueue q := rfl

@[simp] theorem setBody_withQueue (p : Port) (tag : Byte) (params : List Byte) :
    setBody p tag params (s.withQueue q) = (setBody p tag params s).withQueue q := by
  unfold setBody
  simp
  (repeat' split) <;> simp [*]

@[simp] theorem getBody_withQueue (p : Port) (tag : Byte) (params : List Byte) :
    getBody p tag params (s.withQueue q) = (getBody p tag params s).withQueue q := by
  unfold getBody
  simp
  (repeat' split) <;> simp [*]

@[simp] theorem inquireBody_withQueue (p : Port) (tag : Byte) (params : List Byte) :
    inquireBody p tag params (s.withQueue q) = (inquireBody p tag params s).withQueue q := by
  unfold inquireBody
  split <;> rfl

@[simp] theorem State.beginSave_withQueue (p : Port) (n : Nat) :
    (s.withQueue q).beginSave p n = (s.beginSave p n).withQueue q := rfl

@[simp] theorem profileSaveBody_withQueue (p : Port) (tag : Byte) (params : List Byte) :
    profileSaveBody p tag params (s.withQueue q) = (profileSaveBody p tag params s).withQueue q := by
  unfold profileSaveBody
  simp
  (repeat' split) <;> simp [*]

@[simp] theorem State.endSave_withQueue (v : Save) : (s.withQueue q).endSave v = (s.endSave v).withQueue q := rfl

@[simp] theorem execSaveComplete_withQueue :
    execSaveComplete (s.withQueue q) = outcomeBeside q (execSaveComplete s) := by
  unfold execSaveComplete
  simp
  (repeat' split) <;> simp [*]

@[simp] theorem State.loadProfile_withQueue (g : Profile) :
    (s.withQueue q).loadProfile g = (s.loadProfile g).withQueue q := rfl

@[simp] theorem profileLoadBody_withQueue (p : Port) (tag : Byte) (params : List Byte) :
    profileLoadBody p tag params (s.withQueue q) = (profileLoadBody p tag params s).withQueue q := by
  unfold profileLoadBody
  simp
  (repeat' split) <;> simp [*]

@[simp] theorem profileStartBody_withQueue (p : Port) (tag : Byte) (params : List Byte) :
    profileStartBody p tag params (s.withQueue q) = (profileStartBody p tag params s).withQueue q := by
  unfold profileStartBody
  dsimp only
  (repeat' split) <;> rfl

@[simp] theorem restartBody_withQueue (p : Port) (tag : Byte) (params : List Byte) :
    restartBody p tag params (s.withQueue q) = (restartBody p tag params s).withQueue q := by
  unfold restartBody
  split
  · exact ite_withQueue q rfl rfl
  · rfl

@[simp] theorem State.startUp_withQueue (cause : StartCause) :
    (s.withQueue q).startUp cause = (s.startUp cause).withQueue q := by
  unfold State.startUp
  simp
  split <;> rfl

@[simp] theorem execPowerOn_withQueue : execPowerOn (s.withQueue q) = outcomeBeside q (execPowerOn s) := by
  simp [execPowerOn]

@[simp] theorem execResetLine_withQueue : execResetLine (s.withQueue q) = outcomeBeside q (execResetLine s) := by
  simp [execResetLine]

@[simp] theorem State.restarted_withQueue : (s.withQueue q).restarted = s.restarted.withQueue q := rfl

@[simp] theorem execRestartTaken_withQueue :
    execRestartTaken (s.withQueue q) = outcomeBeside q (execRestartTaken s) := by
  unfold execRestartTaken
  simp
  (repeat' split) <;> simp [*]

/-- A request's effect beside the queue, from its body's. -/
theorem next_request_withQueue (p : Port) (act : State → State)
    (h : ∀ u : State, act (u.withQueue q) = (act u).withQueue q) :
    (.next ((s.withQueue q).request p act) : Host.Outcome State Fault Refusal) =
      outcomeBeside q (.next (s.request p act)) :=
  congrArg Host.Outcome.next (State.request_withQueue s q p act h)

end

/-- A command's outcome with the queue `q` in its state: the outcome without it, the queue put in. -/
theorem exec_withQueue (s : State) (q : List Instr) (c : Instr) :
    exec c (s.withQueue q) = outcomeBeside q (exec c s) := by
  cases c with
  | openReq p tag params => exact next_request_withQueue s q p _ fun u => openBody_withQueue u q p tag params
  | claimReq p tag params => exact next_request_withQueue s q p _ fun u => claimBody_withQueue u q p tag params
  | handoffReq p tag params => exact next_request_withQueue s q p _ fun u => handoffBody_withQueue u q p tag params
  | closeReq p tag params => exact next_request_withQueue s q p _ fun u => closeBody_withQueue u q p tag params
  | connectReq p tag params => exact next_request_withQueue s q p _ fun u => connectBody_withQueue u q p tag params
  | setFallbackReq p tag params =>
    exact next_request_withQueue s q p _ fun u => setFallbackBody_withQueue u q p tag params
  | channelSetReq p tag params =>
    exact next_request_withQueue s q p _ fun u => channelSetBody_withQueue u q p tag params
  | statsReq p tag params => exact next_request_withQueue s q p _ fun u => statsBody_withQueue u q p tag params
  | modeReq p tag params => exact next_request_withQueue s q p _ fun u => modeBody_withQueue u q p tag params
  | polarityReq p tag params => exact next_request_withQueue s q p _ fun u => polarityBody_withQueue u q p tag params
  | denyReq p tag params => exact next_request_withQueue s q p _ fun u => denyBody_withQueue u q p tag params
  | toneReq p tag params => exact next_request_withQueue s q p _ fun u => toneBody_withQueue u q p tag params
  | toneStopReq p tag params => exact next_request_withQueue s q p _ fun u => toneStopBody_withQueue u q p tag params
  | toneDefineReq p tag params =>
    exact next_request_withQueue s q p _ fun u => toneDefineBody_withQueue u q p tag params
  | gainReq p tag params => exact next_request_withQueue s q p _ fun u => gainBody_withQueue u q p tag params
  | ringReq p tag params => exact next_request_withQueue s q p _ fun u => ringBody_withQueue u q p tag params
  | ringStopReq p tag params => exact next_request_withQueue s q p _ fun u => ringStopBody_withQueue u q p tag params
  | testReq p tag params => exact next_request_withQueue s q p _ fun u => testBody_withQueue u q p tag params
  | setReq p tag params => exact next_request_withQueue s q p _ fun u => setBody_withQueue u q p tag params
  | getReq p tag params => exact next_request_withQueue s q p _ fun u => getBody_withQueue u q p tag params
  | inquireReq p tag params => exact next_request_withQueue s q p _ fun u => inquireBody_withQueue u q p tag params
  | profileSaveReq p tag params =>
    exact next_request_withQueue s q p _ fun u => profileSaveBody_withQueue u q p tag params
  | profileLoadReq p tag params =>
    exact next_request_withQueue s q p _ fun u => profileLoadBody_withQueue u q p tag params
  | profileStartReq p tag params =>
    exact next_request_withQueue s q p _ fun u => profileStartBody_withQueue u q p tag params
  | restartReq p tag params => exact next_request_withQueue s q p _ fun u => restartBody_withQueue u q p tag params
  | unknownRequestCode p tag code params => exact execUnknownRequestCode_withQueue s q p tag code params
  | mediaIn p body => exact execMediaIn_withQueue ..
  | keep p body => exact execKeep_withQueue ..
  | badFrame p bytes => exact execBadFrame_withQueue ..
  | powerOn => exact execPowerOn_withQueue ..
  | resetLine => exact execResetLine_withQueue ..
  | restartTaken => exact execRestartTaken_withQueue ..
  | silenceTimerExpiry p => exact execSilenceTimerExpiry_withQueue ..
  | parkExpiry c => exact execParkExpiry_withQueue ..
  | drainDeadline c => exact execDrainDeadline_withQueue ..
  | denyEnd l => exact execDenyEnd_withQueue ..
  | loopCurrentChange l microamps => exact execLoopCurrentChange_withQueue ..
  | hookQualified l => exact execHookQualified_withQueue ..
  | hangup l => exact execHangup_withQueue ..
  | rotaryDigitEnd l => exact execRotaryDigitEnd_withQueue ..
  | dtmfKeyChange l m => exact execDtmfKeyChange_withQueue ..
  | dtmfOnsetQualified l => exact execDtmfOnsetQualified_withQueue ..
  | dtmfDigitEnd l => exact execDtmfDigitEnd_withQueue ..
  | stepBoundary => exact execStepBoundary_withQueue ..
  | callerWaitEnd l => exact execCallerWaitEnd_withQueue ..
  | callerTransmissionEnd l => exact execCallerTransmissionEnd_withQueue ..
  | refPhaseEnd l count => exact execRefPhaseEnd_withQueue ..
  | loopPhaseEnd l count => exact execLoopPhaseEnd_withQueue ..
  | saveComplete => exact execSaveComplete_withQueue ..
  | channelTick c m => exact execChannelTick_withQueue ..
  | loopBlockClose l m => exact execLoopBlockClose_withQueue ..
  | toneComplete l => exact execToneComplete_withQueue ..
  | messageBegin p => exact execMessageBegin_withQueue ..
  | transferComplete p => exact execTransferComplete_withQueue ..
  | sampleTime lineA lineB => exact execSampleTime_withQueue ..

/-- Settles O2: no command faults or is refused, and none reads or writes the queue. -/
theorem everyCommandCompletesBesideTheQueue : Obligations.EveryCommandCompletesBesideTheQueue := by
  refine ⟨fun c s => ?_, fun c s t run => ?_⟩
  · obtain ⟨t, run, -⟩ := exec_course c s
    exact ⟨t, run⟩
  · have beside (q : List Instr) : exec c (s.withQueue q) = .next (t.withQueue q) := by
      rw [exec_withQueue, run, outcomeBeside_next]
    refine ⟨?_, beside⟩
    have kept : t = t.withQueue s.pending := Host.Outcome.next.inj (run.symm.trans (beside s.pending))
    rw [kept]
    rfl

end Sys2Proof.Machine
end

section
/-! The fixed-point sine of log 11 against the real one. -/

namespace Sys2Proof.Machine

/-- The nested Taylor series of sin x / x that `sinSeries` computes, in the reals; `X` is the square of x. -/
noncomputable def taylorSine : Nat → Nat → ℝ → ℝ
  | 0, _, _ => 1
  | fuel + 1, j, X => 1 - X * taylorSine fuel (j + 1) X / ((2 * j + 2) * (2 * j + 3))

theorem taylorDenominator_ge (j : Nat) : (6 : ℝ) ≤ (2 * j + 2) * (2 * j + 3) := by
  have : (0 : ℝ) ≤ j := j.cast_nonneg
  nlinarith

/-- For squares up to 5/2 the nested series stays between 0 and 1. -/
theorem taylorSine_mem {X : ℝ} (nonneg : 0 ≤ X) (small : X ≤ 5 / 2) (fuel : Nat) :
    ∀ j, 0 ≤ taylorSine fuel j X ∧ taylorSine fuel j X ≤ 1 := by
  induction fuel with
  | zero => exact fun _ => ⟨zero_le_one, le_rfl⟩
  | succ fuel ih =>
    intro j
    obtain ⟨low, high⟩ := ih (j + 1)
    have six := taylorDenominator_ge j
    have prod : X * taylorSine fuel (j + 1) X ≤ 5 / 2 := by nlinarith
    have term : X * taylorSine fuel (j + 1) X / ((2 * j + 2) * (2 * j + 3)) ≤ 1 := by
      rw [div_le_one (by linarith)]
      linarith
    have term_nonneg : 0 ≤ X * taylorSine fuel (j + 1) X / ((2 * j + 2) * (2 * j + 3)) := by positivity
    exact ⟨sub_nonneg.2 term, sub_le_self _ term_nonneg⟩

/-- The nested series is the sum of its terms. -/
theorem taylorSine_eq_sum (X : ℝ) (fuel : Nat) : ∀ j, taylorSine fuel j X / (2 * j + 1).factorial =
    ∑ k ∈ Finset.range (fuel + 1), (-1) ^ k * X ^ k / (2 * (j + k) + 1).factorial := by
  induction fuel with
  | zero => intro j; simp [taylorSine]
  | succ fuel ih =>
    intro j
    have next : ((2 * (j + 1) + 1).factorial : ℝ) = (2 * j + 2) * (2 * j + 3) * (2 * j + 1).factorial := by
      rw [show 2 * (j + 1) + 1 = 2 * j + 1 + 1 + 1 by ring, Nat.factorial_succ, Nat.factorial_succ]
      push_cast
      ring
    have pos : ((2 * j + 1).factorial : ℝ) ≠ 0 := by positivity
    have six := taylorDenominator_ge j
    rw [Finset.sum_range_succ']
    have tail : ∑ k ∈ Finset.range (fuel + 1),
        (-1) ^ (k + 1) * X ^ (k + 1) / ((2 * (j + (k + 1)) + 1).factorial : ℝ) =
        -X * (taylorSine fuel (j + 1) X / (2 * (j + 1) + 1).factorial) := by
      rw [ih, Finset.mul_sum]
      refine Finset.sum_congr rfl fun k _ => ?_
      rw [show j + (k + 1) = j + 1 + k by ring]
      ring
    rw [tail, next, taylorSine, add_zero]
    field_simp
    ring

/-- The imaginary parts of the exponential's terms at `x * I` are the sine's terms. -/
theorem im_sum_exp_terms (x : ℝ) (n : Nat) :
    (∑ m ∈ Finset.range (2 * n + 1), (x * Complex.I) ^ m / (m.factorial : ℂ)).im =
      ∑ k ∈ Finset.range n, (-1) ^ k * x ^ (2 * k + 1) / ((2 * k + 1).factorial : ℝ) := by
  induction n with
  | zero => simp
  | succ n ih =>
    have odd : ((x * Complex.I) ^ (2 * n + 1) / ((2 * n + 1).factorial : ℂ)).im =
        (-1) ^ n * x ^ (2 * n + 1) / ((2 * n + 1).factorial : ℝ) := by
      have split : (x * Complex.I) ^ (2 * n + 1) / ((2 * n + 1).factorial : ℂ) =
          (((-1) ^ n * x ^ (2 * n + 1) / ((2 * n + 1).factorial : ℝ) : ℝ) : ℂ) * Complex.I := by
        rw [mul_pow, pow_succ Complex.I, pow_mul, Complex.I_sq]
        push_cast
        ring
      rw [split, Complex.im_ofReal_mul, Complex.I_im, mul_one]
    have even : ((x * Complex.I) ^ (2 * n + 2) / ((2 * n + 2).factorial : ℂ)).im = 0 := by
      have split : (x * Complex.I) ^ (2 * n + 2) / ((2 * n + 2).factorial : ℂ) =
          (((-1) ^ (n + 1) * x ^ (2 * n + 2) / ((2 * n + 2).factorial : ℝ) : ℝ) : ℂ) := by
        rw [mul_pow, show 2 * n + 2 = 2 * (n + 1) by ring, pow_mul Complex.I, Complex.I_sq]
        push_cast
        ring
      rw [split, Complex.ofReal_im]
    rw [show 2 * (n + 1) + 1 = 2 * n + 1 + 1 + 1 by ring, Finset.sum_range_succ, Finset.sum_range_succ, Complex.add_im,
      Complex.add_im, ih, odd, even, Finset.sum_range_succ, add_zero]

/-- The seventeen terms the part sums are the sine to within the eighteenth. -/
theorem sin_sub_taylorSine_le {x : ℝ} (nonneg : 0 ≤ x) (small : x ≤ 8 / 5) :
    |x * taylorSine 16 0 (x ^ 2) - Real.sin x| ≤ 1 / 2 ^ 96 := by
  have norm : ‖(x * Complex.I : ℂ)‖ = x := by simp [abs_of_nonneg nonneg]
  have bound := Complex.exp_bound' (x := x * Complex.I) (n := 2 * 17 + 1) (by rw [norm]; norm_num; linarith)
  have im_le := (Complex.abs_im_le_norm _).trans bound
  rw [Complex.sub_im, im_sum_exp_terms, norm, Complex.exp_ofReal_mul_I_im] at im_le
  have series : x * taylorSine 16 0 (x ^ 2) =
      ∑ k ∈ Finset.range 17, (-1) ^ k * x ^ (2 * k + 1) / ((2 * k + 1).factorial : ℝ) := by
    have sum := taylorSine_eq_sum (x ^ 2) 16 0
    norm_num at sum
    rw [sum, Finset.mul_sum]
    refine Finset.sum_congr rfl fun k _ => ?_
    ring
  rw [series, abs_sub_comm]
  refine im_le.trans ?_
  have power : x ^ (2 * 17 + 1) ≤ (8 / 5) ^ (2 * 17 + 1) := pow_le_pow_left₀ nonneg small _
  calc x ^ (2 * 17 + 1) / ((2 * 17 + 1).factorial : ℝ) * 2
      ≤ (8 / 5) ^ (2 * 17 + 1) / ((2 * 17 + 1).factorial : ℝ) * 2 := by gcongr
    _ ≤ 1 / 2 ^ 96 := by norm_num [Nat.factorial]

end Sys2Proof.Machine
end

section
/-! How far the fixed-point sine (log 11) is from the real one, in units of 2^-96. -/

namespace Sys2Proof.Machine

theorem fixOne_eq : fixOne = 2 ^ 96 := by decide

theorem fixOne_cast : (fixOne : ℝ) = 2 ^ 96 := by
  rw [fixOne_eq]
  norm_num

theorem natDiv_close (a : Nat) {b : Nat} (pos : 0 < b) : |((a / b : Nat) : ℝ) - a / b| ≤ 1 := by
  have high : ((a / b : Nat) : ℝ) ≤ a / b := Nat.cast_div_le
  have low : (a : ℝ) / b < (a / b : Nat) + 1 := by
    rw [div_lt_iff₀ (by positivity)]
    exact_mod_cast Nat.lt_mul_of_div_lt (Nat.lt_succ_self _) pos
  rw [abs_le]
  constructor <;> linarith

/-- One nested term: its quotient before rounding is within one unit where its two factors are near. -/
theorem seriesTerm_close {F x2 X s S c : ℝ} (F_pos : 0 < F) (X_nonneg : 0 ≤ X) (X_le : X ≤ 5 / 2)
    (x2_near : |x2 - F * X| ≤ 1) (s_nonneg : 0 ≤ s) (s_le : s ≤ F) (s_near : |s - F * S| ≤ 2) (c_ge : 6 ≤ c) :
    |x2 * s / (F * c) - F * (X * S / c)| ≤ 1 := by
  have parts : x2 * s / (F * c) - F * (X * S / c) = ((x2 - F * X) * s + F * X * (s - F * S)) / (F * c) := by
    field_simp
    ring
  have first : |(x2 - F * X) * s| ≤ 1 * F := by
    rw [abs_mul, abs_of_nonneg s_nonneg]
    exact mul_le_mul x2_near s_le s_nonneg zero_le_one
  have second : |F * X * (s - F * S)| ≤ F * (5 / 2) * 2 := by
    rw [abs_mul, abs_of_nonneg (by positivity)]
    gcongr
  rw [parts, abs_div, abs_of_pos (mul_pos F_pos (by linarith)), div_le_one (mul_pos F_pos (by linarith))]
  calc |(x2 - F * X) * s + F * X * (s - F * S)| ≤ 1 * F + F * (5 / 2) * 2 :=
        (abs_add_le _ _).trans (add_le_add first second)
    _ = F * 6 := by ring
    _ ≤ F * c := by gcongr

/-- The fixed-point series is within two units of the real one. -/
theorem sinSeries_close {x2 : Nat} {X : ℝ} (nonneg : 0 ≤ X) (small : X ≤ 5 / 2)
    (near : |(x2 : ℝ) - fixOne * X| ≤ 1) (fuel : Nat) : ∀ j, sinSeries fuel j x2 ≤ fixOne ∧
      |(sinSeries fuel j x2 : ℝ) - fixOne * taylorSine fuel j X| ≤ 2 := by
  induction fuel with
  | zero => exact fun _ => ⟨le_rfl, by simp [sinSeries, taylorSine]⟩
  | succ fuel ih =>
    intro j
    obtain ⟨fits, close⟩ := ih (j + 1)
    have six := taylorDenominator_ge j
    have one_pos : (0 : ℝ) < fixOne := by rw [fixOne_cast]; positivity
    have pos : 0 < fixOne * ((2 * j + 2) * (2 * j + 3)) := Nat.mul_pos (by decide) (by positivity)
    have term := seriesTerm_close one_pos nonneg small near (Nat.cast_nonneg (sinSeries fuel (j + 1) x2))
      (by exact_mod_cast fits) close six
    have rounded := natDiv_close (x2 * sinSeries fuel (j + 1) x2) pos
    push_cast at rounded
    have whole : x2 * sinSeries fuel (j + 1) x2 / (fixOne * ((2 * j + 2) * (2 * j + 3))) ≤ fixOne := by
      have x2_le : x2 ≤ 3 * fixOne := by
        have : (x2 : ℝ) ≤ 3 * fixOne := by
          rw [fixOne_cast] at near ⊢
          linarith [(abs_le.1 near).2]
        exact_mod_cast this
      refine Nat.div_le_of_le_mul ?_
      calc x2 * sinSeries fuel (j + 1) x2 ≤ 3 * fixOne * fixOne := Nat.mul_le_mul x2_le fits
        _ ≤ fixOne * ((2 * j + 2) * (2 * j + 3)) * fixOne := by
          refine Nat.mul_le_mul_right _ ?_
          rw [mul_comm]
          exact Nat.mul_le_mul_left _ (by nlinarith)
    refine ⟨Nat.sub_le _ _, ?_⟩
    rw [sinSeries, taylorSine, Nat.cast_sub whole]
    rw [abs_le] at term rounded ⊢
    constructor <;> linarith

theorem fixPi_close : |(fixPi : ℝ) - fixOne * Real.pi| ≤ 2 ^ 34 := by
  have low := Real.pi_gt_d20
  have high := Real.pi_lt_d20
  rw [fixOne_cast, fixPi, abs_le]
  push_cast
  constructor <;> norm_num <;> linarith

/-- The fixed-point angle is within 2^34 units of the real one. -/
theorem angle_close {m den : Nat} (half : 2 * m ≤ den) (den_pos : 0 < den) :
    |((fixPi * m / den : Nat) : ℝ) - fixOne * (Real.pi * m / den)| ≤ 1 + 2 ^ 34 := by
  have rounded := natDiv_close (fixPi * m) den_pos
  push_cast at rounded
  have den_real : (0 : ℝ) < den := by exact_mod_cast den_pos
  have ratio : (m : ℝ) / den ≤ 1 := by
    rw [div_le_one den_real]
    exact_mod_cast (by omega : m ≤ den)
  have scaled : |(fixPi : ℝ) * m / den - fixOne * (Real.pi * m / den)| ≤ 2 ^ 34 := by
    have factor : (fixPi : ℝ) * m / den - fixOne * (Real.pi * m / den) = (fixPi - fixOne * Real.pi) * (m / den) := by
      ring
    rw [factor, abs_mul, abs_of_nonneg (by positivity : (0 : ℝ) ≤ m / den)]
    exact (mul_le_of_le_one_right (abs_nonneg _) ratio).trans fixPi_close
  exact (abs_sub_le _ _ _).trans (add_le_add rounded scaled)

/-- The fixed-point angle stays within a quarter turn, below 79/50. -/
theorem angle_le {m den : Nat} (half : 2 * m ≤ den) (den_pos : 0 < den) :
    ((fixPi * m / den : Nat) : ℝ) / fixOne ≤ 79 / 50 := by
  have whole : 2 * (fixPi * m / den) ≤ fixPi := by
    have := Nat.div_mul_le_self (fixPi * m) den
    by_contra larger
    nlinarith
  have real : 2 * ((fixPi * m / den : Nat) : ℝ) ≤ fixPi := by exact_mod_cast whole
  have pi_le : (fixPi : ℝ) ≤ 79 / 25 * fixOne := by
    rw [fixOne_cast, fixPi]
    norm_num
  have one_pos : (0 : ℝ) < fixOne := by rw [fixOne_cast]; positivity
  rw [div_le_iff₀ one_pos]
  linarith

/-- A fixed-point angle's sine from the seventeen terms, against the real sine of that angle. -/
theorem seriesSine_close {x : Nat} (small : (x : ℝ) / fixOne ≤ 79 / 50) :
    |((x * sinSeries 16 0 (x * x / fixOne) / fixOne : Nat) : ℝ) - fixOne * Real.sin (x / fixOne)| ≤ 6 := by
  have one_pos : (0 : ℝ) < fixOne := by rw [fixOne_cast]; positivity
  have x_nonneg : (0 : ℝ) ≤ x / fixOne := by positivity
  have square : |((x * x / fixOne : Nat) : ℝ) - fixOne * ((x : ℝ) / fixOne) ^ 2| ≤ 1 := by
    have rounded := natDiv_close (x * x) (by decide : 0 < fixOne)
    have exact_square : (fixOne : ℝ) * ((x : ℝ) / fixOne) ^ 2 = (x * x : Nat) / fixOne := by
      push_cast
      field_simp
    rwa [exact_square]
  obtain ⟨-, series⟩ := sinSeries_close (sq_nonneg _) (by nlinarith) square 16 0
  have rounded := natDiv_close (x * sinSeries 16 0 (x * x / fixOne)) (by decide : 0 < fixOne)
  have taylor := sin_sub_taylorSine_le x_nonneg (by linarith)
  generalize sinSeries 16 0 (x * x / fixOne) = s at *
  generalize taylorSine 16 0 (((x : ℝ) / fixOne) ^ 2) = S at *
  have product : |((x * s : Nat) : ℝ) / fixOne - fixOne * (x / fixOne * S)| ≤ 4 := by
    have factor : ((x * s : Nat) : ℝ) / fixOne - fixOne * (x / fixOne * S) = x / fixOne * (s - fixOne * S) := by
      push_cast
      field_simp
    rw [factor, abs_mul, abs_of_nonneg x_nonneg]
    calc (x : ℝ) / fixOne * |(s : ℝ) - fixOne * S| ≤ 79 / 50 * 2 := by gcongr
      _ ≤ 4 := by norm_num
  have tail : |(fixOne : ℝ) * (x / fixOne * S) - fixOne * Real.sin (x / fixOne)| ≤ 1 := by
    rw [← mul_sub, abs_mul, abs_of_pos one_pos]
    calc (fixOne : ℝ) * |(x : ℝ) / fixOne * S - Real.sin (x / fixOne)| ≤ fixOne * (1 / 2 ^ 96) := by gcongr
      _ = 1 := by rw [fixOne_cast]; norm_num
  have unrounded := (abs_sub_le _ _ _).trans (add_le_add product tail)
  calc _ ≤ 1 + (4 + 1) := (abs_sub_le _ _ _).trans (add_le_add rounded unrounded)
    _ = 6 := by norm_num

/-- The sine of a quarter turn's angle, by the series' error and the angle's. -/
theorem sinQuarter_close {m den : Nat} (half : 2 * m ≤ den) (den_pos : 0 < den) :
    |(sinQuarter m den : ℝ) - fixOne * Real.sin (Real.pi * m / den)| ≤ 2 ^ 35 := by
  have one_pos : (0 : ℝ) < fixOne := by rw [fixOne_cast]; positivity
  have series := seriesSine_close (angle_le half den_pos)
  have moved : |(fixOne : ℝ) * Real.sin ((fixPi * m / den : Nat) / fixOne) - fixOne * Real.sin (Real.pi * m / den)| ≤
      1 + 2 ^ 34 := by
    rw [← mul_sub, abs_mul, abs_of_pos one_pos]
    calc (fixOne : ℝ) * |Real.sin ((fixPi * m / den : Nat) / fixOne) - Real.sin (Real.pi * m / den)|
        ≤ fixOne * |((fixPi * m / den : Nat) : ℝ) / fixOne - Real.pi * m / den| :=
          mul_le_mul_of_nonneg_left (Real.abs_sin_sub_sin_le _ _) one_pos.le
      _ = |((fixPi * m / den : Nat) : ℝ) - fixOne * (Real.pi * m / den)| := by
          nth_rewrite 1 [← abs_of_pos one_pos]
          rw [← abs_mul]
          congr 1
          field_simp
      _ ≤ 1 + 2 ^ 34 := angle_close half den_pos
  calc _ ≤ 6 + (1 + 2 ^ 34) := (abs_sub_le _ _ _).trans (add_le_add series moved)
    _ ≤ 2 ^ 35 := by norm_num

/-- The sine over a half turn folded onto its first quarter. -/
theorem sin_fold {r den : Nat} (below : r ≤ den) (den_pos : 0 < den) :
    Real.sin (Real.pi * (min r (den - r) : Nat) / den) = Real.sin (Real.pi * r / den) := by
  rcases le_total r (den - r) with first | second
  · rw [min_eq_left first]
  · rw [min_eq_right second, Nat.cast_sub below, ← Real.sin_pi_sub]
    congr 1
    have : (den : ℝ) ≠ 0 := by positivity
    field_simp
    ring

/-- The sine of a whole number of steps is the sine of their rest after whole turns. -/
theorem sin_turns (k : Nat) {den : Nat} (den_pos : 0 < den) :
    Real.sin (2 * Real.pi * k / den) = Real.sin (Real.pi * (2 * (k % den) : Nat) / den) := by
  have nonzero : (den : ℝ) ≠ 0 := by positivity
  have parts : (k : ℝ) = (k % den : Nat) + den * (k / den : Nat) := by exact_mod_cast (Nat.mod_add_div k den).symm
  have turns : 2 * Real.pi * k / den = Real.pi * (2 * (k % den) : Nat) / den + (k / den : Nat) * (2 * Real.pi) := by
    rw [parts]
    push_cast
    field_simp
  rw [turns, Real.sin_add_nat_mul_two_pi]

/-- The fixed-point sine is within 2^35 units of 2^-96 of the real one. -/
theorem sinFix_close (k : Nat) {den : Nat} (den_pos : 0 < den) :
    |(sinFix k den : ℝ) - fixOne * Real.sin (2 * Real.pi * k / den)| ≤ 2 ^ 35 := by
  have rest : k % den < den := Nat.mod_lt k den_pos
  rw [sin_turns k den_pos, sinFix]
  generalize k % den = i at rest
  by_cases upper : 2 * i < den
  · rw [if_pos upper, ← sin_fold upper.le den_pos]
    exact sinQuarter_close (by omega) den_pos
  · have back : (2 * i : Nat) - den ≤ den := by omega
    have mirrored : 2 * den - 2 * i = den - (2 * i - den) := by omega
    have lower : Real.sin (Real.pi * (2 * i : Nat) / den) = -Real.sin (Real.pi * (2 * i - den : Nat) / den) := by
      rw [Nat.cast_sub (not_lt.1 upper), ← Real.sin_add_pi]
      congr 1
      have : (den : ℝ) ≠ 0 := by positivity
      field_simp
      ring
    have near := sinQuarter_close (m := min (2 * i - den) (den - (2 * i - den))) (by omega) den_pos
    rw [sin_fold back den_pos] at near
    rw [if_neg upper, lower, mirrored]
    push_cast
    rw [mul_neg, ← neg_sub', abs_neg]
    exact near

end Sys2Proof.Machine
end

section
/-! The samples of tones and of caller transmissions against the real sine (R153, R144). -/

namespace Sys2Proof.Machine

/-- The width below a whole number that the rounding of log 11 forgives: 2^-40. -/
def fixSlack : Int := 72057594037927936

theorem floor_div_fixOne (v : Int) : ⌊(v : ℝ) / fixOne⌋ = v / fixOne := by
  rw [Int.floor_div_natCast, Int.floor_intCast]

theorem ceil_div_fixOne (v : Int) : ⌈(v : ℝ) / fixOne⌉ = -(-v / fixOne) := by
  rw [← neg_inj, neg_neg, ← Int.floor_neg, ← neg_div, ← Int.cast_neg, floor_div_fixOne]

/-- A fixed-point value that is not negative, cut down to a whole number: the floor of the value and the slack. -/
theorem truncFix_of_nonneg {v : Int} (nonneg : 0 ≤ v) : truncFix v = ⌊((v + fixSlack : Int) : ℝ) / fixOne⌋ := by
  rw [floor_div_fixOne, truncFix, if_neg (not_lt.2 nonneg), Int.natCast_ediv]
  rw [Nat.cast_add, Int.natAbs_of_nonneg nonneg]
  rfl

/-- A negative one: the ceiling of the value less the slack. -/
theorem truncFix_of_neg {v : Int} (neg : v < 0) : truncFix v = ⌈((v - fixSlack : Int) : ℝ) / fixOne⌉ := by
  rw [ceil_div_fixOne, truncFix, if_pos neg, Int.natCast_ediv]
  rw [Nat.cast_add, Int.ofNat_natAbs_of_nonpos neg.le, neg_sub, sub_eq_neg_add]
  rfl

/-- A fixed-point value and its slack are within 2^-39 of what the value stands for. -/
theorem slack_close {v d : Int} {w : ℝ} (near : |(v : ℝ) - fixOne * w| ≤ 2 ^ 55) (slack : |d| ≤ fixSlack) :
    |((v + d : Int) : ℝ) / fixOne - w| ≤ 1 / 2 ^ 39 := by
  have one_pos : (0 : ℝ) < fixOne := by rw [fixOne_cast]; positivity
  have slack_real : |(d : ℝ)| ≤ 2 ^ 56 := by
    have : (|d| : Int) ≤ 2 ^ 56 := slack
    exact_mod_cast this
  have parts : ((v + d : Int) : ℝ) / fixOne - w = (v - fixOne * w + d) / fixOne := by
    push_cast
    field_simp
    ring
  rw [parts, abs_div, abs_of_pos one_pos, div_le_iff₀ one_pos]
  calc |(v : ℝ) - fixOne * w + d| ≤ 2 ^ 55 + 2 ^ 56 := (abs_add_le _ _).trans (add_le_add near slack_real)
    _ ≤ 1 / 2 ^ 39 * fixOne := by rw [fixOne_cast]; norm_num

/-- `truncFix` rounds toward zero a number within 2^-39 of the value's. -/
theorem truncFix_close {v : Int} {w : ℝ} (near : |(v : ℝ) - fixOne * w| ≤ 2 ^ 55) :
    ∃ y : ℝ, |y - w| ≤ 1 / 2 ^ 39 ∧ (0 ≤ y → truncFix v = ⌊y⌋) ∧ (y < 0 → truncFix v = ⌈y⌉) := by
  have one_pos : (0 : ℝ) < fixOne := by rw [fixOne_cast]; positivity
  rcases lt_or_ge v 0 with neg | nonneg
  · have below : ((v - fixSlack : Int) : ℝ) / fixOne < 0 := by
      refine div_neg_of_neg_of_pos ?_ one_pos
      exact_mod_cast (by rw [fixSlack]; omega : v - fixSlack < 0)
    exact ⟨_, slack_close (d := -fixSlack) near (by decide), fun h => absurd below (not_lt.2 h),
      fun _ => truncFix_of_neg neg⟩
  · have above : 0 ≤ ((v + fixSlack : Int) : ℝ) / fixOne := by
      refine div_nonneg ?_ one_pos.le
      exact_mod_cast (by rw [fixSlack]; omega : 0 ≤ v + fixSlack)
    exact ⟨_, slack_close near (by decide), fun _ => truncFix_of_nonneg nonneg, fun h => absurd h (not_lt.2 above)⟩

/-- The amplitudes are the whole parts of 16384 * 10^(-level/20). -/
theorem amplitude_bounds : ∀ level < 46,
    amplitude level ^ 20 * 10 ^ level ≤ 16384 ^ 20 ∧ 16384 ^ 20 < (amplitude level + 1) ^ 20 * 10 ^ level := by
  decide

theorem amplitude_le (level : Nat) : amplitude level ≤ 16384 := by
  rcases lt_or_ge level 46 with inTable | beyond
  · revert level
    decide
  · rw [amplitude, List.getD_eq_default _ _ (show amplitudeTable.length ≤ level from beyond)]
    exact Nat.zero_le _

/-- A component of a segment, in the reals. -/
noncomputable def sinePart (f n : Nat) : ℝ := if f = 0 then 0 else Real.sin (2 * Real.pi * (f : ℝ) * (n : ℝ) / 8000)

theorem component_close (f n : Nat) : |(component f n : ℝ) - fixOne * sinePart f n| ≤ 2 ^ 35 := by
  unfold component sinePart
  split
  · simp
  · have near := sinFix_close (f * n) (by decide : 0 < 8000)
    push_cast at near
    rwa [← mul_assoc] at near

theorem segmentValue_close (g : Segment) (n : Nat) :
    |(((amplitude g.level : Int) * (component g.f1 n + component g.f2 n) : Int) : ℝ) -
      fixOne * (amplitude g.level * (sinePart g.f1 n + sinePart g.f2 n))| ≤ 2 ^ 55 := by
  have loud : (amplitude g.level : ℝ) ≤ 16384 := by exact_mod_cast amplitude_le g.level
  have factor : (((amplitude g.level : Int) * (component g.f1 n + component g.f2 n) : Int) : ℝ) -
      fixOne * (amplitude g.level * (sinePart g.f1 n + sinePart g.f2 n)) =
      amplitude g.level * ((component g.f1 n - fixOne * sinePart g.f1 n) +
        (component g.f2 n - fixOne * sinePart g.f2 n)) := by
    push_cast
    ring
  have both := (abs_add_le _ _).trans (add_le_add (component_close g.f1 n) (component_close g.f2 n))
  rw [factor, abs_mul, Nat.abs_cast]
  calc _ ≤ (16384 : ℝ) * (2 ^ 35 + 2 ^ 35) := mul_le_mul loud both (abs_nonneg _) (by norm_num)
    _ ≤ 2 ^ 55 := by norm_num

theorem segment_sample_follows (g : Segment) (n : Nat) :
    ∃ y : ℝ, |y - amplitude g.level * (sinePart g.f1 n + sinePart g.f2 n)| ≤ 1 / 2 ^ 39 ∧
      (0 ≤ y → Segment.sample g n = saturate ⌊y⌋) ∧ (y < 0 → Segment.sample g n = saturate ⌈y⌉) := by
  obtain ⟨y, near, floor, ceil⟩ := truncFix_close (segmentValue_close g n)
  exact ⟨y, near, fun h => congrArg saturate (floor h), fun h => congrArg saturate (ceil h)⟩

theorem saturate_toInt_of_abs_le {v : Int} (fits : |v| ≤ 32767) : (saturate v).toInt = v := by
  obtain ⟨low, high⟩ := abs_le.1 fits
  rw [saturate_toInt]
  omega

theorem txValue_close (phase : Nat) : |((3667 * sinFix phase txTurn : Int) : ℝ) -
    fixOne * (3667 * Real.sin (2 * Real.pi * phase / 524288000))| ≤ 2 ^ 55 := by
  have near := sinFix_close phase (by decide : 0 < txTurn)
  rw [show ((txTurn : Nat) : ℝ) = 524288000 by norm_num [txTurn]] at near
  have factor : ((3667 * sinFix phase txTurn : Int) : ℝ) -
      fixOne * (3667 * Real.sin (2 * Real.pi * phase / 524288000)) =
      3667 * (sinFix phase txTurn - fixOne * Real.sin (2 * Real.pi * phase / 524288000)) := by
    push_cast
    ring
  rw [factor, abs_mul, abs_of_pos (by norm_num : (0 : ℝ) < 3667)]
  calc _ ≤ (3667 : ℝ) * 2 ^ 35 := by gcongr
    _ ≤ 2 ^ 55 := by norm_num

/-- A number near a sine of amplitude 3667 keeps its neighbours inside a sample's range. -/
theorem neighbours_fit {y θ : ℝ} (near : |y - 3667 * Real.sin θ| ≤ 1 / 2 ^ 39) : |⌊y⌋| ≤ 32767 ∧ |⌈y⌉| ≤ 32767 := by
  have := Real.neg_one_le_sin θ
  have := Real.sin_le_one θ
  obtain ⟨low, high⟩ := abs_le.1 near
  norm_num at low high
  have y_low : (-4000 : ℝ) ≤ y := by linarith
  have y_high : y ≤ (4000 : ℝ) := by linarith
  have floor_low : (-4000 : Int) ≤ ⌊y⌋ := Int.le_floor.2 (by exact_mod_cast y_low)
  have ceil_high : ⌈y⌉ ≤ (4000 : Int) := Int.ceil_le.2 (by exact_mod_cast y_high)
  have order := Int.floor_le_ceil y
  rw [abs_le, abs_le]
  omega

/-- The value that a caller transmission's sample rounds down. -/
theorem txSample_of_down {phase : Nat} (down : Config.fskRoundsUp phase = false) :
    txSample phase = saturate ⌊((3667 * sinFix phase txTurn + fixSlack : Int) : ℝ) / fixOne⌋ := by
  rw [floor_div_fixOne, txSample, if_neg (by simp [down]), Int.fdiv_eq_ediv_of_nonneg _ (Int.natCast_nonneg _)]
  rfl

/-- The value that it rounds up. -/
theorem txSample_of_up {phase : Nat} (up : Config.fskRoundsUp phase = true) :
    txSample phase = saturate ⌈((3667 * sinFix phase txTurn + -fixSlack : Int) : ℝ) / fixOne⌉ := by
  rw [ceil_div_fixOne, txSample, if_pos up, Int.fdiv_eq_ediv_of_nonneg _ (Int.natCast_nonneg _), neg_add, neg_neg,
    add_comm (-_), ← sub_eq_add_neg]
  rfl

theorem txSample_follows (phase : Nat) :
    ∃ y : ℝ, |y - 3667 * Real.sin (2 * Real.pi * phase / 524288000)| ≤ 1 / 2 ^ 39 ∧
      ((txSample phase).toInt = ⌊y⌋ ∨ (txSample phase).toInt = ⌈y⌉) := by
  cases choice : Config.fskRoundsUp phase with
  | false =>
    have near := slack_close (d := fixSlack) (txValue_close phase) (by decide)
    refine ⟨_, near, Or.inl ?_⟩
    rw [txSample_of_down choice, saturate_toInt_of_abs_le (neighbours_fit near).1]
  | true =>
    have near := slack_close (d := -fixSlack) (txValue_close phase) (by decide)
    refine ⟨_, near, Or.inr ?_⟩
    rw [txSample_of_up choice, saturate_toInt_of_abs_le (neighbours_fit near).2]

/-- Settles O53: the amplitudes by the table's entries, the samples by the error of the fixed-point sine
(`sinFix_close`). -/
theorem samplesFollowTheSine : Obligations.SamplesFollowTheSine := by
  refine ⟨fun level bound => amplitude_bounds level (Nat.lt_succ_of_le bound), fun g n => ?_, txSample_follows⟩
  have part (f : Nat) : (if f = 0 then (0 : ℝ) else (amplitude g.level : ℝ) *
      Real.sin (2 * Real.pi * (f : ℝ) * (n : ℝ) / 8000)) = amplitude g.level * sinePart f n := by
    unfold sinePart
    split <;> simp
  simp only [part, ← mul_add]
  exact segment_sample_follows g n

end Sys2Proof.Machine
end
